-- ==== Sys2Proof/Word.lean ====
section
/-! DEFINITION. The word types of the CP510: a byte and a part time. -/

namespace Sys2Proof

/-- A byte of a record, a transaction or a lens-link packet. -/
abbrev Byte := BitVec 8

/-- A part time: the free-running microsecond counter, modulo 2^32 (00_scope, Conventions, Time). -/
abbrev Time := BitVec 32

end Sys2Proof
end

