-- ==== Sys2Proof/Syntax.lean ====
section
/-! DEFINITION. The commands of the CP510: one constructor of `Instr` per row of spec/opcode_table.json. -/

namespace Sys2Proof

/-- The direction of a transaction (01, section 1.1). -/
inductive Direction where
  | read
  | write
  deriving DecidableEq, Repr

/-- The completion status of a transaction (01, section 1.1). -/
inductive Status where
  | ok
  | error
  deriving DecidableEq, Repr

/-- A transaction as the host delivers it on the frame link (01, section 1.1). `data` and `mask` belong to writes. -/
structure HostTransaction where
  addr : BitVec 32
  dir  : Direction
  len  : Nat
  data : List Byte
  mask : List Bool
  tag  : BitVec 4
  deriving DecidableEq, Repr

/-- The two stepping motors (chapter 6). -/
inductive MotorId where
  | zoom
  | focus
  deriving DecidableEq, Repr

/-- The four header bytes of a reply as LMISO gives them, from a poll on (R129). -/
structure ReplyHeader where
  b0 : Byte
  b1 : Byte
  b2 : Byte
  b3 : Byte
  deriving DecidableEq, Repr

/-- The commands: events on the pins and ports, ends of the part's own work, and the takes of the orders. An order row
is the take of the order at the head of the order queue (R181), so its parameters are not operands
(notes/assumptions/9.md). -/
inductive Instr where
  /-- RESET_N falls (R19). -/
  | resetNAssert
  /-- RESET_N rises with these levels on ANCHOR[2:0] (R19). -/
  | resetNRise (anchor : BitVec 3)
  /-- The frame link offers this transaction (R1). -/
  | hostTransactionAccept (t : HostTransaction)
  /-- The arbiter gives a turn (R16). -/
  | arbiterTurn
  /-- DRAM answers with this tag, status and read data (R3). -/
  | memoryCompletion (tag : BitVec 4) (status : Status) (data : List Byte)
  /-- The memory response timer expires (R17). -/
  | memoryTimeout
  /-- Evaluation of a bank ends (R55). -/
  | evaluationDone
  /-- A result-record half has been written (R57). -/
  | resultWriteDone
  /-- The reply-ring write has completed (R185). -/
  | replyWriteDone
  /-- The status rewrite has completed (R198). -/
  | statusRewriteDone
  /-- A read-back piece has completed (R168). -/
  | readBackPieceDone
  /-- A trailer write has completed (R169). -/
  | trailerWriteDone
  /-- A mirror write has completed (R175). -/
  | mirrorWriteDone
  /-- The round timer expires (R123). -/
  | roundStart
  /-- The request has been shifted out (R129). -/
  | lensRequestSent
  /-- The poll timer expires and header byte 0 is read; where it begins a reply, the other three come in after it (R129;
  notes/assumptions/44.md). -/
  | lensPoll (header : ReplyHeader)
  /-- A reply is discarded (R132). `line` is what LMISO gives after the header. -/
  | replyDiscarded (line : List Byte)
  /-- A SENSED reply is accepted (R118). -/
  | sensed (line : List Byte)
  /-- A MOVED reply is accepted (R108). -/
  | moved (line : List Byte)
  /-- A HOMED reply is accepted (R115). -/
  | homed (line : List Byte)
  /-- The settle time of this motor runs out (R110). -/
  | settleTimeout (motor : MotorId)
  | nop
  | setupFrames
  | setupLens
  | loadTracking
  | start
  | stop
  | setupStore
  | loadWeights
  | meterMode
  | exposureLock
  | focusArea
  | steadyMode
  | supplyLimits
  | clearStatus
  | alertMask
  | focusStart
  | focusCancel
  | focusSet
  | zoomTo
  | zoomStop
  | shoot
  | releaseShot
  | closeSlot
  | freeSlot
  | lensRestart
  | clearSupply
  /-- An order whose code is not in the catalogue is taken (R181). -/
  | unknownOrder
  deriving DecidableEq, Repr

end Sys2Proof
end

