-- ==== Sys2Proof/Config.lean ====
section
/-! DEFINITION. The free values: what the manual leaves without a value. None has a body, so a claim about one holds
for every value it could have (notes/assumptions/22.md). -/

namespace Sys2Proof.Config

/-- The tag of a memory-port transaction, which "changes with every issue" to a value R3 leaves open. The arguments are
`Port.issues` and the last tag; `nextTag` keeps the one limit of R3. -/
opaque freeTag : Nat → BitVec 4 → BitVec 4

/-- The byte at an offset of a mirror record whose field has no value: an empty shot entry, a slot record that is not
present (R175, R205). The first argument is `State.freeCount`, so that two writes may differ. -/
opaque freeMirrorByte : Nat → Nat → Byte

/-- The best-figure field of a result record while the search holds no best (R204 gives no "none" value for its four
bytes). The argument is the record's result sequence number. -/
opaque freeBestFigure : Nat → BitVec 32

/-- The "sum of zone counts" field of a result record when the sum does not fit its four bytes (R204, R69). The
argument is the record's result sequence number. -/
opaque freeCountSum : Nat → BitVec 32

/-- A zone mean of a result record whose quotient passes 4095, the top R56 gives it: only a zone count that has saturated
brings it there (R47). The arguments are the record's result sequence number and the zone (notes/assumptions/45.md). -/
opaque freeMean : Nat → Nat → BitVec 16

/-- The level of LCLK and LMOSI once a request has begun to go out: R129 gives their edges within a byte and no level
between bytes or exchanges, but for the quiet link of R124 and R137. The argument is `State.freeCount`
(notes/assumptions/26.md). -/
opaque freeLine : Nat → Bool × Bool

end Sys2Proof.Config
end

