-- ==== Sys2Proof/Machine/Arith.lean ====
section
/-! DEFINITION. The arithmetic conventions of the manual, EV codes, byte orders, CRCs and the lens header check. -/

namespace Sys2Proof.Machine

/-- "Clamped to lo..hi" on naturals (00_scope, Conventions, Arithmetic). -/
def clampNat (lo hi x : Nat) : Nat := if x < lo then lo else if hi < x then hi else x

/-- "Clamped to lo..hi" on integers (00_scope, Conventions, Arithmetic). -/
def clampInt (lo hi x : Int) : Int := if x < lo then lo else if hi < x then hi else x

/-- A saturating sum that stops at `top` (00_scope, Conventions, Arithmetic). -/
def satAdd (top a b : Nat) : Nat := min top (a + b)

/-- The largest values of a 16-, 32- and 48-bit saturating quantity. -/
def max16 : Nat := 0xFFFF
@[inherit_doc max16] def max32 : Nat := 0xFFFFFFFF
@[inherit_doc max16] def max48 : Nat := 0xFFFFFFFFFFFF

/-- The signed 32-bit difference of two part times (R29, R147). -/
def timeDiff (a b : Time) : Int := (a - b).toInt

/-- Microseconds of part time since an event. -/
def elapsed (now since : Time) : Nat := (now - since).toNat

/-- The quotient of `a` by `b` rounded to nearest, halves away from zero (00_scope, Conventions, Arithmetic). -/
def roundDiv (a : Int) (b : Nat) : Int :=
  if a < 0 then -(((2 * a.natAbs + b) / (2 * b) : Nat) : Int) else ((2 * a.natAbs + b) / (2 * b) : Nat)

/-- lg of an integer at least 1 (R60). -/
def lg (x : Nat) : Nat :=
  let k := Nat.log2 x
  32 * k + (if 5 ≤ k then x >>> (k - 5) - 32 else x <<< (5 - k) - 32)

/-- ex of a code (R61). -/
def ex (c : Nat) : Nat :=
  let k := c / 32
  let f := c % 32
  if 5 ≤ k then (32 + f) <<< (k - 5) else (32 + f) >>> (5 - k)

/-! ### Bytes -/

/-- The byte at an index, 0 beyond the end. -/
def byteAt (bs : List Byte) (i : Nat) : Byte := bs.getD i 0

/-- The unsigned little-endian field of `n` bytes at an offset (R200, R202). -/
def readLe (bs : List Byte) (off : Nat) : Nat → Nat
  | 0 => 0
  | n + 1 => (byteAt bs off).toNat + 256 * readLe bs (off + 1) n

/-- The two's-complement reading of an n-bit value (R200). -/
def signedOf (bits x : Nat) : Int := if x < 2 ^ (bits - 1) then (x : Int) else (x : Int) - 2 ^ bits

/-- The signed 16-bit little-endian field at an offset (R202). -/
def readLeSigned16 (bs : List Byte) (off : Nat) : Int := signedOf 16 (readLe bs off 2)

/-- The big-endian 16-bit field of a lens-link payload (R126). -/
def readBe16 (bs : List Byte) (off : Nat) : Nat := 256 * (byteAt bs off).toNat + (byteAt bs (off + 1)).toNat

/-- `n` bytes of a value, least significant first (R200). -/
def le (x : Nat) : Nat → List Byte
  | 0 => []
  | n + 1 => BitVec.ofNat 8 x :: le (x / 256) n

/-- `n` bytes of a signed value in two's complement, least significant first (R200). -/
def leSigned (x : Int) (n : Nat) : List Byte := le (x % (256 ^ n : Nat)).toNat n

/-- Two bytes of a signed value, most significant first (R126). -/
def beSigned16 (x : Int) : List Byte := (leSigned x 2).reverse

/-- A flag as a number: 1 when set (R200). -/
def flag (b : Bool) : Nat := if b then 1 else 0

/-- The value of a list of flags, bit 0 first (R200). -/
def flagBits : List Bool → Nat
  | [] => 0
  | b :: bs => flag b + 2 * flagBits bs

/-- `n` bytes of 0, for the bytes a layout does not use (R200). -/
def zeros (n : Nat) : List Byte := List.replicate n 0

/-- A list cut or filled to length `n` with zero bytes. -/
def fit (n : Nat) (bs : List Byte) : List Byte := (bs ++ zeros n).take n

/-! ### CRCs -/

/-- One bit of the CRC-16 (R128). -/
def crc16Bit (r : BitVec 16) : BitVec 16 := if r.msb then (r <<< 1) ^^^ 0x1021#16 else r <<< 1

/-- One byte into the CRC-16, most significant bit first (R128). -/
def crc16Byte (r : BitVec 16) (b : Byte) : BitVec 16 :=
  (List.range 8).foldl (fun r _ => crc16Bit r) (r ^^^ (b.setWidth 16 <<< 8))

/-- The payload CRC of the lens link (R128). -/
def crc16 (bs : List Byte) : BitVec 16 := bs.foldl crc16Byte 0xFFFF#16

/-- One bit of the reflected CRC-32 (R168): 0xEDB88320 is 0x04C11DB7 with its bits reversed. -/
def crc32Bit (r : BitVec 32) : BitVec 32 := if r.getLsbD 0 then (r >>> 1) ^^^ 0xEDB88320#32 else r >>> 1

/-- One byte into the CRC-32, least significant bit first (R168). -/
def crc32Byte (r : BitVec 32) (b : Byte) : BitVec 32 :=
  (List.range 8).foldl (fun r _ => crc32Bit r) (r ^^^ b.setWidth 32)

/-- Bytes fed into the CRC-32 register in address order (R168). -/
def crc32Feed (r : BitVec 32) (bs : List Byte) : BitVec 32 := bs.foldl crc32Byte r

/-- The initial CRC-32 register (R168). -/
def crc32Init : BitVec 32 := 0xFFFFFFFF#32

/-- The final XOR of the CRC-32 (R168). -/
def crc32Final (r : BitVec 32) : BitVec 32 := r ^^^ 0xFFFFFFFF#32

/-! ### The lens header check -/

/-- The code position of each data bit D0..D23 (R127). -/
def codePositions : List Nat := [3, 5, 6, 7] ++ (List.range 7).map (· + 9) ++ (List.range 13).map (· + 17)

/-- The 24 data bits of header bytes 0..2, D0 first (R127). -/
def dataBits (b0 b1 b2 : Byte) : List Bool :=
  [b0, b1, b2].flatMap fun b => (List.range 8).map b.getLsbD

/-- The XOR of the code positions of the data bits that are 1 (R127). -/
def positionsXor (b0 b1 b2 : Byte) : Nat :=
  ((dataBits b0 b1 b2).zip codePositions).foldl (fun acc p => if p.1 then acc ^^^ p.2 else acc) 0

/-- The XOR of a list of bits. -/
def parity (bits : List Bool) : Bool := bits.foldl xor false

/-- Header byte 3: C0..C4 in bits 0..4 and C5 in bit 5 (R127). -/
def headerCheck (b0 b1 b2 : Byte) : Byte :=
  let c := BitVec.ofNat 5 (positionsXor b0 b1 b2)
  let c5 := parity (dataBits b0 b1 b2 ++ (List.range 5).map c.getLsbD)
  BitVec.ofNat 8 (c.toNat + 32 * flag c5)

/-- The syndrome s of a received header (R130). -/
def headerSyndrome (b0 b1 b2 b3 : Byte) : Nat := positionsXor b0 b1 b2 ^^^ (b3.toNat % 32)

/-- The parity p of a received header (R130). -/
def headerParity (b0 b1 b2 b3 : Byte) : Bool :=
  parity (dataBits b0 b1 b2 ++ (List.range 6).map b3.getLsbD)

/-- The three bytes with the data bit at a code position inverted; a check position leaves them as received (R130). -/
def invertAt (b0 b1 b2 : Byte) (s : Nat) : Byte × Byte × Byte :=
  match codePositions.findIdx? (· == s) with
  | none => (b0, b1, b2)
  | some j =>
    let m := (1#24 <<< j)
    (b0 ^^^ m.extractLsb' 0 8, b1 ^^^ m.extractLsb' 8 8, b2 ^^^ m.extractLsb' 16 8)

/-- The judgement of a received header (R130): the header as taken, with whether it was corrected, or `none` when it is
discarded. A wrong C5 alone is taken as received and is no correction (notes/assumptions/38.md). -/
def judgeHeader (b0 b1 b2 b3 : Byte) : Option ((Byte × Byte × Byte) × Bool) :=
  let s := headerSyndrome b0 b1 b2 b3
  let p := headerParity b0 b1 b2 b3
  if s = 0 then some ((b0, b1, b2), false)
  else if s ≤ 29 ∧ p then some (invertAt b0 b1 b2 s, true)
  else none

end Sys2Proof.Machine
end

