-- ==== Sys2Proof/Machine/State.lean ====
section
/-! DEFINITION. The state of the CP510, block by block in the order of the manual's chapters, the reasons a step can
stop, and the state after reset. -/

namespace Sys2Proof.Machine

/-! ### Part state, clock -/

/-- The part state (R191). -/
inductive PartState where
  | config
  | homing
  | running
  | parking
  deriving DecidableEq, Repr

/-! ### Through-path (chapter 1) -/

/-- The RAW window entry (01, section 1.2). -/
structure RawWindow where
  base  : Nat
  size  : Nat
  bufsz : Nat
  deriving DecidableEq, Repr

/-- The VIEW window entry (01, section 1.2, R10). -/
structure ViewWindow where
  base   : Nat
  size   : Nat
  vl     : Nat
  vsz    : Nat
  mx     : Nat
  my     : Nat
  stride : Nat
  bufsz  : Nat
  deriving DecidableEq, Repr

/-- The POOL window entry (01, section 1.2). -/
structure PoolWindow where
  base  : Nat
  size  : Nat
  bufsz : Nat
  deriving DecidableEq, Repr

/-- The PICTURE window entry (01, section 1.2, R164). -/
structure PictureWindow where
  base     : Nat
  size     : Nat
  slots    : Nat
  slotSize : Nat
  deriving DecidableEq, Repr

/-- The window table; `none` is "not set up" (R4). The CONTROL entry is the anchor, always active. -/
structure Windows where
  control : Nat
  raw     : Option RawWindow
  view    : Option ViewWindow
  pool    : Option PoolWindow
  picture : Option PictureWindow
  deriving DecidableEq, Repr

/-- A completion returned to the host on the frame link (01, section 1.1). -/
structure HostCompletion where
  tag    : BitVec 4
  status : Status
  data   : List Byte
  deriving DecidableEq, Repr

/-- One piece of a VIEW read (R11): a run of consecutive DRAM bytes. -/
structure Piece where
  addr : Nat
  len  : Nat
  deriving DecidableEq, Repr

/-- The VIEW read in progress: the pieces not yet issued and the data of those that ended (R11). -/
structure ViewRead where
  pieces : List Piece
  data   : List Byte
  deriving DecidableEq, Repr

/-- The four owners of own transactions (R3). -/
inductive Owner where
  | orderUnit
  | statistics
  | status
  | store
  deriving DecidableEq, Repr

/-- An own transaction in the own queue, stamped with the part time of its request (R3). -/
structure OwnTransaction where
  owner     : Owner
  addr      : Nat
  dir       : Direction
  len       : Nat
  data      : List Byte
  mask      : List Bool
  requested : Time
  deriving DecidableEq, Repr

/-- Whom the transaction in flight serves: the head host transaction (with the slot and slot offset of a PICTURE read,
R14), a piece of the VIEW read, or an owner. -/
inductive FlightKind where
  | host (picture : Option (Nat × Nat))
  | piece
  | own (owner : Owner)
  deriving DecidableEq, Repr

/-- The transaction in flight on the memory port, with the issue time its response timer runs from (R3, R17). -/
structure Flight where
  kind   : FlightKind
  addr   : Nat
  dir    : Direction
  len    : Nat
  data   : List Byte
  mask   : List Bool
  tag    : BitVec 4
  issued : Time
  deriving DecidableEq, Repr

/-- An own transaction that completed OK, with its read data, not yet acted on by its owner. -/
structure Told where
  owner : Owner
  data  : List Byte
  deriving DecidableEq, Repr

/-- The inbound queue, the own queue and the memory port (R1 to R3, R16). `issues`, the model's own, counts the issues:
`Config.freeTag` is applied to it. -/
structure Port where
  inbound : List HostTransaction
  view    : Option ViewRead
  own     : List OwnTransaction
  flight  : Option Flight
  tag     : BitVec 4
  issues  : Nat
  told    : List Told
  deriving DecidableEq, Repr

/-! ### Frames block (chapter 2) -/

/-- The raw geometry and the two related settings of SETUP_FRAMES (R20); P is L + S. -/
structure Geometry where
  w      : Nat
  h      : Nat
  stride : Nat
  mx     : Nat
  my     : Nat
  l      : Nat
  s      : Nat
  gp     : Nat
  lat    : Nat
  deriving DecidableEq, Repr

/-- An entry of the buffer map (R21). -/
structure MapEntry where
  phys : Nat
  ox   : Int
  oy   : Int
  deriving DecidableEq, Repr

/-- The states of a frame record (02, section 2.3). -/
inductive FrameState where
  | empty
  | filling
  | complete
  | pinned
  deriving DecidableEq, Repr

/-- The two statistics banks (03, section 3.1). -/
inductive BankId where
  | bank0
  | bank1
  deriving DecidableEq, Repr

/-- The phases of a focus search (05, section 5.1). -/
inductive Phase where
  | travel
  | sample
  | final
  deriving DecidableEq, Repr

/-- The reasons of FAILED (05, section 5.1). -/
inductive FocusFailure where
  | lowContrast
  | noFrames
  | cancelled
  | lens
  deriving DecidableEq, Repr

/-- The focus state, with the phase of a search and the reason of a failure (05, section 5.1). -/
inductive FocusState where
  | idle
  | searching (phase : Phase)
  | locked
  | tracking
  | failed (reason : FocusFailure)
  deriving DecidableEq, Repr

/-- A frame record (02, section 2.3). `atCompletion` is the focus state and d at completion; it and `completion` are
`none` until then (R28). The owner is not stored: it is read from the map. -/
structure FrameRecord where
  state         : FrameState
  number        : Nat
  tH            : Time
  tHdr          : Nat
  gHdr          : Nat
  readout       : Nat
  aF            : Nat
  zoomPos       : Nat
  focusPos      : Nat
  focusStill    : Bool
  bank          : Option BankId
  received      : Nat
  short         : Bool
  cut           : Bool
  notMetered    : Bool
  motionPartial : Bool
  badExposure   : Bool
  ox            : Int
  oy            : Int
  m             : Nat
  atCompletion  : Option (FocusState × Nat)
  completion    : Option Time
  deriving DecidableEq, Repr

/-- The Frames block (02): geometry (held exactly while the frames-set-up flag is set), buffer map, free list, frame
table, frame-number counter. -/
structure Frames where
  geometry : Option Geometry
  map      : List MapEntry
  free     : List Nat
  table    : List FrameRecord
  number   : Nat
  deriving DecidableEq, Repr

/-! ### Statistics unit (chapter 3) -/

/-- The states of a bank (R43). -/
inductive BankState where
  | free
  | accumulating
  | waiting
  | evaluating
  | writing
  deriving DecidableEq, Repr

/-- The line carry's entry: pixel line, column, raw value (R51). -/
structure Site where
  y : Nat
  x : Nat
  v : Nat
  deriving DecidableEq, Repr

/-- The settings copy of a bank with the focus cells it derives (R44, R49). -/
structure BankSettings where
  gp    : Nat
  blk   : Nat
  white : Nat
  core  : Nat
  fx    : Nat
  fy    : Nat
  cw    : Nat
  ch    : Nat
  deriving DecidableEq, Repr

/-- The frame record as handed on at completion, with its owner (R35, R56). -/
structure RecordCopy where
  record : FrameRecord
  owner  : Nat
  deriving DecidableEq, Repr

/-- A bank (03, section 3.1). `stale` is the START marker (R77). -/
structure Bank where
  state    : BankState
  number   : Nat
  buffer   : Nat
  sums     : List Nat
  counts   : List Nat
  bins     : List Nat
  clip     : Nat
  cells    : List Nat
  carry    : Option Site
  settings : BankSettings
  copy     : Option RecordCopy
  stale    : Bool
  deriving DecidableEq, Repr

/-- The result record being written: its bank, ring entry, 512 bytes and whether the second half has been requested
(R55, R57). -/
structure ResultWriter where
  bank       : BankId
  entry      : Nat
  bytes      : List Byte
  secondHalf : Bool
  deriving DecidableEq, Repr

/-- The Statistics unit (03). -/
structure Stats where
  bank0     : Bank
  bank1     : Bank
  nextEntry : Nat
  seq       : Nat
  newest    : Option Nat
  writer    : Option ResultWriter
  deriving DecidableEq, Repr

/-! ### Exposure unit (chapter 4) -/

/-- The metering settings (04, section 4.2). -/
structure Metering where
  tgt     : Nat
  c       : Int
  db      : Nat
  sMin    : Nat
  sMaxCfg : Nat
  gMax    : Nat
  boost   : Nat
  blk     : Nat
  white   : Nat
  deriving DecidableEq, Repr

/-- The published plan; `code` is the shutter code, absent in the initial plan (04, section 4.2). -/
structure Plan where
  t      : Nat
  gain   : Nat
  code   : Option Nat
  origin : Nat
  deriving DecidableEq, Repr

/-- The Exposure unit (04). -/
structure Exposure where
  weights   : List Nat
  settings  : Metering
  lock      : Bool
  plan      : Plan
  converged : Bool
  underLive : Bool
  overLive  : Bool
  deriving DecidableEq, Repr

/-! ### Focus unit (chapter 5) -/

/-- The settings of FOCUS_AREA (R81). -/
structure FocusSettings where
  fx   : Nat
  fy   : Nat
  fw   : Nat
  fh   : Nat
  core : Nat
  minc : Nat
  deriving DecidableEq, Repr

/-- The figure mode (R82). -/
inductive FigureMode where
  | wide
  | spot
  deriving DecidableEq, Repr

/-- An entry of the focus trail: sample position and NF (R88). -/
structure TrailEntry where
  pos : Nat
  nf  : Nat
  deriving DecidableEq, Repr

/-- The search record (R85); `sampleStart` is the part time of entry into SAMPLE (R86). -/
structure SearchRecord where
  zs          : Nat
  lo          : Nat
  hi          : Nat
  step        : Nat
  ps          : Nat
  up          : Bool
  reversed    : Bool
  best        : Option TrailEntry
  falls       : Nat
  sample      : Nat
  resolved    : Nat
  sampleStart : Time
  deriving DecidableEq, Repr

/-- The Focus unit (05). -/
structure Focus where
  state    : FocusState
  d        : Nat
  settings : FocusSettings
  mode     : FigureMode
  search   : Option SearchRecord
  trail    : List TrailEntry
  deriving DecidableEq, Repr

/-! ### Lens drive (chapter 6) -/

/-- A knot of the tracking table (06, section 6.1). -/
structure Knot where
  pInf  : Nat
  pNear : Nat
  a     : Nat
  sLim  : Nat
  ppd16 : Nat
  deriving DecidableEq, Repr

/-- The lens settings (R103). -/
structure LensSettings where
  delta       : Nat
  fmax        : Nat
  backlash    : Nat
  zoomSettle  : Nat
  focusSettle : Nat
  park        : Nat
  period      : Nat
  deriving DecidableEq, Repr

/-- The states of a motor record (06, section 6.3). -/
inductive MotorState where
  | unhomed
  | homing
  | idle
  | moving
  | settling
  | stalled
  | faulted
  deriving DecidableEq, Repr

/-- Why a motor is FAULTED (06, section 6.3). -/
inductive MotorFault where
  | none
  | link
  | noHome
  | range
  deriving DecidableEq, Repr

/-- A motor record (06, section 6.3). `overshoot` is the phase. `settleStart` is the part time the motor entered
SETTLING, which R110 counts from. -/
structure Motor where
  state         : MotorState
  position      : Nat
  target        : Nat
  aim           : Nat
  overshoot     : Bool
  speed         : Nat
  uncertain     : Bool
  stillSince    : Time
  zoomToPending : Bool
  travel        : Nat
  refSeen       : Bool
  fault         : MotorFault
  lastSteps     : Int
  settleStart   : Time
  deriving DecidableEq, Repr

/-- The supply monitor (06, section 6.8). -/
structure Supply where
  lastV       : Nat
  lastI       : Nat
  lastP       : Nat
  energy      : Nat
  rollover    : Nat
  samples     : Nat
  peakI       : Nat
  peakP       : Nat
  overCurrent : Bool
  lensLow     : Bool
  stallCount  : Nat
  iWarn       : Nat
  iHyst       : Nat
  iStall      : Nat
  vLow        : Nat
  vHyst       : Nat
  deriving DecidableEq, Repr

/-- The Lens drive (06). `zoomHomed` says that the zoom was homed in the homing now running (R116). -/
structure Lens where
  knots     : List Knot
  settings  : LensSettings
  zoom      : Motor
  focus     : Motor
  zoomHomed : Bool
  supply    : Supply
  deriving DecidableEq, Repr

/-! ### Lens link (chapter 7) -/

/-- The addressed devices: 0, 1 and 2 on the link. -/
inductive Target where
  | sensing
  | zoom
  | focus
  deriving DecidableEq, Repr

/-- The requests (R126). -/
inductive Request where
  | sense
  | move (steps : Int) (rate : Nat)
  | home
  deriving DecidableEq, Repr

/-- The states of an exchange before it ends (07, section 7.3); READING holds the reply's header bytes. -/
inductive ExchangeState where
  | sending
  | waiting
  | reading (header : ReplyHeader)
  deriving DecidableEq, Repr

/-- The exchange in progress (R129). `bytes` is the packet shifted out on LMOSI; `pollBase` is when the request's last
byte went out or the last poll was made; `headerIn` is whether the reply's header is in and its correction counted (R130;
notes/assumptions/44.md). -/
structure Exchange where
  target   : Target
  request  : Request
  state    : ExchangeState
  seq      : BitVec 8
  bytes    : List Byte
  pollBase : Time
  headerIn : Bool
  deriving DecidableEq, Repr

/-- The turn of the round that came last (R124). -/
inductive Turn where
  | sensing
  | focus
  | zoom
  | done
  deriving DecidableEq, Repr

/-- The Lens link (07). `lselN`, `lclk` and `lmosi` are the levels of its outputs (R129, R137). -/
structure Link where
  roundStart     : Time
  period         : Nat
  seq            : BitVec 8
  turn           : Turn
  exchange       : Option Exchange
  failSensing    : Nat
  failZoom       : Nat
  failFocus      : Nat
  sensingFaulted : Bool
  lselN          : Bool
  lclk           : Bool
  lmosi          : Bool
  deriving DecidableEq, Repr

/-! ### Steadying unit (chapter 8) -/

/-- The steadying settings (08, section 8.1); `negX` and `negY` are the axis signs −1. -/
structure SteadySettings where
  on   : Bool
  k    : Nat
  negX : Bool
  negY : Bool
  qr   : Nat
  qn   : Nat
  kq   : Nat
  deriving DecidableEq, Repr

/-- The steadying state (R141). -/
inductive SteadyState where
  | off
  | active
  | faulted
  deriving DecidableEq, Repr

/-- A gyro history entry (08, section 8.2). -/
structure GyroEntry where
  time : Time
  rx   : Int
  ry   : Int
  ax   : Int
  ay   : Int
  deriving DecidableEq, Repr

/-- The Steadying unit (08), history oldest first; `quiet` is whether quiet holds, as judged at the last sample with the QN
then in use (R140, R143), and `view` is the sensing-faulted view (R139). -/
structure Steady where
  settings : SteadySettings
  state    : SteadyState
  ax       : Int
  ay       : Int
  lastRx   : Int
  lastRy   : Int
  quietRun : Nat
  quiet    : Bool
  view     : Bool
  history  : List GyroEntry
  ox       : Int
  oy       : Int
  m        : Nat
  deriving DecidableEq, Repr

/-! ### Store (chapter 9) -/

/-- The frame snapshot of a shot record (R155). -/
structure Snapshot where
  number        : Nat
  tHdr          : Nat
  gHdr          : Nat
  aF            : Nat
  zoomPos       : Nat
  focusPos      : Nat
  focusAt       : FocusState
  dAt           : Nat
  m             : Nat
  ox            : Int
  oy            : Int
  short         : Bool
  motionPartial : Bool
  badExposure   : Bool
  deriving DecidableEq, Repr

/-- A shot record (R155). -/
structure Shot where
  id       : Nat
  buffer   : Nat
  slot     : Nat
  snapshot : Snapshot
  ppd16    : Nat
  deriving DecidableEq, Repr

/-- An entry of the recent-completion list (R156). -/
structure Recent where
  number : Nat
  buffer : Nat
  deriving DecidableEq, Repr

/-- A candidate of the SHOOT in flight (R157). -/
structure Candidate where
  number : Nat
  buffer : Nat
  m      : Nat
  deriving DecidableEq, Repr

/-- The record of the SHOOT in flight (R157). The order slot the reply is owed to is in its hold-list entry (R188). -/
structure Inflight where
  b          : Nat
  f          : Nat
  q          : Nat
  needFocus  : Bool
  ahead      : Nat
  candidates : List Candidate
  clamped    : Bool
  deriving DecidableEq, Repr

/-- The states of a picture slot (09, section 9.3). -/
inductive SlotState where
  | free
  | reserved
  | filling
  | closing
  | closed
  | draining
  | drained
  deriving DecidableEq, Repr

/-- A slot record (09, section 9.3). -/
structure Slot where
  state         : SlotState
  shotId        : Option Nat
  high          : Nat
  length        : Nat
  check         : BitVec 32
  checkValid    : Bool
  cursor        : Nat
  drainVerified : Bool
  drainCrc      : BitVec 32
  deriving DecidableEq, Repr

/-- The close work record of a CLOSING slot (R167 to R169): the next read-back piece, the CRC register, and once built
the trailer and how many of its bytes have been written. -/
structure CloseWork where
  slot     : Nat
  id       : Nat
  length   : Nat
  snapshot : Snapshot
  ppd16    : Nat
  piece    : Nat
  crc      : BitVec 32
  trailer  : Option (List Byte)
  written  : Nat
  deriving DecidableEq, Repr

/-- The own transaction the Store has requested (R175). -/
inductive StoreRequest where
  | shotMirror (entry : Nat)
  | slotMirror (slot : Nat)
  | piece
  | trailer (bytes : Nat)
  deriving DecidableEq, Repr

/-- The Store (09). -/
structure Store where
  shots      : List (Option Shot)
  lastId     : Nat
  recent     : List Recent
  inflight   : Option Inflight
  slots      : List Slot
  lowWater   : Nat
  closeQueue : List CloseWork
  shotDirty  : List Bool
  slotDirty  : List Bool
  request    : Option StoreRequest
  deriving DecidableEq, Repr

/-! ### Order unit (chapter 10) -/

/-- A posted order: the order slot's index and its 64 bytes (R180). Its place in posting order is its place in the
list that holds it. -/
structure Posted where
  slot  : Nat
  bytes : List Byte
  deriving DecidableEq, Repr

/-- An entry of the hold list (10, section 10.6). -/
structure Held where
  order : Posted
  shoot : Bool
  deriving DecidableEq, Repr

/-- The Order unit (10). `carried` is the set of entries the requested reply write carries. -/
structure Orders where
  shadow  : List Byte
  queue   : List Posted
  hold    : List Held
  image   : List (List Byte)
  dirty   : List Bool
  carried : Option (List Bool)
  deriving DecidableEq, Repr

/-! ### Status unit (chapter 11) -/

/-- The eleven counters, in the order of R195. -/
structure Counters where
  tornHeader      : Nat
  lateWrite       : Nat
  viewWrite       : Nat
  cutFrame        : Nat
  notMetered      : Nat
  protectedWrite  : Nat
  queueFull       : Nat
  correctedHeader : Nat
  discardedReply  : Nat
  missingReply    : Nat
  heldSample      : Nat
  deriving DecidableEq, Repr

/-- What the status block shows of a motor record (06, section 6.3; R203). -/
structure MotorView where
  state     : MotorState
  fault     : MotorFault
  uncertain : Bool
  position  : Nat
  target    : Nat
  lastSteps : Int
  deriving DecidableEq, Repr

/-- The content of the status block but for the rewrite sequence number (R198, R199, R203). -/
structure Content where
  partState      : PartState
  converged      : Bool
  underLive      : Bool
  overLive       : Bool
  storeLow       : Bool
  quiet          : Bool
  sensingFaulted : Bool
  latched        : BitVec 28
  newest         : Option Nat
  liveShots      : Nat
  mask           : BitVec 28
  counters       : Counters
  freeSlots      : Nat
  plan           : Plan
  focus          : FocusState
  d              : Nat
  zoom           : MotorView
  focusMotor     : MotorView
  supply         : Supply
  steadyOn       : Bool
  roundStart     : Time
  period         : Nat
  roundSeq       : BitVec 8
  failSensing    : Nat
  failZoom       : Nat
  failFocus      : Nat
  steadyState    : SteadyState
  historyCount   : Nat
  ax             : Int
  ay             : Int
  rateX          : Int
  rateY          : Int
  ox             : Int
  oy             : Int
  m              : Nat
  deriving DecidableEq, Repr

/-- A copy of the block as a rewrite carries it: the rewrite sequence number and the content (R198). -/
structure BlockCopy where
  seq     : Nat
  content : Content
  deriving DecidableEq, Repr

/-- The Status unit (11). `writing` is the copy in flight, `none` in IDLE (R198). -/
structure StatusUnit where
  latched   : BitVec 28
  counters  : Counters
  mask      : BitVec 28
  seq       : Nat
  dirty     : Bool
  writing   : Option BlockCopy
  published : Option BlockCopy
  deriving DecidableEq, Repr

end Sys2Proof.Machine

namespace Sys2Proof.Machine

/-- The whole machine. `pending`, `hostOut` and `freeCount` are the model's own (INVENTORY.md, State). -/
structure State where
  pending   : List Instr
  hostOut   : List HostCompletion
  freeCount : Nat
  resetN    : Bool
  partTime  : Time
  partState : PartState
  attn      : Bool
  windows   : Windows
  port      : Port
  frames    : Frames
  stats     : Stats
  exposure  : Exposure
  focus     : Focus
  lens      : Lens
  link      : Link
  steady    : Steady
  store     : Store
  orders    : Orders
  status    : StatusUnit
  deriving DecidableEq, Repr

/-- Why the machine stops with a fault: never. The manual gives every event an effect (INVENTORY.md, Faults), so no
command raises a fault and the type has no constructor. -/
inductive Fault where
  deriving DecidableEq, Repr

/-- Why a command has no meaning. -/
inductive Refusal where
  /-- A row of the opcode table without a meaning in the model; raised by `exec` alone. Safe: the machine stops. No
  arm of `exec` raises it now. -/
  | notModelled (mnemonic : String)
  deriving DecidableEq, Repr

/-! ### Reset values -/

/-- An empty frame record; its other fields have no meaning (02, section 2.3; notes/assumptions/15.md). -/
def FrameRecord.empty : FrameRecord :=
  { state := .empty, number := 0, tH := 0, tHdr := 0, gHdr := 0, readout := 0, aF := 0, zoomPos := 0, focusPos := 0,
    focusStill := false, bank := none, received := 0, short := false, cut := false, notMetered := false,
    motionPartial := false, badExposure := false, ox := 0, oy := 0, m := 0, atCompletion := none,
    completion := none }

/-- A FREE bank with its contents discarded (R52, R59; notes/assumptions/30.md). -/
def Bank.released : Bank :=
  { state := .free, number := 0, buffer := 0, sums := List.replicate 64 0, counts := List.replicate 64 0,
    bins := List.replicate 64 0, clip := 0, cells := List.replicate 9 0, carry := none,
    settings := { gp := 0, blk := 0, white := 0, core := 0, fx := 0, fy := 0, cw := 0, ch := 0 },
    copy := none, stale := false }

/-- The initial plan (04, section 4.2). -/
def Plan.initial : Plan :=
  { t := 10000, gain := 0, code := none, origin := 0 }

/-- A motor record after RESET_N and after SETUP_LENS and LOAD_TRACKING (R104). -/
def Motor.unhomed : Motor :=
  { state := .unhomed, position := 0, target := 0, aim := 0, overshoot := false, speed := 8, uncertain := false,
    stillSince := 0, zoomToPending := false, travel := 0, refSeen := false, fault := .none, lastSteps := 0,
    settleStart := 0 }

/-- The supply monitor after RESET_N (06, section 6.8). -/
def Supply.reset : Supply :=
  { lastV := 0, lastI := 0, lastP := 0, energy := 0, rollover := 0, samples := 0, peakI := 0, peakP := 0,
    overCurrent := false, lensLow := false, stallCount := 0, iWarn := 65535, iHyst := 0, iStall := 65535, vLow := 0,
    vHyst := 0 }

/-- A slot record at its FREE values (09, section 9.3). -/
def Slot.freed : Slot :=
  { state := .free, shotId := none, high := 0, length := 0, check := 0, checkValid := false, cursor := 0,
    drainVerified := false, drainCrc := 0xFFFFFFFF#32 }

/-- The counters after RESET_N and after a clear (R195). -/
def Counters.zero : Counters :=
  { tornHeader := 0, lateWrite := 0, viewWrite := 0, cutFrame := 0, notMetered := 0, protectedWrite := 0,
    queueFull := 0, correctedHeader := 0, discardedReply := 0, missingReply := 0, heldSample := 0 }

/-- The alert mask after RESET_N: the six faults, bits 5, 11, 12, 16, 19 and 21 of the order of R194 (R197, R200). -/
def alertMaskDefault : BitVec 28 := 0x0291820#28

/-- The anchor for ANCHOR value n: 0x0100_0000 × (n + 1) − 0x4000 (00_scope, Anchor addresses). -/
def anchorAddress (n : BitVec 3) : Nat := 0x01000000 * (n.toNat + 1) - 0x4000

/-- Every field at the value the manual states for after RESET_N (R4, R19, R40, R59, R62, R80, R100, R103, R104, R138,
R139, R177, R190, R191, R199), with RESET_N high, for this anchor setting, last memory-port tag and count of
issues. -/
def State.afterReset (anchor : BitVec 3) (tag : BitVec 4) (issues : Nat) : State :=
  { pending := []
    hostOut := []
    freeCount := 0
    resetN := true
    partTime := 0
    partState := .config
    attn := false
    windows := { control := anchorAddress anchor, raw := none, view := none, pool := none, picture := none }
    port := { inbound := [], view := none, own := [], flight := none, tag := tag, issues := issues, told := [] }
    frames := { geometry := none, map := [], free := [], table := [], number := 0 }
    stats :=
      { bank0 := Bank.released, bank1 := Bank.released, nextEntry := 0, seq := 0, newest := none, writer := none }
    exposure :=
      { weights := List.replicate 64 1
        settings :=
          { tgt := 460, c := 0, db := 2, sMin := 222, sMaxCfg := 637, gMax := 192, boost := 64, blk := 64,
            white := 4000 }
        lock := false, plan := Plan.initial, converged := false, underLive := false, overLive := false }
    focus :=
      { state := .idle, d := 0, settings := { fx := 0, fy := 0, fw := 8192, fh := 6144, core := 8, minc := 1024 },
        mode := .wide, search := none, trail := [] }
    lens :=
      { knots := List.replicate 33 { pInf := 0, pNear := 0, a := 0, sLim := 0, ppd16 := 0 }
        settings :=
          { delta := 32, fmax := 4095, backlash := 0, zoomSettle := 0, focusSettle := 0, park := 0, period := 1000 }
        zoom := Motor.unhomed, focus := Motor.unhomed, zoomHomed := false, supply := Supply.reset }
    link :=
      { roundStart := 0, period := 1000, seq := 0, turn := .done, exchange := none, failSensing := 0, failZoom := 0,
        failFocus := 0, sensingFaulted := false, lselN := true, lclk := false, lmosi := false }
    steady :=
      { settings := { on := false, k := 10, negX := false, negY := false, qr := 64, qn := 0, kq := 6 }
        state := .off, ax := 0, ay := 0, lastRx := 0, lastRy := 0, quietRun := 0, quiet := false, view := false,
        history := [], ox := 0, oy := 0, m := 0 }
    store :=
      { shots := List.replicate 4 none, lastId := 0, recent := [], inflight := none, slots := [], lowWater := 0,
        closeQueue := [], shotDirty := List.replicate 4 true, slotDirty := List.replicate 64 true, request := none }
    orders :=
      { shadow := List.replicate 1024 0, queue := [], hold := [], image := List.replicate 16 (List.replicate 16 0),
        dirty := List.replicate 16 false, carried := none }
    status :=
      { latched := 0, counters := Counters.zero, mask := alertMaskDefault, seq := 0, dirty := true, writing := none,
        published := none } }

/-- The machine right after reset. The manual leaves ANCHOR to the board and the tag unstated; 0 is taken for both
(notes/assumptions/5.md, notes/assumptions/6.md). -/
def State.reset : State := State.afterReset 0 0 0

end Sys2Proof.Machine
end

