-- ==== Sys2Proof/Machine/Flags.lean ====
section
/-! DEFINITION. Latched status bits, their groups and conditions, the counters, and the live conditions and values that
are computed from the state (chapter 11). -/

namespace Sys2Proof.Machine

/-- The latched bits, in the order of R194. -/
inductive LatchedBit where
  | tornHeader
  | lateWrite
  | viewWrite
  | frameCut
  | notMetered
  | memTimeout
  | noData
  | underBit
  | overBit
  | focusLocked
  | focusFailed
  | stall
  | lensFault
  | overCurrent
  | lensLow
  | gyroHeld
  | gyroFault
  | cropLimit
  | protect
  | checkMismatch
  | drainUnverified
  | closeFailed
  | storeLow
  | replyReady
  | queueFull
  | frameDone
  | zoomDone
  | shotDone
  deriving DecidableEq, Repr

/-- The number of a latched bit, 0 to 27 (R200). -/
def LatchedBit.index (b : LatchedBit) : Nat := b.ctorIdx

/-- The mask with that one bit set. -/
def LatchedBit.mask (b : LatchedBit) : BitVec 28 := 1#28 <<< b.index

/-- The kinds of latched bit (R194). -/
inductive LatchedKind where
  | event
  | warning
  | fault
  deriving DecidableEq, Repr

/-- The kind of each bit (R194). -/
def LatchedBit.kind : LatchedBit → LatchedKind
  | .memTimeout | .stall | .lensFault | .gyroFault | .checkMismatch | .closeFailed => .fault
  | .focusLocked | .focusFailed | .replyReady | .frameDone | .zoomDone | .shotDone => .event
  | _ => .warning

/-- All 28 bits in order (R194). -/
def allBits : List LatchedBit :=
  [.tornHeader, .lateWrite, .viewWrite, .frameCut, .notMetered, .memTimeout,
   .noData, .underBit, .overBit,
   .focusLocked, .focusFailed,
   .stall, .lensFault, .overCurrent, .lensLow,
   .gyroHeld, .gyroFault, .cropLimit,
   .protect, .checkMismatch, .drainUnverified, .closeFailed, .storeLow,
   .replyReady, .queueFull,
   .frameDone, .zoomDone, .shotDone]

/-- The first bit and the size of each group, PATH to EVENTS (R194). -/
def groupRanges : List (Nat × Nat) :=
  [(0, 6), (6, 3), (9, 2), (11, 4), (15, 3), (18, 5), (23, 2), (25, 3)]

/-- Whether some bit of a range of the latched word is set. -/
def anyIn (w : BitVec 28) (range : Nat × Nat) : Bool := (List.range range.2).any fun i => w.getLsbD (range.1 + i)

/-- Whether some set bit has this kind. -/
def anyOfKind (w : BitVec 28) (k : LatchedKind) : Bool := allBits.any fun b => b.kind == k && w.getLsbD b.index

/-- The summary word: a flag per group in bits 0..7, any fault in bit 8, any warning in bit 9 (R194, R203). -/
def summaryWord (w : BitVec 28) : Nat :=
  flagBits (groupRanges.map (anyIn w) ++ [anyOfKind w .fault, anyOfKind w .warning])

/-- Latch a bit (R194). -/
def latch (b : LatchedBit) (s : State) : State :=
  { s with status := { s.status with latched := s.status.latched ||| b.mask } }

/-- Latch a bit when a condition holds. -/
def latchIf (c : Bool) (b : LatchedBit) (s : State) : State := if c then latch b s else s

/-- Change the counters. -/
def setCounters (f : Counters → Counters) (s : State) : State :=
  { s with status := { s.status with counters := f s.status.counters } }

/-- One more, stopping at 65,535 (R195). -/
def countUp (n : Nat) : Nat := satAdd max16 n 1

/-! ### Values computed from the state -/

/-- A frame pins at most one buffer per shot: the number of shot entries that hold a shot (R155). -/
def Store.liveShots (st : Store) : Nat := st.shots.countP Option.isSome

/-- The number of FREE slots (09, section 9.3). -/
def Store.freeSlots (st : Store) : Nat := st.slots.countP fun x => x.state = .free

/-- Whether the store is set up (R164, R177). -/
def State.storeSetUp (s : State) : Bool := s.windows.picture.isSome

/-- STORE_LOW (R166). -/
def State.storeLow (s : State) : Bool := s.storeSetUp && decide (s.store.freeSlots ≤ s.store.lowWater)

/-- The condition of a condition bit; `none` for the other bits (R194). -/
def condition (s : State) : LatchedBit → Option Bool
  | .underBit => some s.exposure.underLive
  | .overBit => some s.exposure.overLive
  | .overCurrent => some s.lens.supply.overCurrent
  | .lensLow => some s.lens.supply.lensLow
  | .storeLow => some s.storeLow
  | .stall => some (s.lens.zoom.state = .stalled ∨ s.lens.focus.state = .stalled)
  | .lensFault => some (s.lens.zoom.state = .faulted ∨ s.lens.focus.state = .faulted)
  | .gyroFault => some (s.steady.state = .faulted)
  | _ => none

/-- The word of the condition bits whose condition holds (R194). -/
def conditionWord (s : State) : BitVec 28 :=
  allBits.foldl (fun w b => if condition s b = some true then w ||| b.mask else w) 0

/-- What the status block shows of a motor (R203). -/
def Motor.view (m : Motor) : MotorView :=
  { state := m.state, fault := m.fault, uncertain := m.uncertain, position := m.position, target := m.target,
    lastSteps := m.lastSteps }

/-- The content of the status block as it stands, but for the rewrite sequence number (R198, R199). The last rates are
shown clamped (R154). -/
def State.content (s : State) : Content :=
  { partState := s.partState
    converged := s.exposure.converged, underLive := s.exposure.underLive, overLive := s.exposure.overLive
    storeLow := s.storeLow, quiet := s.steady.quiet, sensingFaulted := s.link.sensingFaulted
    latched := s.status.latched, newest := s.stats.newest, liveShots := s.store.liveShots, mask := s.status.mask
    counters := s.status.counters, freeSlots := s.store.freeSlots, plan := s.exposure.plan
    focus := s.focus.state, d := s.focus.d
    zoom := s.lens.zoom.view, focusMotor := s.lens.focus.view, supply := s.lens.supply
    steadyOn := s.steady.settings.on
    roundStart := s.link.roundStart, period := s.link.period, roundSeq := s.link.seq
    failSensing := s.link.failSensing, failZoom := s.link.failZoom, failFocus := s.link.failFocus
    steadyState := s.steady.state, historyCount := s.steady.history.length
    ax := s.steady.ax, ay := s.steady.ay
    rateX := clampInt (-32768) 32767 s.steady.lastRx, rateY := clampInt (-32768) 32767 s.steady.lastRy
    ox := s.steady.ox, oy := s.steady.oy, m := s.steady.m }

/-- Whether ATTN is asserted by a published copy: some latched bit set in it is selected by its mask (R197). -/
def attnOf : Option BlockCopy → Bool
  | none => false
  | some c => c.content.latched &&& c.content.mask != 0

end Sys2Proof.Machine
end

