-- ==== Sys2Proof/Machine/Formats.lean ====
section
/-! DEFINITION. The byte layouts of every record the part writes and of the lens packets it sends (chapter 12, R126). -/

namespace Sys2Proof.Machine

/-! ### Codes of enumerated fields (R200) -/

/-- Part-state code (R200). -/
def PartState.code : PartState → Nat
  | .config => 0
  | .homing => 1
  | .running => 2
  | .parking => 3

/-- Motor-state code (R200). -/
def MotorState.code : MotorState → Nat
  | .unhomed => 0
  | .homing => 1
  | .idle => 2
  | .moving => 3
  | .settling => 4
  | .stalled => 5
  | .faulted => 6

/-- Motor-fault-reason code (R200). -/
def MotorFault.code : MotorFault → Nat
  | .none => 0
  | .link => 1
  | .noHome => 2
  | .range => 3

/-- Focus-state code (R200). -/
def FocusState.code : FocusState → Nat
  | .idle => 0
  | .searching _ => 1
  | .locked => 2
  | .tracking => 3
  | .failed _ => 4

/-- Focus-failure-reason code; none outside FAILED (R200, 05 section 5.1). -/
def FocusState.failureCode : FocusState → Nat
  | .failed .lowContrast => 1
  | .failed .noFrames => 2
  | .failed .cancelled => 3
  | .failed .lens => 4
  | _ => 0

/-- Search-phase code; none outside SEARCHING (R200, 05 section 5.1). -/
def FocusState.phaseCode : FocusState → Nat
  | .searching .travel => 1
  | .searching .sample => 2
  | .searching .final => 3
  | _ => 0

/-- Figure-mode code (R200). -/
def FigureMode.code : FigureMode → Nat
  | .wide => 0
  | .spot => 1

/-- Steadying-state code (R200). -/
def SteadyState.code : SteadyState → Nat
  | .off => 0
  | .active => 1
  | .faulted => 2

/-- Slot-state code (R200). -/
def SlotState.code : SlotState → Nat
  | .free => 0
  | .reserved => 1
  | .filling => 2
  | .closing => 3
  | .closed => 4
  | .draining => 5
  | .drained => 6

/-- Why an evaluation held the plan (R78). -/
inductive HoldReason where
  | none
  | noData
  | stale
  | lock
  | badExposure
  deriving DecidableEq, Repr

/-- Hold-reason code (R200). -/
def HoldReason.code : HoldReason → Nat
  | .none => 0
  | .noData => 1
  | .stale => 2
  | .lock => 3
  | .badExposure => 4

/-- An optional value with its code for none (R200). -/
def orNone (none : Nat) (x : Option Nat) : Nat := x.getD none

/-! ### Status block (R203) -/

/-- The 12 bytes of a motor in the status block (R203). -/
def MotorView.bytes (m : MotorView) : List Byte :=
  le m.state.code 1 ++ le m.fault.code 1 ++ le (flag m.uncertain) 1 ++ zeros 1 ++ le m.position 2 ++ le m.target 2 ++
    leSigned m.lastSteps 2 ++ zeros 2

/-- The eleven counters in the order of R195. -/
def Counters.bytes (c : Counters) : List Byte :=
  [c.tornHeader, c.lateWrite, c.viewWrite, c.cutFrame, c.notMetered, c.protectedWrite, c.queueFull, c.correctedHeader,
    c.discardedReply, c.missingReply, c.heldSample].flatMap fun n => le n 2

/-- Bytes 80..113 of the status block: the supply monitor's values and limits (R203). -/
def Supply.bytes (p : Supply) : List Byte :=
  le p.lastV 2 ++ le p.lastI 2 ++ le p.lastP 4 ++ le p.energy 4 ++ le p.samples 4 ++ le p.peakP 4 ++ le p.rollover 2 ++
    le p.peakI 2 ++ le p.iWarn 2 ++ le p.iHyst 2 ++ le p.iStall 2 ++ le p.vLow 2 ++ le p.vHyst 2

/-- The status block (R203). -/
def BlockCopy.bytes (b : BlockCopy) : List Byte :=
  let c := b.content
  let flags := [c.converged, c.underLive, c.overLive, c.supply.overCurrent, c.supply.lensLow, c.storeLow, c.quiet,
    c.sensingFaulted]
  fit 256 <|
    le b.seq 2 ++ le c.partState.code 1 ++ le (flagBits flags) 1 ++ le c.latched.toNat 4 ++
    le (summaryWord c.latched) 2 ++ le (orNone 0xFF c.newest) 1 ++ le c.liveShots 1 ++ le c.mask.toNat 4 ++
    c.counters.bytes ++ le c.freeSlots 1 ++ zeros 1 ++
    le c.plan.t 4 ++ le c.plan.origin 4 ++ le (orNone 0xFFFF c.plan.code) 2 ++ le c.plan.gain 1 ++
    le c.focus.code 1 ++ le c.focus.failureCode 1 ++ le c.focus.phaseCode 1 ++ le c.d 2 ++
    c.zoom.bytes ++ c.focusMotor.bytes ++ c.supply.bytes ++
    le c.supply.stallCount 1 ++ le (flag c.steadyOn) 1 ++ le c.roundStart.toNat 4 ++ le c.period 2 ++
    le c.roundSeq.toNat 1 ++ le c.failSensing 1 ++ le c.failZoom 1 ++ le c.failFocus 1 ++
    le c.steadyState.code 1 ++ le c.historyCount 1 ++ leSigned c.ax 4 ++ leSigned c.ay 4 ++
    leSigned c.rateX 2 ++ leSigned c.rateY 2 ++ leSigned c.ox 2 ++ leSigned c.oy 2 ++ le c.m 1

/-! ### Result record (R204) -/

/-- What the Exposure unit found in an evaluation (R78). Absent fields are `none`. -/
structure ExposureOutcome where
  level     : Nat
  e         : Int
  move      : Int
  highlight : Bool
  inBand    : Bool
  reason    : HoldReason
  n         : Option Int
  sMaxEff   : Option Nat
  aNow      : Option Nat
  sLim      : Option Nat
  deriving DecidableEq, Repr

/-- What the Focus unit found in an evaluation, beside its state after it (R99). -/
structure FocusOutcome where
  f    : Nat
  nf   : Nat
  used : Bool
  deriving DecidableEq, Repr

/-- Everything a result record is built from (R56): the bank and its record copy, REPLACED, the outcomes, and the
Exposure and Focus units after the evaluation. -/
structure ResultInput where
  seq      : Nat
  bank     : Bank
  copy     : RecordCopy
  replaced : Bool
  eo       : ExposureOutcome
  fo       : FocusOutcome
  exposure : Exposure
  focus    : Focus
  deriving DecidableEq, Repr

/-- The sum of the 64 zone counts, without saturation (R69). -/
def Bank.countSum (b : Bank) : Nat := b.counts.sum

/-- The sum of zone counts as the record's four bytes carry it (R204); free where it does not fit. -/
def countSumField (seq sum : Nat) : Nat := if sum ≤ max32 then sum else (Config.freeCountSum seq).toNat

/-- The best-figure field (R204); free while there is no best. -/
def bestFigureField (seq : Nat) (best : Option TrailEntry) : Nat :=
  match best with
  | some b => b.nf
  | none => (Config.freeBestFigure seq).toNat

/-- The mean of each zone, or 0 (R56). -/
def Bank.means (b : Bank) : List Nat := (b.sums.zip b.counts).map fun p => p.1 / p.2

/-- The mean of a zone as the record's two bytes carry it (R56, R204); free where it passes 4095, as the quotient of a
saturated count may (notes/assumptions/45.md, DESIGN CHOICE). -/
def meanField (seq zone mean : Nat) : Nat := if mean ≤ 4095 then mean else (Config.freeMean seq zone).toNat

/-- The trail's eight places of position and NF, newest first, the rest 0 (R200, R204). -/
def trailBytes (t : List TrailEntry) : List Byte := fit 48 (t.flatMap fun e => le e.pos 2 ++ le e.nf 4)

/-- Bytes 0..51 of a result record: identity, frame and statistics counts (R204). -/
def ResultInput.frameBytes (r : ResultInput) : List Byte :=
  let f := r.copy.record
  let at' := f.atCompletion.getD (.idle, 0)
  let flags := [f.short, f.motionPartial, f.badExposure, r.replaced, f.focusStill, r.fo.used]
  le r.seq 2 ++ le r.bank.buffer 1 ++ le r.copy.owner 1 ++ le f.number 4 ++ le f.tH.toNat 4 ++
    le (f.completion.getD 0).toNat 4 ++ le f.tHdr 4 ++ le f.readout 4 ++ le f.gHdr 1 ++ le f.aF 1 ++
    le f.zoomPos 2 ++ le f.focusPos 2 ++ le (flagBits flags) 1 ++ le f.m 1 ++ leSigned f.ox 2 ++ leSigned f.oy 2 ++
    le at'.2 2 ++ le at'.1.code 1 ++
    le (flagBits [r.eo.highlight, r.eo.inBand, r.exposure.underLive, r.exposure.overLive]) 1 ++
    le f.received 4 ++ le (countSumField r.seq r.bank.countSum) 4 ++ le r.bank.clip 4

/-- Bytes 52..76: the exposure outcome and the plan in force after it (R78, R204). -/
def ResultInput.exposureBytes (r : ResultInput) : List Byte :=
  le r.eo.level 2 ++ leSigned r.eo.e 2 ++ leSigned r.eo.move 2 ++
    (match r.eo.n with
      | some n => leSigned n 2
      | none => le 0x8000 2) ++
    le (orNone 0xFFFF r.eo.sMaxEff) 2 ++ le (orNone 0xFFFF r.eo.sLim) 2 ++ le (orNone 0xFFFF r.eo.aNow) 2 ++
    le (orNone 0xFFFF r.exposure.plan.code) 2 ++ le r.exposure.plan.t 4 ++ le r.exposure.plan.origin 4 ++
    le r.exposure.plan.gain 1

/-- Bytes 77..151: the hold reason and the focus outcome (R99, R204). Before the first search the fields of the search
record hold none (R200; notes/assumptions/23.md). -/
def ResultInput.focusBytes (r : ResultInput) : List Byte :=
  let u := r.focus
  let sr := u.search
  le r.eo.reason.code 1 ++ le u.state.code 1 ++ le u.state.failureCode 1 ++ le r.fo.f 4 ++ le r.fo.nf 4 ++ le u.d 2 ++
    le (orNone 0xFFFF (sr.map SearchRecord.sample)) 2 ++
    le (orNone 0xFFFF ((sr.bind SearchRecord.best).map TrailEntry.pos)) 2 ++
    le (orNone 0xFF (sr.map SearchRecord.falls)) 1 ++ le (orNone 0xFF (sr.map fun x => flag x.reversed)) 1 ++
    le (bestFigureField r.seq (sr.bind SearchRecord.best)) 4 ++
    le (orNone 0xFF (sr.map SearchRecord.resolved)) 1 ++ le u.trail.length 1 ++ le u.mode.code 1 ++
    le u.state.phaseCode 1 ++ trailBytes u.trail

/-- The 512 bytes of a result record (R204). -/
def ResultInput.bytes (r : ResultInput) : List Byte :=
  fit 512 <|
    r.frameBytes ++ r.exposureBytes ++ r.focusBytes ++ r.bank.cells.flatMap (fun c => le c 4) ++
    (r.bank.means.zip (List.range 64)).flatMap (fun p => le (meanField r.seq p.2 p.1) 2) ++
    r.bank.bins.flatMap fun b => le (min b 16777215) 3

/-! ### Shot and slot mirrors, trailer (R205) -/

/-- A shot mirror record (R205): present, or empty with the bytes of its fields free. -/
def shotBytes (use : Nat) : Option Shot → List Byte
  | some sh =>
    let p := sh.snapshot
    fit 64 <|
      le 1 1 ++ le sh.id 1 ++ le sh.buffer 1 ++ le sh.slot 1 ++ le p.number 4 ++ le p.tHdr 4 ++ le p.gHdr 1 ++
      le p.aF 1 ++ le p.focusAt.code 1 ++ le p.m 1 ++ le p.zoomPos 2 ++ le p.focusPos 2 ++ le p.dAt 2 ++ le sh.ppd16 2 ++
      leSigned p.ox 2 ++ leSigned p.oy 2 ++ le (flagBits [p.short, p.motionPartial, p.badExposure]) 1
  | none => fit 64 (le 0 1 ++ (List.range 28).map fun i => Config.freeMirrorByte use (i + 1))

/-- A slot mirror record (R205): the record, or "not present" with the bytes of its other fields free. -/
def slotBytes (use : Nat) : Option Slot → List Byte
  | some x =>
    le x.state.code 1 ++ le (orNone 0 x.shotId) 1 ++
      le (flagBits [x.checkValid, x.drainVerified, decide (2 ^ 24 ≤ x.high), decide (2 ^ 24 ≤ x.cursor)]) 1 ++
      le x.high 3 ++ le x.cursor 3 ++ le x.length 3 ++ le x.check.toNat 4
  | none => le 7 1 ++ (List.range 15).map fun i => Config.freeMirrorByte use (i + 1)

/-- The trailer's first 60 bytes (R169, R205). -/
def trailerHead (w : CloseWork) : List Byte :=
  let p := w.snapshot
  fit 60 <|
    le 0x4A575452 4 ++ le w.id 1 ++ le p.focusAt.code 1 ++ le p.gHdr 1 ++ le p.aF 1 ++ le p.number 4 ++ le p.tHdr 4 ++
    le p.zoomPos 2 ++ le w.ppd16 2 ++ le p.dAt 2 ++ leSigned p.ox 2 ++ leSigned p.oy 2 ++ le p.m 1 ++ zeros 1 ++
    le w.length 4

/-! ### Lens packets (R126 to R128, R206) -/

/-- The target number (R126). -/
def Target.number : Target → Nat
  | .sensing => 0
  | .zoom => 1
  | .focus => 2

/-- The kind code of a request (R126). -/
def Request.kind : Request → Nat
  | .sense => 1
  | .move _ _ => 3
  | .home => 5

/-- The kind code of the reply to a request (R126). -/
def Request.replyKind : Request → Nat
  | .sense => 2
  | .move _ _ => 4
  | .home => 6

/-- The payload length of the reply to a request (R126). -/
def Request.replyLength : Request → Nat
  | .sense => 8
  | .move _ _ => 5
  | .home => 0

/-- The payload of a request (R126, R206). -/
def Request.payload : Request → List Byte
  | .sense => []
  | .move steps rate => beSigned16 steps ++ le rate 1
  | .home => []

/-- A packet: header, payload, and the CRC-16 high byte first when the payload is not empty (R126 to R128). -/
def packet (target kind : Nat) (seq : BitVec 8) (payload : List Byte) : List Byte :=
  let b0 := BitVec.ofNat 8 (target + 8 * kind)
  let b1 := BitVec.ofNat 8 payload.length
  [b0, b1, seq, headerCheck b0 b1 seq] ++ payload ++
    (if payload.isEmpty then [] else (le (crc16 payload).toNat 2).reverse)

/-- The bytes of a request as they go out (R126, R129). -/
def requestBytes (t : Target) (r : Request) (seq : BitVec 8) : List Byte := packet t.number r.kind seq r.payload

end Sys2Proof.Machine
end

