-- ==== Sys2Proof/Machine/Ops.lean ====
section
/-! DEFINITION. The named operations that read and write one register, record or buffer of the state. -/

namespace Sys2Proof.Machine

/-! ### Motor records -/

/-- The record of a motor. -/
def State.motor (s : State) : MotorId → Motor
  | .zoom => s.lens.zoom
  | .focus => s.lens.focus

/-- Replace the record of a motor. -/
def setMotor (id : MotorId) (m : Motor) (s : State) : State :=
  match id with
  | .zoom => { s with lens := { s.lens with zoom := m } }
  | .focus => { s with lens := { s.lens with focus := m } }

/-- ZMAX = 32·Δ (R103). -/
def State.zmax (s : State) : Nat := 32 * s.lens.settings.delta

/-- The highest position of a motor (R105). -/
def State.topPosition (s : State) : MotorId → Nat
  | .zoom => s.zmax
  | .focus => s.lens.settings.fmax

/-! ### Frame table, map and free list -/

/-- The record of a physical buffer. -/
def State.record (s : State) (b : Nat) : FrameRecord := s.frames.table.getD b FrameRecord.empty

/-- Change the record of a physical buffer. -/
def setRecord (b : Nat) (f : FrameRecord) (s : State) : State :=
  { s with frames := { s.frames with table := s.frames.table.set b f } }

/-- The map entry of a logical buffer. -/
def State.entry (s : State) (k : Nat) : MapEntry := s.frames.map.getD k { phys := k, ox := 0, oy := 0 }

/-- phys(k) (R21). -/
def State.phys (s : State) (k : Nat) : Nat := (s.entry k).phys

/-- The owner of a physical buffer: the logical buffer mapped to it, if any (02, section 2.3). -/
def State.owner (s : State) (b : Nat) : Option Nat := s.frames.map.findIdx? fun e => e.phys == b

/-- Replace a map entry. -/
def setEntry (k : Nat) (e : MapEntry) (s : State) : State :=
  { s with frames := { s.frames with map := s.frames.map.set k e } }

/-- Replace the free list. -/
def setFree (l : List Nat) (s : State) : State := { s with frames := { s.frames with free := l } }

/-- A physical buffer at its place in the rising free list; a member is not doubled (R22). -/
def insertFree (b : Nat) : List Nat → List Nat
  | [] => [b]
  | x :: xs => if b < x then b :: x :: xs else if b = x then x :: xs else x :: insertFree b xs

/-! ### Banks -/

/-- A bank by its number. -/
def State.bank (s : State) : BankId → Bank
  | .bank0 => s.stats.bank0
  | .bank1 => s.stats.bank1

/-- The other bank. -/
def BankId.other : BankId → BankId
  | .bank0 => .bank1
  | .bank1 => .bank0

/-- Replace a bank. -/
def setBank (id : BankId) (b : Bank) (s : State) : State :=
  match id with
  | .bank0 => { s with stats := { s.stats with bank0 := b } }
  | .bank1 => { s with stats := { s.stats with bank1 := b } }

/-! ### Slots and shots -/

/-- The record of a picture slot, if it is a slot of the slot table. -/
def State.slot? (s : State) (j : Nat) : Option Slot := s.store.slots[j]?

/-- Replace a slot record and mark it dirty for its mirror (R175). -/
def setSlot (j : Nat) (x : Slot) (s : State) : State :=
  { s with store := { s.store with slots := s.store.slots.set j x, slotDirty := s.store.slotDirty.set j true } }

/-- Replace a shot entry and mark it dirty for its mirror (R175). -/
def setShot (e : Nat) (x : Option Shot) (s : State) : State :=
  { s with store := { s.store with shots := s.store.shots.set e x, shotDirty := s.store.shotDirty.set e true } }

/-! ### Own queue, host completions, order shadow -/

/-- A requested own transaction joins the own queue at its tail, stamped with the part time (R3). -/
def requestOwn (owner : Owner) (addr : Nat) (dir : Direction) (len : Nat) (data : List Byte) (mask : List Bool)
    (s : State) : State :=
  { s with
    port :=
      { s.port with
        own := s.port.own ++
          [{ owner := owner, addr := addr, dir := dir, len := len, data := data, mask := mask,
             requested := s.partTime }] } }

/-- A requested own write with every byte enabled. -/
def requestOwnWrite (owner : Owner) (addr : Nat) (data : List Byte) (s : State) : State :=
  requestOwn owner addr .write data.length data (List.replicate data.length true) s

/-- A completion goes out to the host on the frame link. -/
def sendCompletion (c : HostCompletion) (s : State) : State := { s with hostOut := s.hostOut ++ [c] }

/-- The enabled bytes of a write entered into a buffer at an offset (R178). -/
def writeBytes (buf : List Byte) (off : Nat) : List Byte → List Bool → List Byte
  | d :: ds, m :: ms => writeBytes (if m then buf.set off d else buf) (off + 1) ds ms
  | _, _ => buf

/-- A focus state of SEARCHING. -/
def FocusState.isSearching : FocusState → Bool
  | .searching _ => true
  | _ => false

end Sys2Proof.Machine
end

