-- ==== Sys2Proof/Machine/Motors.lean ====
section
/-! DEFINITION. The motor records: giving a target, the aim and the backlash, settling and becoming IDLE (R105, R106,
R110). -/

namespace Sys2Proof.Machine

/-- The settle time of a motor (R103). -/
def State.settleTime (s : State) : MotorId → Nat
  | .zoom => s.lens.settings.zoomSettle
  | .focus => s.lens.settings.focusSettle

/-- The settle time has run out: IDLE, still-since now; a pending ZOOM_TO ends with ZOOM_DONE (R110). -/
def becomeIdle (id : MotorId) (s : State) : State :=
  let m := s.motor id
  let t := setMotor id { m with state := .idle, stillSince := s.partTime, zoomToPending := false } s
  latchIf (id == .zoom && m.zoomToPending) .zoomDone t

/-- A motor enters SETTLING; with a settle time of 0 it is IDLE at the same event (R105). -/
def enterSettling (id : MotorId) (s : State) : State :=
  let t := setMotor id { s.motor id with state := .settling, settleStart := s.partTime } s
  if s.settleTime id = 0 then becomeIdle id t else t

/-- A taken target: aim and phase from the target and the confirmed position; only the focus overshoots (R106). -/
def Motor.aimed (m : Motor) (id : MotorId) (backlash target : Nat) : Motor :=
  if id = .focus ∧ 0 < backlash ∧ target < m.position ∧ backlash ≤ target then
    { m with target := target, aim := target - backlash, overshoot := true }
  else { m with target := target, aim := target, overshoot := false }

/-- A motor record with target and aim at its confirmed position, as the stall and fault rules leave it (R109, R120;
notes/assumptions/20.md). -/
def Motor.stoppedHere (m : Motor) : Motor := { m with target := m.position, aim := m.position, overshoot := false }

/-- A motor is given a target (R105). `clears` says that the source is one that takes a motor out of STALLED: a
ZOOM_TO for the zoom, a FOCUS_START for the focus. No motor whose position is uncertain enters SETTLING here, STALLED
ones included: R109 is followed before the table's row (notes/assumptions/40.md, DEDUCED). -/
def giveTarget (id : MotorId) (clears : Bool) (target : Nat) (s : State) : State :=
  let m := s.motor id
  let t := clampNat 0 (s.topPosition id) target
  let taken := m.aimed id s.lens.settings.backlash t
  let move := setMotor id { taken with state := .moving } s
  let settle := enterSettling id (setMotor id taken s)
  match m.state with
  | .unhomed | .homing | .faulted => s
  | .stalled => if clears then (if t = m.position ∧ m.uncertain = false then settle else move) else s
  | .idle => if t = m.position then setMotor id taken s else move
  | .moving => if t = m.position ∧ m.uncertain = false then settle else move
  | .settling => if t = m.position then setMotor id taken s else move

end Sys2Proof.Machine
end

