-- ==== Sys2Proof/Machine/Operands.lean ====
section
/-! DEFINITION. The operand forms: the post word and the parameter fields of every order (R179, R201, R202), the raw
frame header (R201), the result codes (R183) and the order catalogue (R182). -/

namespace Sys2Proof.Machine

/-! ### Post word (R179) -/

/-- The sequence byte of a posted order. -/
def Posted.sequence (p : Posted) : Byte := byteAt p.bytes 60

/-- The order code as posted. -/
def Posted.code (p : Posted) : Byte := byteAt p.bytes 61

/-- FRAME_ALIGNED: bit 0 of the flags byte. -/
def Posted.aligned (p : Posted) : Bool := (byteAt p.bytes 62).getLsbD 0

/-- An unsigned parameter of `n` bytes (R202). -/
def Posted.field (p : Posted) (off n : Nat) : Nat := readLe p.bytes off n

/-- A choice byte: whether it is nonzero (R202). -/
def Posted.choice (p : Posted) (off : Nat) : Bool := p.field off 1 != 0

/-! ### The catalogue (R182) -/

/-- The orders of the catalogue. -/
inductive Order where
  | nop
  | setupFrames
  | setupLens
  | loadTracking
  | start
  | stop
  | setupStore
  | loadWeights
  | meterMode
  | exposureLock
  | focusArea
  | steadyMode
  | supplyLimits
  | clearStatus
  | alertMask
  | focusStart
  | focusCancel
  | focusSet
  | zoomTo
  | zoomStop
  | shoot
  | releaseShot
  | closeSlot
  | freeSlot
  | lensRestart
  | clearSupply
  deriving DecidableEq, Repr

/-- The catalogue in the order of the codes from 0x01 (R182). -/
def catalogue : List Order :=
  [.nop, .setupFrames, .setupLens, .loadTracking, .start, .stop, .setupStore, .loadWeights, .meterMode, .exposureLock,
    .focusArea, .steadyMode, .supplyLimits, .clearStatus, .alertMask, .focusStart, .focusCancel, .focusSet, .zoomTo,
    .zoomStop, .shoot, .releaseShot, .closeSlot, .freeSlot, .lensRestart, .clearSupply]

/-- The order code (R182). -/
def Order.code : Order → Nat
  | .nop => 0x01
  | .setupFrames => 0x02
  | .setupLens => 0x03
  | .loadTracking => 0x04
  | .start => 0x05
  | .stop => 0x06
  | .setupStore => 0x07
  | .loadWeights => 0x08
  | .meterMode => 0x09
  | .exposureLock => 0x0A
  | .focusArea => 0x0B
  | .steadyMode => 0x0C
  | .supplyLimits => 0x0D
  | .clearStatus => 0x0E
  | .alertMask => 0x0F
  | .focusStart => 0x10
  | .focusCancel => 0x11
  | .focusSet => 0x12
  | .zoomTo => 0x13
  | .zoomStop => 0x14
  | .shoot => 0x15
  | .releaseShot => 0x16
  | .closeSlot => 0x17
  | .freeSlot => 0x18
  | .lensRestart => 0x19
  | .clearSupply => 0x1A

/-- The order a code stands for; `none` is unknown, 0x00 included (R182). -/
def Order.ofCode (c : Nat) : Option Order := catalogue.find? fun o => o.code == c

/-- The part states an order is allowed in, with START's flag (R182). -/
def Order.allowed (o : Order) (part : PartState) (framesSetUp : Bool) : Bool :=
  match o with
  | .setupFrames | .setupLens | .loadTracking => part == .config
  | .start => part == .config && framesSetUp
  | .stop | .focusStart | .focusCancel | .focusSet | .zoomTo | .zoomStop | .shoot | .releaseShot | .closeSlot
  | .freeSlot | .clearSupply => part == .running
  | .lensRestart => part != .config
  | .nop | .setupStore | .loadWeights | .meterMode | .exposureLock | .focusArea | .steadyMode | .supplyLimits
  | .clearStatus | .alertMask => true

/-- The holdable orders (R182). -/
def Order.holdable : Order → Bool
  | .loadWeights | .meterMode | .exposureLock | .focusArea | .steadyMode | .focusSet | .zoomTo => true
  | _ => false

/-! ### Result codes (R183) -/

/-- The result codes (R183). -/
inductive Result where
  | ok
  | taken
  | clamped
  | busy
  | wrongState
  | noRoom
  | noFrame
  | storeFull
  | lensFault
  | lensMoving
  | notDrained
  | tooLong
  | badShot
  | badSlot
  | badRange
  | storeBusy
  | unknown
  | cancelled
  deriving DecidableEq, Repr

/-- The value of a result code (R183). -/
def Result.value : Result → Nat
  | .ok => 0
  | .taken => 1
  | .clamped => 2
  | .busy => 3
  | .wrongState => 4
  | .noRoom => 5
  | .noFrame => 6
  | .storeFull => 7
  | .lensFault => 8
  | .lensMoving => 9
  | .notDrained => 10
  | .tooLong => 11
  | .badShot => 12
  | .badSlot => 13
  | .badRange => 14
  | .storeBusy => 15
  | .unknown => 16
  | .cancelled => 17

/-- What an order's block returns for the reply: the result code and the 12 value bytes (R181, R184). -/
structure Answer where
  result : Result
  values : List Byte
  deriving DecidableEq, Repr

/-- An answer whose values are all 0 (R184). -/
def plainAnswer (r : Result) : Answer := { result := r, values := zeros 12 }

/-- CLAMPED when something was clamped, otherwise OK. -/
def clampedOr (c : Bool) : Result := if c then .clamped else .ok

/-! ### Parameters of each order (R202) -/

/-- The parameters of SETUP_FRAMES (R20, R202); LAT as carried. -/
def Posted.geometry (p : Posted) : Geometry :=
  { w := p.field 0 2, h := p.field 2 2, stride := p.field 4 4, mx := p.field 8 2, my := p.field 10 2, l := p.field 12 1,
    s := p.field 13 1, gp := p.field 14 1, lat := p.field 28 4 }

/-- The raw, view and pool base addresses of SETUP_FRAMES (R202). -/
def Posted.bases (p : Posted) : Nat × Nat × Nat := (p.field 16 4, p.field 20 4, p.field 24 4)

/-- The lens settings as carried by SETUP_LENS (R202). -/
def Posted.lensSettings (p : Posted) : LensSettings :=
  { delta := p.field 0 2, fmax := p.field 2 2, backlash := p.field 4 2, zoomSettle := p.field 6 2,
    focusSettle := p.field 8 2, park := p.field 10 2, period := p.field 12 2 }

/-- Knot j of LOAD_TRACKING as carried (R202). -/
def Posted.knot (p : Posted) (j : Nat) : Knot :=
  let o := 2 + 9 * j
  { pInf := p.field o 2, pNear := p.field (o + 2) 2, a := p.field (o + 4) 1, sLim := p.field (o + 5) 2,
    ppd16 := p.field (o + 7) 2 }

/-- The 64 weights of LOAD_WEIGHTS, zone 2j in the low half of byte j (R64, R202). -/
def Posted.weights (p : Posted) : List Nat :=
  (List.range 32).flatMap fun j => [p.field j 1 % 16, p.field j 1 / 16]

/-- The metering settings as carried by METER_MODE, C signed (R63, R202). -/
def Posted.metering (p : Posted) : Metering :=
  { tgt := p.field 0 2, c := readLeSigned16 p.bytes 2, db := p.field 4 2, sMin := p.field 6 2, sMaxCfg := p.field 8 2,
    gMax := p.field 10 2, boost := p.field 12 2, blk := p.field 14 2, white := p.field 16 2 }

/-- The settings as carried by FOCUS_AREA (R202). -/
def Posted.focusSettings (p : Posted) : FocusSettings :=
  { fx := p.field 0 2, fy := p.field 2 2, fw := p.field 4 2, fh := p.field 6 2, core := p.field 8 2,
    minc := p.field 10 4 }

/-- The settings as carried by STEADY_MODE; a nonzero sign field gives −1 (R140, R202). -/
def Posted.steadySettings (p : Posted) : SteadySettings :=
  { on := p.choice 0, k := p.field 1 1, negX := p.choice 2, negY := p.choice 3, qr := p.field 4 2, qn := p.field 6 1,
    kq := p.field 7 1 }

/-- The 28 bits of a CLEAR_STATUS or ALERT_MASK mask (R202). -/
def Posted.mask28 (p : Posted) : BitVec 28 := BitVec.ofNat 28 (p.field 0 4)

/-! ### Raw frame header (R25, R201) -/

/-- What a frame start reads from the header, G_hdr clamped to 0..255 (R28, R201). -/
structure RawHeader where
  gHdr    : Nat
  tHdr    : Nat
  readout : Nat
  deriving DecidableEq, Repr

/-- The header fields of a frame-start write (R201). -/
def rawHeader (data : List Byte) : RawHeader :=
  { gHdr := min 255 (readLe data 2 2), tHdr := readLe data 4 4, readout := readLe data 8 4 }

/-- Whether a write of this length, mask and data at buffer offset `o` is a frame start: it covers the 32 header bytes
with all of them enabled and bytes 0 and 1 hold the marker 0x4A57 (R25). -/
def isFrameStart (o : Nat) (t : HostTransaction) : Bool :=
  o == 0 && decide (32 ≤ t.len) && (List.range 32).all (fun i => t.mask.getD i false) && readLe t.data 0 2 == 0x4A57

end Sys2Proof.Machine
end

