-- ==== Sys2Proof/Machine/Tracking.lean ====
section
/-! DEFINITION. The tracking table's interpolation and the focus position of a distance fraction (R101, R102). -/

namespace Sys2Proof.Machine

/-- Knot i of the tracking table. -/
def State.knot (s : State) (i : Nat) : Knot :=
  s.lens.knots.getD i { pInf := 0, pNear := 0, a := 0, sLim := 0, ppd16 := 0 }

/-- A knot field interpolated at zoom position z (R101). Positions above ZMAX, which no run reaches, read knot 32. -/
def State.interp (s : State) (field : Knot → Nat) (z : Nat) : Nat :=
  let delta := s.lens.settings.delta
  if s.zmax ≤ z then field (s.knot 32)
  else
    let i := z / delta
    let r := z % delta
    let v0 : Int := field (s.knot i)
    let v1 : Int := field (s.knot (i + 1))
    (v0 + roundDiv ((v1 - v0) * r) delta).toNat

/-- track(z, d) (R102). -/
def State.track (s : State) (z d : Nat) : Nat :=
  let pInf : Int := s.interp Knot.pInf z
  let pNear : Int := s.interp Knot.pNear z
  (clampInt 0 s.lens.settings.fmax (pInf + roundDiv ((pNear - pInf) * d) 4096)).toNat

/-- The focus position that holds the present d at the zoom's confirmed position (R94, R111). -/
def State.trackHere (s : State) : Nat := s.track s.lens.zoom.position s.focus.d

end Sys2Proof.Machine
end

