-- ==== Sys2Proof/Machine/Writers.lean ====
section
/-! DEFINITION. How the owners request their own transactions: the status rewrite (R198), the reply write (R185), the
Store's mirrors and close work (R168, R169, R175); and how an event ends. -/

namespace Sys2Proof.Machine

/-- IDLE with the dirty mark set: the rewrite sequence number grows, a copy is taken, and the 256-byte write of the
status block is requested (R198). -/
def requestStatus (s : State) : State :=
  if s.status.writing.isNone ∧ s.status.dirty then
    let copy : BlockCopy := { seq := (s.status.seq + 1) % 0x10000, content := s.content }
    requestOwnWrite .status (s.windows.control + 0x0600) copy.bytes
      { s with status := { s.status with seq := copy.seq, dirty := false, writing := some copy } }
  else s

/-- The dirty entries of a list of marks, lowest first. -/
def dirtyIndices (marks : List Bool) : List Nat :=
  (List.range marks.length).filter fun i => marks.getD i false

/-- None requested and an entry dirty: one masked write from the lowest dirty entry to the highest (R185). -/
def requestReply (s : State) : State :=
  let o := s.orders
  match o.carried, dirtyIndices o.dirty with
  | none, lo :: rest =>
    let hi := rest.getLastD lo
    let span := (List.range (hi + 1 - lo)).map (lo + ·)
    let data := span.flatMap fun i => fit 16 (o.image.getD i [])
    let mask := span.flatMap fun i => List.replicate 16 (o.dirty.getD i false)
    requestOwn .orderUnit (s.windows.control + 0x0400 + 16 * lo) .write data.length data mask
      { s with orders := { o with dirty := List.replicate 16 false, carried := some o.dirty } }
  | _, _ => s

/-- The mirror write of a shot entry (R175). -/
def requestShotMirror (e : Nat) (s : State) : State :=
  let st := s.store
  requestOwnWrite .store (s.windows.control + 0x0700 + 64 * e) (shotBytes s.freeCount (st.shots.getD e none))
    { s with
      freeCount := s.freeCount + 1
      store := { st with shotDirty := st.shotDirty.set e false, request := some (.shotMirror e) } }

/-- The mirror write of a slot record (R175). -/
def requestSlotMirror (j : Nat) (s : State) : State :=
  let st := s.store
  requestOwnWrite .store (s.windows.control + 0x0800 + 16 * j) (slotBytes s.freeCount st.slots[j]?)
    { s with
      freeCount := s.freeCount + 1
      store := { st with slotDirty := st.slotDirty.set j false, request := some (.slotMirror j) } }

/-- How many bytes the next trailer write carries: up to the 256-byte boundary or the trailer's end (R169). -/
def trailerPart (w : CloseWork) : Nat := min (64 - w.written) (256 - (w.length + w.written) % 256)

/-- The next read-back piece or trailer write of the slot at the head of the close queue (R168, R169). -/
def requestCloseWork (w : CloseWork) (p : PictureWindow) (s : State) : State :=
  let base := p.base + w.slot * p.slotSize
  match w.trailer with
  | none =>
    requestOwn .store (base + 256 * w.piece) .read (min 256 (w.length - 256 * w.piece)) [] []
      { s with store := { s.store with request := some .piece } }
  | some bytes =>
    requestOwnWrite .store (base + w.length + w.written) ((bytes.drop w.written).take (trailerPart w))
      { s with store := { s.store with request := some (.trailer (trailerPart w)) } }

/-- The Store's next own transaction, in the order of preference of R175. -/
def requestStore (s : State) : State :=
  if s.store.request.isSome then s
  else
    match dirtyIndices s.store.shotDirty, dirtyIndices s.store.slotDirty with
    | e :: _, _ => requestShotMirror e s
    | [], j :: _ => requestSlotMirror j s
    | [], [] =>
      match s.store.closeQueue, s.windows.picture with
      | w :: _, some p => requestCloseWork w p s
      | _, _ => s

/-- Every owner that may request its next own transaction does so; after a reset the Status unit is first (R177). -/
def requestAll (s : State) : State := requestStore (requestReply (requestStatus s))

/-- The end of an event that took the state from `s` to `t`: a changed content sets the dirty mark (R198), and the
owners request what they may. -/
def finish (s t : State) : State :=
  requestAll
    (if t.content = s.content then t else { t with status := { t.status with dirty := true } })

/-- An event of a part that is out of reset; while RESET_N is low nothing happens (R19). -/
def event (f : State → State) (s : State) : Host.Outcome State Fault Refusal :=
  .next (if s.resetN then finish s (f s) else s)

/-- The report of a completed own transaction, taken from those waiting for this owner. -/
def takeTold (owner : Owner) (s : State) : Option (List Byte × State) :=
  match s.port.told.find? fun r => r.owner == owner with
  | none => none
  | some r =>
    some (r.data, { s with port := { s.port with told := s.port.told.filter fun x => x.owner != owner } })

end Sys2Proof.Machine
end

