-- ==== Sys2Proof/Machine/FocusUnit.lean ====
section
/-! DEFINITION. The Focus unit: the contrast search, the trail, the distance fraction, and the focus orders
(chapter 5). -/

namespace Sys2Proof.Machine

/-- Change the focus state. -/
def setFocusState (st : FocusState) (s : State) : State := { s with focus := { s.focus with state := st } }

/-- Change the search record. -/
def setSearch (r : SearchRecord) (s : State) : State := { s with focus := { s.focus with search := some r } }

/-- The focus motor stands IDLE: a search in TRAVEL at its sample position enters SAMPLE (R86), one in FINAL at its
target ends LOCKED (R93). -/
def focusArrived (s : State) : State :=
  let m := s.lens.focus
  match s.focus.state, s.focus.search with
  | .searching .travel, some r =>
    if m.state = .idle ∧ m.position = r.sample then
      setFocusState (.searching .sample) (setSearch { r with resolved := 0, sampleStart := s.partTime } s)
    else s
  | .searching .final, _ =>
    if m.state = .idle ∧ m.position = m.target then latch .focusLocked (setFocusState .locked s) else s
  | _, _ => s

/-- The focus motor is given a target (R105), with what the search makes of a motor already there (R86, R93). -/
def giveFocus (clears : Bool) (target : Nat) (s : State) : State := focusArrived (giveTarget .focus clears target s)

/-- A search ends FAILED and FOCUS_FAILED is latched (R95). -/
def failSearch (reason : FocusFailure) (s : State) : State := latch .focusFailed (setFocusState (.failed reason) s)

/-- The focus motor became STALLED or FAULTED: a search ends with reason LENS (R95). -/
def focusMotorLost (s : State) : State := if s.focus.state.isSearching then failSearch .lens s else s

/-- What a change of the zoom's confirmed position does to the focus state (R94, R95). -/
def focusOnZoomChange (s : State) : State :=
  match s.focus.state with
  | .searching _ => failSearch .cancelled s
  | .locked => setFocusState .tracking s
  | _ => s

/-- The zoom's confirmed position has changed: the Focus unit is told and the focus motor is given track(z, d)
(R94, R95, R111). -/
def zoomChanged (s : State) : State :=
  let t := focusOnZoomChange s
  giveFocus false t.trackHere t

/-! ### The search -/

/-- The search takes a new sample position and goes there (R86, R89). -/
def goSample (pos : Nat) (r : SearchRecord) (s : State) : State :=
  giveFocus false pos (setFocusState (.searching .travel) (setSearch { r with sample := pos } s))

/-- The NF of the trail entry at a position (R91). -/
def trailAt (trail : List TrailEntry) (pos : Int) : Option Nat :=
  (trail.find? fun e => (e.pos : Int) == pos).map TrailEntry.nf

/-- p* of the fine step (R91). -/
def fineP (trail : List TrailEntry) (r : SearchRecord) (b : TrailEntry) : Int :=
  let p : Int := b.pos
  let c : Int := r.step
  let raw : Int :=
    match trailAt trail (p - c), trailAt trail (p + c) with
    | some lo, some hi =>
      let num := c * ((lo : Int) - hi)
      let den := 2 * ((lo : Int) - 2 * b.nf + hi)
      if den < 0 then p + roundDiv (-num) den.natAbs else p
    | _, _ => p
  clampInt r.lo r.hi (clampInt (p - c) (p + c) raw)

/-- The distance fraction of a focus position at z_s (R92). -/
def State.fractionOf (s : State) (zs : Nat) (p : Int) : Nat :=
  let pInf : Int := s.interp Knot.pInf zs
  let span : Int := (s.interp Knot.pNear zs : Int) - pInf
  let num := (p - pInf) * 4096
  if span = 0 then 0
  else if 0 < span then (clampInt 0 4096 (roundDiv num span.natAbs)).toNat
  else (clampInt 0 4096 (roundDiv (-num) span.natAbs)).toNat

/-- The fine step: d takes its new value and the search enters FINAL (R91, R92). -/
def fineStep (r : SearchRecord) (b : TrailEntry) (s : State) : State :=
  let d := s.fractionOf r.zs (fineP s.focus.trail r b)
  let t : State := { s with focus := { s.focus with d := d, search := some r, state := .searching .final } }
  giveFocus false (t.track r.zs d) t

/-- A search ends FAILED and focus returns to track(z_s, d) (R95). -/
def failSearchBack (reason : FocusFailure) (r : SearchRecord) (s : State) : State :=
  giveFocus false (s.track r.zs s.focus.d) (failSearch reason s)

/-- The decision at the end of the range (R90). -/
def rangeEnd (r : SearchRecord) (b : TrailEntry) (s : State) : State :=
  let opposite := if r.up then r.lo else r.hi
  if b.pos = r.ps ∧ r.reversed = false ∧ r.ps ≠ opposite then
    let next := if r.up then clampNat r.lo r.hi (r.ps - r.step) else clampNat r.lo r.hi (r.ps + r.step)
    goSample next { r with up := !r.up, reversed := true, falls := 0 } s
  else if b.nf < s.focus.settings.minc then failSearchBack .lowContrast r (setSearch r s)
  else fineStep r b s

/-- Best and fall count after a frame taken at `p` with figure `nf` (R89, step 1). -/
def updateBest (r : SearchRecord) (p nf : Nat) : SearchRecord × TrailEntry :=
  match r.best with
  | none => ({ r with best := some { pos := p, nf := nf }, falls := 0 }, { pos := p, nf := nf })
  | some b =>
    if b.nf < nf then ({ r with best := some { pos := p, nf := nf }, falls := 0 }, { pos := p, nf := nf })
    else if nf < b.nf - b.nf / 8 then ({ r with falls := r.falls + 1 }, b)
    else ({ r with falls := 0 }, b)

/-- A usable frame is taken: its entry joins the trail (R88) and the search decides its next step (R89). -/
def takeFrame (nf : Nat) (r0 : SearchRecord) (s : State) : State :=
  let p := r0.sample
  let t : State :=
    { s with focus := { s.focus with trail := ({ pos := p, nf := nf } :: s.focus.trail).take 8 } }
  let (r, b) := updateBest r0 p nf
  if r.falls = 2 then fineStep r b t
  else if p = (if r.up then r.hi else r.lo) then rangeEnd r b t
  else goSample (clampNat r.lo r.hi (if r.up then p + r.step else p - r.step)) r t

/-- A frame that is not taken resolves: it is counted when it completed at or after the sample start, and the eighth
ends the search (R87). "At or after" is judged by the signed 32-bit difference, as R29 judges times
(notes/assumptions/42.md, DEDUCED). -/
def countFrame (completion : Time) (r : SearchRecord) (s : State) : State :=
  if 0 ≤ timeDiff completion r.sampleStart then
    let r' := { r with resolved := r.resolved + 1 }
    if r'.resolved = 8 then failSearchBack .noFrames r' (setSearch r' s) else setSearch r' s
  else s

/-- A frame with no bank resolves at its completion (R87). -/
def resolveUnmetered (s : State) : State :=
  match s.focus.state, s.focus.search with
  | .searching .sample, some r => countFrame s.partTime r s
  | _, _ => s

/-- F of a bank in a figure mode (R82). -/
def figure (mode : FigureMode) (cells : List Nat) : Nat :=
  match mode with
  | .wide => min max32 cells.sum
  | .spot => cells.getD 4 0

/-- NF of a figure and a mean level (R82). -/
def normalised (f level : Nat) : Nat := min max32 (f * 256 / max level 1)

/-- Whether a frame is usable for the search (R83, conditions 2 to 6). -/
def usable (r : SearchRecord) (noData : Bool) (f : FrameRecord) : Bool :=
  !noData && !f.badExposure && f.focusStill && f.focusPos == r.sample && f.zoomPos == r.zs

/-- The Focus unit's part of an evaluation-done (R82, R83, R87). -/
def focusEvaluate (cells : List Nat) (copy : RecordCopy) (level : Nat) (noData : Bool) (s : State) :
    State × FocusOutcome :=
  let f := figure s.focus.mode cells
  let nf := normalised f level
  match s.focus.state, s.focus.search with
  | .searching .sample, some r =>
    if usable r noData copy.record then (takeFrame nf r s, { f := f, nf := nf, used := true })
    else (countFrame (copy.record.completion.getD 0) r s, { f := f, nf := nf, used := false })
  | _, _ => (s, { f := f, nf := nf, used := false })

/-! ### Focus orders -/

/-- The search record at the start of a search (R85). R85 gives no sample start: until SAMPLE is entered it is the part time of
the search's start, and nothing reads it (notes/assumptions/47.md, DESIGN CHOICE). -/
def State.newSearch (s : State) (step : Nat) : SearchRecord :=
  let zs := s.lens.zoom.position
  let pInf := s.interp Knot.pInf zs
  let pNear := s.interp Knot.pNear zs
  let fmax := s.lens.settings.fmax
  let lo := clampNat 0 fmax (min pInf pNear)
  let hi := clampNat 0 fmax (max pInf pNear)
  let ps := clampNat lo hi s.lens.focus.position
  { zs := zs, lo := lo, hi := hi, step := step, ps := ps, up := decide (ps - lo ≤ hi - ps), reversed := false,
    best := none, falls := 0, sample := ps, resolved := 0, sampleStart := s.partTime }

/-- A search begins (R84, R85): the focus motor is given p_s as a FOCUS_START target. -/
def beginSearch (mode : FigureMode) (step : Nat) (s : State) : State :=
  let r := s.newSearch step
  let t : State :=
    { s with focus := { s.focus with mode := mode, trail := [], search := some r, state := .searching .travel } }
  giveFocus true r.ps t

/-- FOCUS_START (R84). -/
def applyFocusStart (p : Posted) (s : State) : State × Answer :=
  let mode := if p.choice 0 then FigureMode.spot else FigureMode.wide
  let c := p.field 1 2
  let step := clampNat 8 128 c
  if s.lens.focus.state = .faulted then (s, plainAnswer .lensFault)
  else if s.lens.focus.state = .homing ∨ s.lens.zoom.state ≠ .idle then (s, plainAnswer .lensMoving)
  else (beginSearch mode step s, plainAnswer (if c = step then .taken else .clamped))

/-- FOCUS_CANCEL (R96). -/
def applyFocusCancel (_ : Posted) (s : State) : State × Answer :=
  let t := setFocusState .idle s
  (giveFocus false t.trackHere t, plainAnswer .ok)

/-- FOCUS_SET (R97). -/
def applyFocusSet (p : Posted) (s : State) : State × Answer :=
  if s.lens.focus.state = .faulted then (s, plainAnswer .lensFault)
  else
    let v := p.field 0 2
    let d := clampNat 0 4096 v
    let t : State := { s with focus := { s.focus with d := d, state := .locked } }
    (giveFocus false t.trackHere t, plainAnswer (clampedOr (v != d)))

/-- The settings of FOCUS_AREA as clamped, against the geometry while frames are set up (R81). -/
def clampFocusSettings (g : Option Geometry) (v : FocusSettings) : FocusSettings :=
  let w := (g.map Geometry.w).getD 8192
  let h := (g.map Geometry.h).getD 6144
  let fx := clampNat 0 (w - 1) v.fx
  let fy := clampNat 0 (h - 1) v.fy
  { fx := fx, fy := fy, fw := clampNat 0 (w - fx) v.fw, fh := clampNat 0 (h - fy) v.fh, core := clampNat 0 255 v.core,
    minc := v.minc }

/-- FOCUS_AREA (R81). -/
def applyFocusArea (p : Posted) (s : State) : State × Answer :=
  let v := p.focusSettings
  let v' := clampFocusSettings s.frames.geometry v
  ({ s with focus := { s.focus with settings := v' } }, plainAnswer (clampedOr (v' != v)))

end Sys2Proof.Machine
end

