-- ==== Sys2Proof/Machine/Banks.lean ====
section
/-! DEFINITION. The accumulator banks: claim, accumulation of pixel writes, and the hand-over from FREE to FREE
(R43 to R53). -/

namespace Sys2Proof.Machine

/-- The other bank waits for this one: it begins evaluation (R43, R53). -/
def wakeWaiting (id : BankId) (s : State) : State :=
  let o := s.bank id.other
  if o.state = .waiting then setBank id.other { o with state := .evaluating } s else s

/-- A bank becomes FREE with its contents discarded, and a WAITING bank begins evaluation (R43, R52, R57, R58). -/
def freeBank (id : BankId) (s : State) : State := wakeWaiting id (setBank id Bank.released s)

/-- A WAITING bank becomes FREE without evaluation, at START and at an accepted SETUP_FRAMES (R59). -/
def Bank.dropWaiting (b : Bank) : Bank := if b.state = .waiting then Bank.released else b

/-- Both banks at START and at an accepted SETUP_FRAMES (R59). -/
def dropWaitingBanks (s : State) : State :=
  { s with
    stats := { s.stats with bank0 := s.stats.bank0.dropWaiting, bank1 := s.stats.bank1.dropWaiting } }

/-- The bank a frame start finds free, bank 0 before bank 1 (R44). -/
def State.freeBank? (s : State) : Option BankId :=
  if s.stats.bank0.state = .free then some .bank0
  else if s.stats.bank1.state = .free then some .bank1
  else none

/-- The focus cells of the focus rectangle intersected with the image (R49). -/
def cellsOf (g : Geometry) (f : FocusSettings) : Nat × Nat :=
  ((min (f.fx + f.fw) g.w - f.fx) / 3, (min (f.fy + f.fh) g.h - f.fy) / 3)

/-- The bank as a claim sets it up (R44). -/
def claimedBank (g : Geometry) (m : Metering) (f : FocusSettings) (number buffer : Nat) : Bank :=
  { Bank.released with
    state := .accumulating, number := number, buffer := buffer
    settings :=
      { gp := g.gp, blk := m.blk, white := m.white, core := f.core, fx := f.fx, fy := f.fy,
        cw := (cellsOf g f).1, ch := (cellsOf g f).2 } }

/-! ### From write to pixels -/

/-- Whether a buffer offset is a pixel byte (02, section 2.1). -/
def isPixelByte (g : Geometry) (off : Nat) : Bool :=
  decide (g.stride ≤ off ∧ off / g.stride ≤ g.h ∧ off % g.stride < 2 * g.w)

/-- The pixel whose low byte is byte `i` of a write at buffer offset `o`, if the bank takes it: both bytes in the write,
both enabled, both in the pixel region (R45). -/
def pixelAt (g : Geometry) (o : Nat) (t : HostTransaction) (i : Nat) : Option Site :=
  let off := o + i
  if isPixelByte g off ∧ (off % g.stride) % 2 = 0 ∧ i + 1 < t.len ∧ t.mask.getD i false ∧ t.mask.getD (i + 1) false then
    some { y := off / g.stride - 1, x := (off % g.stride) / 2, v := readLe t.data i 2 % 4096 }
  else none

/-- Whether a pixel is a green site (R46). -/
def isGreen (gp : Nat) (p : Site) : Bool := (p.x + p.y + gp) % 2 == 1

/-- The green sites a bank takes from a write, in rising buffer offset (R45, R46). -/
def greenSites (g : Geometry) (gp o : Nat) (t : HostTransaction) : List Site :=
  ((List.range t.len).filterMap (pixelAt g o t)).filter (isGreen gp)

/-- The cell a pixel belongs to (R49). -/
def cellOf (c : BankSettings) (x y : Nat) : Option Nat :=
  if c.fx ≤ x ∧ x < c.fx + 3 * c.cw ∧ c.fy ≤ y ∧ y < c.fy + 3 * c.ch then
    some (3 * ((y - c.fy) / c.ch) + (x - c.fx) / c.cw)
  else none

/-- The zone of a pixel (R47). -/
def zoneOf (g : Geometry) (x y : Nat) : Nat := 8 * (y * 8 / g.h) + x * 8 / g.w

/-- A saturating addition to one place of a list. -/
def bump (top : Nat) (l : List Nat) (i n : Nat) : List Nat := l.set i (satAdd top (l.getD i 0) n)

/-- The cored difference of a pair (R50). -/
def coredDifference (core a b : Nat) : Nat := (max a b - min a b) - core

/-- What a green site adds to the cell figures, with the site before it in the write or the line carry (R50, R51). -/
def addPair (c : BankSettings) (before : Option Site) (p : Site) (cells : List Nat) : List Nat :=
  match before, cellOf c p.x p.y with
  | some q, some k =>
    if q.y = p.y ∧ q.x + 2 = p.x ∧ cellOf c q.x q.y = some k then bump max32 cells k (coredDifference c.core p.v q.v)
    else cells
  | _, _ => cells

/-- One green site into a bank (R46 to R51); the line carry holds the site before it. -/
def addSite (g : Geometry) (b : Bank) (p : Site) : Bank :=
  let z := zoneOf g p.x p.y
  { b with
    sums := bump max48 b.sums z (p.v - b.settings.blk)
    counts := bump max32 b.counts z 1
    bins := bump max32 b.bins (p.v / 64) 1
    clip := if b.settings.white ≤ p.v then satAdd max32 b.clip 1 else b.clip
    cells := addPair b.settings b.carry p b.cells
    carry := some p }

/-- A write given to a bank (R45 to R51). -/
def accumulate (g : Geometry) (o : Nat) (t : HostTransaction) (b : Bank) : Bank :=
  (greenSites g b.settings.gp o t).foldl (addSite g) b

/-- A bank whose frame completed receives the record copy and is evaluated or waits (R53). -/
def handOver (id : BankId) (copy : RecordCopy) (s : State) : State :=
  let b := s.bank id
  let busy := (s.bank id.other).state = .evaluating ∨ (s.bank id.other).state = .writing
  setBank id { b with state := if busy then .waiting else .evaluating, copy := some copy } s

end Sys2Proof.Machine
end

