-- ==== Sys2Proof/Machine/FramePool.lean ====
section
/-! DEFINITION. The raw pool: the buffer map and free list as they are rebuilt, cuts, pins and releases (R20 to R22, R27,
R37, R38, R41, R42). -/

namespace Sys2Proof.Machine

/-- The FILLING record, of which there is at most one (R27). -/
def State.filling? (s : State) : Option Nat := s.frames.table.findIdx? fun f => f.state == .filling

/-- Release the bank of a frame that is cut, without evaluation (R27, R52). -/
def releaseBank : Option BankId → State → State
  | some id, s => freeBank id s
  | none, s => s

/-- The record in a physical buffer is cut (R27). -/
def cutRecord (b : Nat) (s : State) : State :=
  let f := s.record b
  let t := setRecord b { f with state := .complete, cut := true, completion := some s.partTime, bank := none } s
  setCounters (fun c => { c with cutFrame := countUp c.cutFrame }) (latch .frameCut (releaseBank f.bank t))

/-- Cut the frame that is still filling, if there is one (R27, R42). -/
def cutFilling (s : State) : State :=
  match s.filling? with
  | some b => cutRecord b s
  | none => s

/-- Whether a pin of this frame in this record succeeds (R37). -/
def FrameRecord.pinnable (f : FrameRecord) (number : Nat) : Bool :=
  f.state == .complete && f.number == number && !f.cut && !f.notMetered

/-- A pin request (R37); `none` when it fails. -/
def pin (b number : Nat) (s : State) : Option State :=
  if (s.record b).pinnable number then
    some (setFree (s.frames.free.filter (· != b)) (setRecord b { s.record b with state := .pinned } s))
  else none

/-- A release request (R38). -/
def release (b : Nat) (s : State) : State :=
  if (s.record b).state = .pinned then
    let t := setRecord b { s.record b with state := .complete } s
    if (s.owner b).isSome then t else setFree (insertFree b s.frames.free) t
  else s

/-- The free list L..P − 1 (R20, R41, R42). -/
def Geometry.spares (g : Geometry) : List Nat := (List.range g.s).map (g.l + ·)

/-- The Frames block at an accepted SETUP_FRAMES and at START: identity map with offsets (0, 0), every record EMPTY,
counter 0 (R20, R41). -/
def Geometry.freshFrames (g : Geometry) : Frames :=
  { geometry := some g, map := (List.range g.l).map fun k => { phys := k, ox := 0, oy := 0 }, free := g.spares,
    table := List.replicate (g.l + g.s) FrameRecord.empty, number := 0 }

/-- The map and free list when the part state enters CONFIG; crop offsets and records are kept (R42). -/
def Frames.rebuilt (f : Frames) : Frames :=
  match f.geometry with
  | none => f
  | some g =>
    { f with
      map := (List.range g.l).map fun k => { f.map.getD k { phys := k, ox := 0, oy := 0 } with phys := k }
      free := g.spares }

end Sys2Proof.Machine
end

