-- ==== Sys2Proof/Machine/Steadying.lean ====
section
/-! DEFINITION. The Steadying unit: samples, angles and history, the exposure window, the crop offset and the motion
figure (chapter 8). -/

namespace Sys2Proof.Machine

/-- The clamp of the angles (R142). -/
def angleTop : Int := 8388607

/-- One integration of an angle with leak exponent k (R142). -/
def integrate (k : Nat) (a r : Int) : Int := clampInt (-angleTop) angleTop (a + r - a / (2 ^ k : Nat))

/-- An entry joins the history; of 128 the oldest goes (R146). -/
def appendHistory (h : List GyroEntry) (e : GyroEntry) : List GyroEntry :=
  (if h.length < 128 then h else h.drop (h.length - 127)) ++ [e]

/-- Change the Steadying unit. -/
def setSteady (u : Steady) (s : State) : State := { s with steady := u }

/-- The angles after a sample: integrated in ACTIVE, 0 in OFF (R142, R144). -/
def Steady.nextAngles (u : Steady) (k : Nat) (rx ry : Int) : Int × Int :=
  if u.state = .active then (integrate k u.ax rx, integrate k u.ay ry) else (u.ax, u.ay)

/-- Whether quiet holds with this run, by the QN in use at the present sample (R143). -/
def SteadySettings.quietAt (v : SteadySettings) (run : Nat) : Bool := decide (0 < v.qn ∧ v.qn ≤ run)

/-- The unit after a sample with these rates, this quiet run and this leak exponent (R142 to R144). -/
def Steady.withSample (u : Steady) (time : Time) (rx ry : Int) (run k : Nat) : Steady :=
  let a := u.nextAngles k rx ry
  { u with
    ax := a.1, ay := a.2, lastRx := rx, lastRy := ry, quietRun := run, quiet := u.settings.quietAt run
    history := appendHistory u.history { time := time, rx := rx, ry := ry, ax := a.1, ay := a.2 } }

/-- The quiet run after an accepted sample (R143). -/
def Steady.nextRun (u : Steady) (rx ry : Int) : Nat :=
  if rx.natAbs ≤ u.settings.qr ∧ ry.natAbs ≤ u.settings.qr then min 255 (u.quietRun + 1) else 0

/-- An accepted sample (R142, R143). -/
def acceptedSample (time : Time) (rateX rateY : Int) (s : State) : State :=
  let u := s.steady
  let rx := if u.settings.negX then -rateX else rateX
  let ry := if u.settings.negY then -rateY else rateY
  let run := u.nextRun rx ry
  let k := if u.settings.quietAt run then u.settings.kq else u.settings.k
  setSteady (u.withSample time rx ry run k) s

/-- A missing sample in OFF or ACTIVE: a held entry (R144). -/
def missingSample (time : Time) (s : State) : State :=
  let u := s.steady
  let t := setSteady (u.withSample time u.lastRx u.lastRy 0 u.settings.k) s
  setCounters (fun c => { c with heldSample := countUp c.heldSample }) (latch .gyroHeld t)

/-- A faulted sample: a zero entry (R145). -/
def faultedSample (time : Time) (s : State) : State :=
  let u := s.steady
  setSteady
    { u with
      lastRx := 0, lastRy := 0, quietRun := 0, quiet := false
      history := appendHistory u.history { time := time, rx := 0, ry := 0, ax := 0, ay := 0 } } s

/-- The Lens link faults the sensing target (R141): FAULTED from OFF or ACTIVE. -/
def sensingFaulted (s : State) : State :=
  if s.steady.state = .faulted then s
  else latch .gyroFault (setSteady { s.steady with state := .faulted, view := true, ax := 0, ay := 0 } s)

/-- The Lens link clears the sensing-faulted mark (R141): FAULTED becomes what the mode says. -/
def sensingCleared (s : State) : State :=
  if s.steady.state = .faulted then
    setSteady
      { s.steady with
        state := if s.steady.settings.on then .active else .off
        view := false, ax := 0, ay := 0, lastRx := 0, lastRy := 0, quietRun := 0, quiet := false } s
  else s

/-- The settings of STEADY_MODE as clamped: K, then KQ against it, QR, QN (R140). -/
def clampSteadySettings (v : SteadySettings) : SteadySettings :=
  let k := clampNat 6 14 v.k
  { v with k := k, kq := clampNat 2 k v.kq, qr := clampNat 0 4095 v.qr, qn := clampNat 0 127 v.qn }

/-- The unit after its settings are replaced, with the change of state (R140, R141). The new settings are used from the next
sample onward: run and quiet stay. -/
def Steady.withSettings (u : Steady) (v : SteadySettings) : Steady :=
  match u.state with
  | .off => if v.on ∧ u.view = false then { u with settings := v, state := .active, ax := 0, ay := 0 }
            else { u with settings := v }
  | .active => if v.on then { u with settings := v } else { u with settings := v, state := .off, ax := 0, ay := 0 }
  | .faulted => { u with settings := v }

/-- STEADY_MODE (R140). -/
def applySteadyMode (p : Posted) (s : State) : State × Answer :=
  let v := p.steadySettings
  let v' := clampSteadySettings v
  (setSteady (s.steady.withSettings v') s, plainAnswer (clampedOr (v' != v)))

/-! ### The exposure window (R147) -/

/-- T_h − LAT as a part time. -/
def headerBase (g : Geometry) (f : FrameRecord) : Time := f.tH - BitVec.ofNat 32 g.lat

/-- The window start the focus-still flag is judged against: T_h − LAT − t_hdr (R29). -/
def stillStart (g : Geometry) (f : FrameRecord) : Time := headerBase g f - BitVec.ofNat 32 f.tHdr

/-- t' and ro' (R147). -/
def FrameRecord.tClamped (f : FrameRecord) : Nat := clampNat 0 2000000 f.tHdr
@[inherit_doc FrameRecord.tClamped] def FrameRecord.roClamped (f : FrameRecord) : Nat := clampNat 0 2000000 f.readout

/-- Window start ws (R147). -/
def windowStart (g : Geometry) (f : FrameRecord) : Time := headerBase g f - BitVec.ofNat 32 f.tClamped

/-- Window end we (R147). -/
def windowEnd (g : Geometry) (f : FrameRecord) : Time := headerBase g f + BitVec.ofNat 32 f.roClamped

/-- Midpoint m (R147); the division rounds toward minus infinity. -/
def windowMid (g : Geometry) (f : FrameRecord) : Time :=
  headerBase g f + BitVec.ofInt 32 (((f.roClamped : Int) - f.tClamped) / 2)

/-! ### Crop offset and motion figure -/

/-- The history entry nearest a time, the earlier of two equally near (R148). -/
def nearest (m : Time) : List GyroEntry → Option GyroEntry
  | [] => none
  | e :: es => some (es.foldl
      (fun b x => if (timeDiff x.time m).natAbs < (timeDiff b.time m).natAbs then x else b) e)

/-- A raw offset from an angle and ppd16 (R148). -/
def rawOffset (a : Int) (ppd16 : Nat) : Int := -(roundDiv (a * ppd16) 1024000)

/-- An offset made even by truncation toward zero (R149). -/
def evenTowardZero (x : Int) : Int := if x % 2 = 0 then x else if 0 < x then x - 1 else x + 1

/-- The entries that span the exposure window (R150). -/
def spanning (ws we : Time) (h : List GyroEntry) : List GyroEntry :=
  let before := h.filter fun e => decide (timeDiff e.time ws < 0)
  let inside := h.filter fun e => decide (0 ≤ timeDiff e.time ws ∧ timeDiff e.time we ≤ 0)
  let after := h.filter fun e => decide (0 < timeDiff e.time we)
  before.getLast?.toList ++ inside ++ after.head?.toList

/-- The greatest less the least of a list of angles. -/
def rangeOf : List Int → Nat
  | [] => 0
  | a :: as => (as.foldl max a - as.foldl min a).toNat

/-- The motion figure over the entries of U (R150). -/
def motionFigure (u : List GyroEntry) (ppd16 : Nat) : Nat :=
  let r := rangeOf (u.map GyroEntry.ax) + rangeOf (u.map GyroEntry.ay)
  min 255 (roundDiv ((r * ppd16 : Nat) : Int) 1024000).toNat

/-- Whether the history fails to reach one end of the window (R150). -/
def historyPartial (ws we : Time) (h : List GyroEntry) : Bool :=
  !(h.any fun e => decide (timeDiff e.time ws ≤ 0)) || !(h.any fun e => decide (0 ≤ timeDiff e.time we))

/-- What the Steadying unit hands on at a completion (R148 to R151). -/
structure CropResult where
  ox      : Int
  oy      : Int
  m       : Nat
  partly  : Bool
  limited : Bool
  deriving DecidableEq, Repr

/-- The crop offset and motion figure of a completed frame (R148 to R151). -/
def cropResult (s : State) (g : Geometry) (f : FrameRecord) : CropResult :=
  let u := s.steady
  match u.state, nearest (windowMid g f) u.history with
  | .off, _ => { ox := 0, oy := 0, m := 0, partly := false, limited := false }
  | .faulted, _ => { ox := 0, oy := 0, m := 255, partly := false, limited := false }
  | .active, none => { ox := 0, oy := 0, m := 255, partly := true, limited := false }
  | .active, some e =>
    let ppd16 := s.interp Knot.ppd16 f.zoomPos
    let x := rawOffset e.ax ppd16
    let y := rawOffset e.ay ppd16
    let cx := clampInt (-g.mx) g.mx x
    let cy := clampInt (-g.my) g.my y
    { ox := evenTowardZero cx, oy := evenTowardZero cy
      m := motionFigure (spanning (windowStart g f) (windowEnd g f) u.history) ppd16
      partly := historyPartial (windowStart g f) (windowEnd g f) u.history
      limited := decide (cx ≠ x ∨ cy ≠ y) }

end Sys2Proof.Machine
end

