-- ==== Sys2Proof/Machine/LensDrive.lean ====
section
/-! DEFINITION. The Lens drive: what motor requests and replies do, homing, parking, the supply monitor, and the lens
orders (chapter 6). -/

namespace Sys2Proof.Machine

/-- Change the Lens drive. -/
def setLens (l : Lens) (s : State) : State := { s with lens := l }

/-- Change the supply monitor. -/
def setSupply (p : Supply) (s : State) : State := setLens { s.lens with supply := p } s

/-! ### Requests at a turn -/

/-- The cap on a motor's steps in a round (R107). -/
def State.cap (s : State) : MotorId → Nat
  | .zoom => if s.lens.supply.overCurrent then 1 else s.lens.zoom.speed
  | .focus => 16

/-- The steps of a homing MOVE (R115). -/
def State.homingSteps (s : State) : MotorId → Int
  | .zoom => if s.lens.supply.overCurrent then -1 else -8
  | .focus => -16

/-- The steps toward the aim, at most the cap (R107). -/
def Motor.stepsToAim (m : Motor) (cap : Nat) : Int :=
  let n := min (((m.aim : Int) - m.position).natAbs) cap
  if m.aim < m.position then -(n : Int) else n

/-- The request a motor needs at its turn (R107, R115, R121). -/
def State.motorRequest (s : State) (id : MotorId) : Option Request :=
  let m := s.motor id
  if s.lens.supply.lensLow then none
  else
    match m.state with
    | .homing => some (if m.refSeen then .home else .move (s.homingSteps id) (s.cap id))
    | .moving => some (.move (if m.uncertain then 0 else m.stepsToAim (s.cap id)) (s.cap id))
    | _ => none

/-! ### Homing -/

/-- The values a motor record takes when it is prepared for homing (R114). -/
def Motor.prepared (m : Motor) (st : MotorState) : Motor :=
  { m with
    state := st, travel := 0, refSeen := false, uncertain := false, fault := .none, zoomToPending := false }

/-- Whether a zoom has just been homed (R116). -/
def setZoomHomed (b : Bool) (s : State) : State := setLens { s.lens with zoomHomed := b } s

/-- The zoom's park target at the end of homing (R116). -/
def parkZoom (s : State) : State :=
  if s.lens.zoomHomed ∧ s.lens.zoom.state = .idle then
    giveTarget .zoom false s.lens.settings.park (setMotor .zoom { s.lens.zoom with speed := 8 } s)
  else s

/-- The focus's park target at the end of homing (R116). -/
def parkFocus (s : State) : State := if s.lens.focus.state = .idle then giveFocus false s.trackHere s else s

/-- The end of homing: the part state machine is told and the park targets are given (R116, R191). -/
def endOfHoming (s : State) : State :=
  let t : State := { s with partState := if s.partState = .homing then .running else s.partState }
  setZoomHomed false (parkFocus (parkZoom t))

/-- The zoom has left HOMING: a focus that waits UNHOMED begins, one that is HOMING goes on, otherwise homing ends
(R114, R116). -/
def zoomLeftHoming (s : State) : State :=
  match s.lens.focus.state with
  | .unhomed => setMotor .focus (s.lens.focus.prepared .homing) s
  | .homing => s
  | _ => endOfHoming s

/-- A motor has left HOMING (R114, R116). -/
def leftHoming : MotorId → State → State
  | .zoom, s => zoomLeftHoming s
  | .focus, s => endOfHoming s

/-! ### Lost motors -/

/-- A motor becomes FAULTED (R108, R109, R115); a search on a lost focus motor ends (R95), and a homing it was in ends
for it (R116). -/
def faultMotor (id : MotorId) (m : Motor) (why : MotorFault) (s : State) : State :=
  let wasHoming := (s.motor id).state = .homing
  let t := latch .lensFault (setMotor id { m with state := .faulted, fault := why, zoomToPending := false } s)
  let u := if id = .focus then focusMotorLost t else t
  if wasHoming then leftHoming id u else u

/-! ### Accepted and missing replies -/

/-- The homing travel limit (R115). -/
def State.homingLimit (s : State) (id : MotorId) : Nat := s.topPosition id + 64

/-- An accepted MOVED reply of a HOMING motor (R115). A travel that would pass 2^32 − 1 stays there
(notes/assumptions/48.md, DESIGN CHOICE). -/
def movedHoming (id : MotorId) (steps : Int) (ref : Bool) (s : State) : State :=
  let m := s.motor id
  let m' := { m with travel := satAdd max32 m.travel steps.natAbs, lastSteps := steps }
  if ref then setMotor id { m' with refSeen := true } s
  else if s.homingLimit id ≤ m'.travel then faultMotor id m' .noHome s
  else setMotor id m' s

/-- What an accepted position makes of a motor record (R106, R108, step 4); `true` when it is to enter SETTLING. -/
def Motor.compared (m : Motor) : Motor × Bool :=
  match m.state with
  | .moving =>
    if m.position = m.aim then
      if m.aim = m.target then (m, true) else ({ m with aim := m.target, overshoot := false }, false)
    else (m, false)
  | .settling => if m.position = m.target then (m, false) else ({ m with state := .moving }, false)
  | .idle => if m.position = m.target then (m, false) else ({ m with state := .moving }, false)
  | .stalled => (m.stoppedHere, false)
  | _ => (m, false)

/-- Step 4 of R108, with what a search makes of a focus motor that became IDLE (R86, R93). -/
def compareMotor (id : MotorId) (s : State) : State :=
  let (m, settles) := (s.motor id).compared
  let t := setMotor id m s
  let u := if settles then enterSettling id t else t
  if id = .focus then focusArrived u else u

/-- The zoom's confirmed position may have changed from `z0` (R108, step 3). -/
def zoomMoved (id : MotorId) (z0 : Nat) (s : State) : State :=
  if id = .zoom ∧ s.lens.zoom.position ≠ z0 then zoomChanged s else s

/-- An accepted MOVED reply of a motor that is not HOMING (R108). Out of range it ends with step 2, but a zoom position
changed by the clamp is a change like any other: R94 counts it whatever caused it, and R111 every one that an accepted MOVED
reply makes (notes/assumptions/43.md, DEDUCED). -/
def movedAway (id : MotorId) (steps abs : Int) (s : State) : State :=
  let m := s.motor id
  let p := (clampInt 0 (s.topPosition id) abs).toNat
  let m' := { m with lastSteps := steps, position := p, uncertain := false }
  if (p : Int) ≠ abs then zoomMoved id m.position (faultMotor id m'.stoppedHere .range s)
  else compareMotor id (zoomMoved id m.position (setMotor id m' s))

/-- An accepted MOVED reply (R108, R115). -/
def movedReply (id : MotorId) (steps abs : Int) (ref : Bool) (s : State) : State :=
  if (s.motor id).state = .homing then movedHoming id steps ref s else movedAway id steps abs s

/-- An accepted HOMED reply (R115); one for a motor that is not HOMING changes nothing (notes/assumptions/16.md). -/
def homedReply (id : MotorId) (s : State) : State :=
  let m := s.motor id
  if m.state = .homing then
    let t := setMotor id
      { m with position := 0, target := 0, aim := 0, overshoot := false, state := .idle, stillSince := s.partTime } s
    match id with
    | .zoom => leftHoming .zoom (zoomChanged (setZoomHomed true t))
    | .focus => leftHoming .focus t
  else s

/-- A missing MOVED reply (R109, R115): the position is uncertain whatever the motor's state, HOMING included, and the
flag then stays through HOMED (notes/assumptions/41.md, DEDUCED). A homing travel that would pass 2^32 − 1 stays there
(notes/assumptions/48.md, DESIGN CHOICE). -/
def movedMissing (id : MotorId) (steps : Int) (s : State) : State :=
  let m := s.motor id
  match m.state with
  | .homing => setMotor id { m with uncertain := true, travel := satAdd max32 m.travel steps.natAbs } s
  | .settling | .idle => setMotor id { m with uncertain := true, state := .moving } s
  | _ => setMotor id { m with uncertain := true } s

/-- A missing reply to a motor's request; a missing HOMED leaves the motor as it is (R109, R115). -/
def motorMissing (id : MotorId) (r : Request) (s : State) : State :=
  match r with
  | .move steps _ => movedMissing id steps s
  | _ => s

/-- The link reports a motor target that failed three times in a row (R109). -/
def motorLinkFault (id : MotorId) (s : State) : State := faultMotor id (s.motor id).stoppedHere .link s

/-! ### Supply monitor -/

/-- The sums and peaks of an accepted SENSED reply (R118). -/
def Supply.sampled (p : Supply) (v i period : Nat) : Supply :=
  let power := v * i / 1000
  let sum := p.energy + power * period / 1000
  { p with
    lastV := v, lastI := i, lastP := power
    energy := if max32 < sum then sum - (max32 + 1) else sum
    rollover := if max32 < sum then (p.rollover + 1) % (max16 + 1) else p.rollover
    samples := (p.samples + 1) % (max32 + 1)
    peakI := max p.peakI i, peakP := max p.peakP power }

/-- The over-current rule (R119). -/
def overCurrentRule (i : Nat) (s : State) : State :=
  let p := s.lens.supply
  if p.overCurrent then
    if i < p.iWarn - p.iHyst then setSupply { p with overCurrent := false } s else s
  else if p.iWarn < i then latch .overCurrent (setSupply { p with overCurrent := true } s)
  else s

/-- The low-supply rule (R121). -/
def lensLowRule (v : Nat) (s : State) : State :=
  let p := s.lens.supply
  if p.lensLow then
    if p.vLow + p.vHyst < v then setSupply { p with lensLow := false } s else s
  else if v < p.vLow then latch .lensLow (setSupply { p with lensLow := true } s)
  else s

/-- A motor record at a stall: MOVING is STALLED, HOMING is FAULTED (R120). -/
def Motor.stalledBy (m : Motor) : Motor :=
  match m.state with
  | .moving => { m.stoppedHere with state := .stalled, zoomToPending := false }
  | .homing => { m with state := .faulted, fault := .noHome, zoomToPending := false }
  | _ => { m with zoomToPending := false }

/-- The focus motor became STALLED or FAULTED by a stall (R95, R120). -/
def stalledFocus (before : MotorState) (s : State) : State :=
  if before = .moving ∨ before = .homing then focusMotorLost s else s

/-- What the stall does to a homing in progress (R114, R116). -/
def stalledHoming (zoom focus : MotorState) (s : State) : State :=
  if focus = .homing then endOfHoming s else if zoom = .homing then zoomLeftHoming s else s

/-- The third high reading: the motors are stopped (R120). -/
def stallMotors (s : State) : State :=
  let z := s.lens.zoom
  let f := s.lens.focus
  let t := setLens { s.lens with zoom := z.stalledBy, focus := f.stalledBy } s
  let u := latch .stall (latchIf (z.state = .homing ∨ f.state = .homing) .lensFault t)
  stalledHoming z.state f.state (stalledFocus f.state u)

/-- Whether a motor is MOVING or HOMING (R120). -/
def Motor.driven (m : Motor) : Bool := m.state == .moving || m.state == .homing

/-- The stall rule (R120). -/
def stallRule (i : Nat) (s : State) : State :=
  let p := s.lens.supply
  if p.iStall < i ∧ (s.lens.zoom.driven ∨ s.lens.focus.driven) then
    if p.stallCount + 1 = 3 then stallMotors (setSupply { p with stallCount := 0 } s)
    else setSupply { p with stallCount := p.stallCount + 1 } s
  else setSupply { p with stallCount := 0 } s

/-- An accepted reading reaches the supply monitor (R118 to R121). -/
def supplyReading (v i period : Nat) (s : State) : State :=
  lensLowRule v (stallRule i (overCurrentRule i (setSupply (s.lens.supply.sampled v i period) s)))

/-! ### Parking -/

/-- The quiet link: no exchange and no turn, LSEL_N high, LCLK low, LMOSI low (R124, R137, R138). -/
def Link.quieted (l : Link) : Link :=
  { l with exchange := none, turn := .done, lselN := true, lclk := false, lmosi := false }

/-- The part state enters CONFIG: the round timer stops with its exchange abandoned and no count or counter changed (R137),
and the map is rebuilt (R42). -/
def enterConfig (s : State) : State :=
  { s with
    partState := .config
    link := s.link.quieted
    frames := s.frames.rebuilt }

/-- Whether a motor still moves, settles or homes (R117). -/
def Motor.underWay (m : Motor) : Bool := m.driven || m.state == .settling

/-- In PARKING, with no motor under way, the lens is parked (R117, R191). -/
def checkParked (s : State) : State :=
  if s.partState = .parking ∧ s.lens.zoom.underWay = false ∧ s.lens.focus.underWay = false then enterConfig s else s

/-- A motor whose homing STOP ends (R117). -/
def Motor.unhomedAtStop (m : Motor) : Motor := if m.state = .homing then { m with state := .unhomed } else m

/-- Whether STOP gives a motor a park target (R117). -/
def Motor.parks (m : Motor) : Bool := m.state == .idle || m.state == .moving || m.state == .settling

/-- STOP parks the lens (R117). -/
def parkLens (s : State) : State :=
  let t := setZoomHomed false
    (setLens { s.lens with zoom := s.lens.zoom.unhomedAtStop, focus := s.lens.focus.unhomedAtStop } s)
  let u :=
    if t.lens.zoom.parks then
      giveTarget .zoom false 0 (setMotor .zoom { t.lens.zoom with zoomToPending := false, speed := 8 } t)
    else t
  if u.lens.focus.parks then giveFocus false (u.track 0 u.focus.d) u else u

/-- The settle time of a motor runs out (R110). -/
def settleExpired (id : MotorId) (s : State) : State :=
  let m := s.motor id
  if m.state = .settling ∧ s.settleTime id ≤ elapsed s.partTime m.settleStart then
    let t := becomeIdle id s
    checkParked (if id = .focus then focusArrived t else t)
  else s

/-! ### Orders -/

/-- The lens settings as clamped: Δ before the park position (R103). -/
def clampLensSettings (v : LensSettings) : LensSettings :=
  let delta := clampNat 8 128 v.delta
  { delta := delta, fmax := clampNat 0 4095 v.fmax, backlash := clampNat 0 64 v.backlash,
    zoomSettle := clampNat 0 20000 v.zoomSettle, focusSettle := clampNat 0 20000 v.focusSettle,
    park := clampNat 0 (32 * delta) v.park, period := clampNat 500 4000 v.period }

/-- Both motors become UNHOMED; a zoom position changed this way counts as a change (R104, R111). -/
def unhomeMotors (s : State) : State :=
  let z := s.lens.zoom.position
  zoomMoved .zoom z (setLens { s.lens with zoom := Motor.unhomed, focus := Motor.unhomed, zoomHomed := false } s)

/-- SETUP_LENS (R103). -/
def applySetupLens (p : Posted) (s : State) : State × Answer :=
  let v := p.lensSettings
  let v' := clampLensSettings v
  (unhomeMotors (setLens { s.lens with settings := v' } s), plainAnswer (clampedOr (v' != v)))

/-- A knot as clamped (R100). -/
def clampKnot (k : Knot) : Knot :=
  { pInf := clampNat 0 4095 k.pInf, pNear := clampNat 0 4095 k.pNear, a := clampNat 0 255 k.a,
    sLim := clampNat 0 669 k.sLim, ppd16 := clampNat 0 65535 k.ppd16 }

/-- Knots written from an index on (R100). -/
def writeKnots (table : List Knot) (start : Nat) (ks : List Knot) : List Knot :=
  table.mapIdx fun i k => if start ≤ i then ks.getD (i - start) k else k

/-- LOAD_TRACKING (R100). -/
def applyLoadTracking (p : Posted) (s : State) : State × Answer :=
  let start := p.field 0 1
  let count := p.field 1 1
  if count = 0 ∨ 6 < count ∨ 33 < start + count then (s, plainAnswer .badRange)
  else
    let v := (List.range count).map p.knot
    let v' := v.map clampKnot
    (unhomeMotors (setLens { s.lens with knots := writeKnots s.lens.knots start v' } s),
      plainAnswer (clampedOr (v' != v)))

/-- The largest speed class not above a carried value, 1 for 0 (R112). -/
def speedClass (v : Nat) : Nat := if 8 ≤ v then 8 else if 4 ≤ v then 4 else if 2 ≤ v then 2 else 1

/-- ZOOM_DONE at once for a zoom that stands IDLE at the target of its ZOOM_TO (R112). -/
def zoomDoneAtOnce (s : State) : State :=
  let z := s.lens.zoom
  if z.zoomToPending ∧ z.state = .idle ∧ z.position = z.target then
    latch .zoomDone (setMotor .zoom { z with zoomToPending := false } s)
  else s

/-- A search ends at a ZOOM_TO, whatever its target (R95). -/
def cancelSearchForZoom (s : State) : State :=
  if s.focus.state.isSearching then
    let t := failSearch .cancelled s
    giveFocus false t.trackHere t
  else s

/-- ZOOM_TO past its checks (R112). -/
def zoomTo (target speed : Nat) (s : State) : State :=
  let t := cancelSearchForZoom s
  zoomDoneAtOnce
    (giveTarget .zoom true target (setMotor .zoom { t.lens.zoom with speed := speed, zoomToPending := true } t))

/-- ZOOM_TO (R112). -/
def applyZoomTo (p : Posted) (s : State) : State × Answer :=
  let target := p.field 0 2
  let speed := p.field 2 1
  match s.lens.zoom.state with
  | .faulted => (s, plainAnswer .lensFault)
  | .unhomed | .homing => (s, plainAnswer .lensMoving)
  | _ =>
    (zoomTo target (speedClass speed) s,
      plainAnswer (clampedOr (decide (s.zmax < target) || speedClass speed != speed)))

/-- ZOOM_STOP (R113). Pending is cleared before the target is given, so no ZOOM_DONE follows
(notes/assumptions/19.md). -/
def applyZoomStop (_ : Posted) (s : State) : State × Answer :=
  let z := s.lens.zoom
  match z.state with
  | .faulted => (s, plainAnswer .lensFault)
  | .unhomed | .homing => (s, plainAnswer .lensMoving)
  | _ => (giveTarget .zoom false z.position (setMotor .zoom { z with zoomToPending := false } s), plainAnswer .ok)

/-- The failure counts are zeroed and the sensing-faulted mark cleared, with the Steadying unit told (R136, R141). -/
def clearLinkFailures (s : State) : State :=
  sensingCleared
    { s with link := { s.link with failSensing := 0, failZoom := 0, failFocus := 0, sensingFaulted := false } }

/-- FAULTED motors are prepared for homing by LENS_RESTART in RUNNING (R114). -/
def rehomeFaulted (s : State) : State :=
  let z := s.lens.zoom
  let z' := if z.state = .faulted then z.prepared .homing else z
  let f := s.lens.focus
  let f' := if f.state = .faulted then f.prepared (if z'.state = .homing then .unhomed else .homing) else f
  setLens
    { s.lens with zoom := z', focus := f', zoomHomed := if z.state = .faulted then false else s.lens.zoomHomed } s

/-- LENS_RESTART (R114, R136). -/
def applyLensRestart (_ : Posted) (s : State) : State × Answer :=
  let t := clearLinkFailures s
  (if t.partState = .running then rehomeFaulted t else t, plainAnswer .ok)

/-- SUPPLY_LIMITS (R122). -/
def applySupplyLimits (p : Posted) (s : State) : State × Answer :=
  let iWarn := p.field 0 2
  let iHyst := p.field 2 2
  let vLow := p.field 6 2
  let vHyst := p.field 8 2
  let iHyst' := clampNat 0 iWarn iHyst
  let vHyst' := clampNat 0 (65535 - vLow) vHyst
  (setSupply
      { s.lens.supply with
        iWarn := iWarn, iHyst := iHyst', iStall := p.field 4 2, vLow := vLow, vHyst := vHyst', stallCount := 0 } s,
    plainAnswer (clampedOr (iHyst' != iHyst || vHyst' != vHyst)))

/-- CLEAR_SUPPLY (R122). -/
def applyClearSupply (_ : Posted) (s : State) : State × Answer :=
  (setSupply { s.lens.supply with energy := 0, rollover := 0, samples := 0, peakI := 0, peakP := 0 } s,
    plainAnswer .ok)

/-- START prepares both motors for homing and zeroes the stall count (R114, R122). -/
def startLens (s : State) : State :=
  setLens
    { s.lens with
      zoom := s.lens.zoom.prepared .homing, focus := s.lens.focus.prepared .unhomed, zoomHomed := false
      supply := { s.lens.supply with stallCount := 0 } } s

end Sys2Proof.Machine
end

