-- ==== Sys2Proof/Machine/LensLink.lean ====
section
/-! DEFINITION. The Lens link: rounds, turns, exchanges, the checking of replies and what each outcome delivers
(chapter 7). -/

namespace Sys2Proof.Machine

/-- Change the Lens link. -/
def setLink (l : Link) (s : State) : State := { s with link := l }

/-- The motor a target drives; `none` for sensing (R126). -/
def Target.motor : Target → Option MotorId
  | .sensing => none
  | .zoom => some .zoom
  | .focus => some .focus

/-- The consecutive-failure count of a target (R134). -/
def Link.fails (l : Link) : Target → Nat
  | .sensing => l.failSensing
  | .zoom => l.failZoom
  | .focus => l.failFocus

/-- Replace the failure count of a target. -/
def setFails (t : Target) (n : Nat) (s : State) : State :=
  match t with
  | .sensing => setLink { s.link with failSensing := n } s
  | .zoom => setLink { s.link with failZoom := n } s
  | .focus => setLink { s.link with failFocus := n } s

/-! ### Turns -/

/-- A request is sent: an exchange begins in SENDING with LSEL_N low (R126, R129). From here until the link is next quiet,
at the end of the zoom turn (R124), in CONFIG or in reset, the levels of LCLK and LMOSI are free values
(notes/assumptions/26.md). -/
def sendRequest (t : Target) (r : Request) (turn : Turn) (s : State) : State :=
  setLink
    { s.link with
      turn := turn, lselN := false
      lclk := (Config.freeLine s.freeCount).1, lmosi := (Config.freeLine s.freeCount).2
      exchange := some
        { target := t, request := r, state := .sending, seq := s.link.seq, bytes := requestBytes t r s.link.seq,
          pollBase := s.partTime, headerIn := false } } { s with freeCount := s.freeCount + 1 }

/-- The zoom turn (R124); skipped, it leaves the link quiet until the next round. -/
def zoomTurn (s : State) : State :=
  match s.motorRequest .zoom with
  | some r => sendRequest .zoom r .zoom s
  | none => setLink s.link.quieted s

/-- The focus turn (R124). -/
def focusTurn (s : State) : State :=
  match s.motorRequest .focus with
  | some r => sendRequest .focus r .focus s
  | none => zoomTurn s

/-- The turn after the one that came last, while the round timer runs; after the zoom turn the link is quiet until the
next round (R124, R137). -/
def nextTurn (s : State) : State :=
  if s.partState = .config then s
  else
    match s.link.turn with
    | .sensing => focusTurn s
    | .focus => zoomTurn s
    | .zoom | .done => setLink s.link.quieted s

/-- The start of a round, with its sensing turn (R123, R124). -/
def beginRound (s : State) : State :=
  sendRequest .sensing .sense .sensing
    (setLink
      { s.link with
        period := s.lens.settings.period, roundStart := s.partTime, seq := s.link.seq + 1 } s)

/-! ### Outcomes -/

/-- The exchange is over: LSEL_N rises (R129). -/
def closeExchange (s : State) : State := setLink { s.link with exchange := none, lselN := true } s

/-- The sensing-faulted mark is set and the Steadying unit told (R134). -/
def faultSensing (s : State) : State := sensingFaulted (setLink { s.link with sensingFaulted := true } s)

/-- A missing sensing reply (R133 to R135, R145). -/
def sensingMissing (s : State) : State :=
  if s.link.sensingFaulted then faultedSample s.link.roundStart s
  else
    let t := setFails .sensing (s.link.failSensing + 1) s
    if t.link.failSensing = 3 then faultedSample t.link.roundStart (faultSensing t)
    else missingSample t.link.roundStart t

/-- A missing reply of a motor target (R133, R134). -/
def motorExchangeMissing (t : Target) (id : MotorId) (r : Request) (s : State) : State :=
  let u := motorMissing id r (setFails t (s.link.fails t + 1) s)
  if u.link.fails t = 3 then motorLinkFault id u else u

/-- What an exchange that ends missing delivers (R133). -/
def deliverMissing (x : Exchange) (s : State) : State :=
  match x.target.motor with
  | none => sensingMissing s
  | some id => motorExchangeMissing x.target id x.request s

/-- An exchange ends missing: counted, delivered, and the lens may then be parked (R133, R134, R117). -/
def endMissing (x : Exchange) (s : State) : State :=
  checkParked
    (deliverMissing x
      (setCounters (fun c => { c with missingReply := countUp c.missingReply }) (closeExchange s)))

/-- An accepted SENSED reply (R118, R133, R135, R142). -/
def deliverSensed (payload : List Byte) (s : State) : State :=
  let rx := signedOf 16 (readBe16 payload 0)
  let ry := signedOf 16 (readBe16 payload 2)
  if s.link.sensingFaulted then faultedSample s.link.roundStart s
  else
    acceptedSample s.link.roundStart rx ry
      (supplyReading (readBe16 payload 4) (readBe16 payload 6) s.link.period (setFails .sensing 0 s))

/-- What an accepted reply delivers (R133, R134). -/
def deliverAccepted (x : Exchange) (payload : List Byte) (s : State) : State :=
  match x.target.motor with
  | none => deliverSensed payload s
  | some id =>
    let t := setFails x.target 0 s
    match x.request with
    | .home => homedReply id t
    | _ =>
      movedReply id (signedOf 16 (readBe16 payload 0)) (signedOf 16 (readBe16 payload 2)) (byteAt payload 4 != 0) t

/-- An exchange ends with its reply accepted. -/
def endAccepted (x : Exchange) (payload : List Byte) (s : State) : State :=
  checkParked (deliverAccepted x payload (closeExchange s))

/-! ### Checking a reply -/

/-- A byte clocked in from LMISO; beyond what a target drives it reads 0xFF (R129; notes/assumptions/24.md). -/
def lineByte (line : List Byte) (i : Nat) : Byte := line.getD i 0xFF#8

/-- The header as judged (R130). -/
def judgedHeader (h : ReplyHeader) : Option ((Byte × Byte × Byte) × Bool) := judgeHeader h.b0 h.b1 h.b2 h.b3

/-- Whether the header is taken corrected (R130). -/
def headerCorrected (h : ReplyHeader) : Bool :=
  match judgedHeader h with
  | some (_, corrected) => corrected
  | none => false

/-- The match conditions on a header as taken (R132). -/
def matchesRequest (x : Exchange) (b0 b1 b2 : Byte) : Bool :=
  b0.toNat % 8 == x.target.number && b0.toNat / 8 == x.request.replyKind && b2 == x.seq &&
    decide (b1.toNat ≤ 24) && b1.toNat == x.request.replyLength

/-- The payload, if its CRC is good; a payload of length 0 has none (R131). -/
def checkPayload (line : List Byte) (n : Nat) : Option (List Byte) :=
  let payload := (List.range n).map (lineByte line)
  let sent := 256 * (lineByte line n).toNat + (lineByte line (n + 1)).toNat
  if n = 0 ∨ (crc16 payload).toNat = sent then some payload else none

/-- The payload of a reply with this header and then `line`, if the reply is accepted (R130 to R132). -/
def judgeReply (x : Exchange) (h : ReplyHeader) (line : List Byte) : Option (List Byte) :=
  match judgedHeader h with
  | some ((b0, b1, b2), _) => if matchesRequest x b0 b1 b2 then checkPayload line b1.toNat else none
  | none => none

/-- The exchange whose reply is being read, with that reply's header (R129). -/
def State.reading? (s : State) : Option (Exchange × ReplyHeader) :=
  match s.link.exchange with
  | some x =>
    match x.state with
    | .reading h => some (x, h)
    | _ => none
  | none => none

/-- The correction of a header that is in is counted, whether or not the reply is accepted afterward (R130). -/
def countCorrected (h : ReplyHeader) (s : State) : State :=
  if headerCorrected h then setCounters (fun c => { c with correctedHeader := countUp c.correctedHeader }) s else s

/-- A reply whose end comes before its header was told to be in has the correction counted there (R130;
notes/assumptions/44.md). -/
def countHeader (x : Exchange) (h : ReplyHeader) (s : State) : State := if x.headerIn then s else countCorrected h s

/-- A reply being read whose header comes in now: its three bytes after the polled one take 2 µs at 12 Mbit/s (R129, R130;
notes/assumptions/44.md, DEDUCED). -/
def State.headerDue (s : State) : Option (Exchange × ReplyHeader) :=
  s.reading?.filter fun r => !r.1.headerIn && decide (2 ≤ elapsed s.partTime r.1.pollBase)

/-- The header of the reply being read is in (R130). -/
def headerComesIn (x : Exchange) (h : ReplyHeader) (s : State) : State :=
  countCorrected h (setLink { s.link with exchange := some { x with headerIn := true } } s)

/-- The header that comes in now, if one does, is taken (R130). -/
def takeDueHeader (s : State) : State :=
  match s.headerDue with
  | some (x, h) => finish s (headerComesIn x h s)
  | none => s

/-- A reply is read out and discarded (R130 to R132). -/
def replyDiscarded (line : List Byte) (s : State) : State :=
  match s.reading? with
  | some (x, h) =>
    if (judgeReply x h line).isNone then
      nextTurn
        (endMissing x
          (setCounters (fun c => { c with discardedReply := countUp c.discardedReply }) (countHeader x h s)))
    else s
  | none => s

/-- A reply is read out and accepted, where the request was of this sort. -/
def replyAccepted (sort : Request → Bool) (line : List Byte) (s : State) : State :=
  match s.reading? with
  | some (x, h) =>
    match judgeReply x h line with
    | some payload => if sort x.request then nextTurn (endAccepted x payload (countHeader x h s)) else s
    | none => s
  | none => s

/-- The requests by sort. -/
def Request.isSense : Request → Bool
  | .sense => true
  | _ => false
@[inherit_doc Request.isSense] def Request.isMove : Request → Bool
  | .move _ _ => true
  | _ => false
@[inherit_doc Request.isSense] def Request.isHome : Request → Bool
  | .home => true
  | _ => false

/-! ### Timers of the link -/

/-- The round timer expires: the round ends, an exchange in progress ends missing, and if the part has not entered
CONFIG by that a new round begins (R123, R125, R137). -/
def roundExpired (s : State) : State :=
  if s.partState ≠ .config ∧ s.link.period ≤ elapsed s.partTime s.link.roundStart then
    let t :=
      match s.link.exchange with
      | some x => endMissing x s
      | none => s
    if t.partState = .config then t else beginRound t
  else s

/-- The request's last byte went out (R129). -/
def requestSent (s : State) : State :=
  match s.link.exchange with
  | some x =>
    if x.state = .sending then
      setLink { s.link with lselN := true, exchange := some { x with state := .waiting, pollBase := s.partTime } } s
    else s
  | none => s

/-- A poll that reads header byte 0 of what LMISO gives (R129). -/
def pollReads (x : Exchange) (h : ReplyHeader) (s : State) : State :=
  let polled := { x with pollBase := s.partTime }
  if h.b0 = 0xFF#8 then setLink { s.link with lselN := true, exchange := some polled } s
  else setLink { s.link with lselN := false, exchange := some { polled with state := .reading h } } s

/-- The poll timer expires, 8 µs after the request or the last empty poll (R129). -/
def pollExpired (h : ReplyHeader) (s : State) : State :=
  match s.link.exchange with
  | some x =>
    if x.state = .waiting ∧ 8 ≤ elapsed s.partTime x.pollBase then pollReads x h s else s
  | none => s

/-- START's part of the link: counts and mark, then the first round (R123, R136). -/
def startLink (s : State) : State := beginRound (clearLinkFailures s)

end Sys2Proof.Machine
end

