-- ==== Sys2Proof/Machine/LensCommands.lean ====
section
/-! DEFINITION. The commands of the lens link and the motors. -/

namespace Sys2Proof.Machine

/-- ROUND_START (R123, R125). -/
def execRoundStart (s : State) : Host.Outcome State Fault Refusal := event roundExpired s

/-- LENS_REQUEST_SENT (R129). -/
def execLensRequestSent (s : State) : Host.Outcome State Fault Refusal := event requestSent s

/-- LENS_POLL (R129). -/
def execLensPoll (header : ReplyHeader) (s : State) : Host.Outcome State Fault Refusal := event (pollExpired header) s

/-- REPLY_DISCARDED (R130 to R132). -/
def execReplyDiscarded (line : List Byte) (s : State) : Host.Outcome State Fault Refusal := event (replyDiscarded line) s

/-- SENSED (R118, R133). -/
def execSensed (line : List Byte) (s : State) : Host.Outcome State Fault Refusal :=
  event (replyAccepted Request.isSense line) s

/-- MOVED (R108, R115, R133). -/
def execMoved (line : List Byte) (s : State) : Host.Outcome State Fault Refusal :=
  event (replyAccepted Request.isMove line) s

/-- HOMED (R115, R133). -/
def execHomed (line : List Byte) (s : State) : Host.Outcome State Fault Refusal :=
  event (replyAccepted Request.isHome line) s

/-- SETTLE_TIMEOUT (R110). -/
def execSettleTimeout (motor : MotorId) (s : State) : Host.Outcome State Fault Refusal := event (settleExpired motor) s

end Sys2Proof.Machine
end

