-- ==== Sys2Proof/Machine/ExposureUnit.lean ====
section
/-! DEFINITION. The Exposure unit: the stages from zone sums to the plan, and its orders (chapter 4). -/

namespace Sys2Proof.Machine

/-- Change the Exposure unit. -/
def setExposure (u : Exposure) (s : State) : State := { s with exposure := u }

/-! ### Stages 1 to 3 -/

/-- A weighted sum over the 64 zones, saturating at 2^48 − 1 (R67). -/
def weightedSum (weights values : List Nat) : Nat := min max48 ((weights.zip values).map fun p => p.1 * p.2).sum

/-- The mean level L; `none` when the evaluation is NO_DATA (R67). -/
def meanLevel (weights : List Nat) (b : Bank) : Option Nat :=
  let den := weightedSum weights b.counts
  if den = 0 then none else some (clampNat 1 4095 (weightedSum weights b.sums / den))

/-- The exposure error before the guard (R68). -/
def exposureError (m : Metering) (level : Nat) : Int := lg m.tgt + m.c - lg level

/-- Whether the highlight guard acts (R69). -/
def highlightGuard (b : Bank) : Bool := decide (b.countSum < 64 * b.clip)

/-- E after the guard (R69). -/
def guardedError (guarded : Bool) (e : Int) : Int := if guarded then min e (-8) else e

/-- The size of the move for an error outside the dead band (R70). -/
def moveSize (e : Nat) : Nat := if e ≤ 32 then e else min 128 (32 + (e - 32) / 2)

/-- The move (R70). -/
def moveOf (db : Nat) (e : Int) : Int :=
  if e.natAbs ≤ db then 0 else if e < 0 then -(moveSize e.natAbs : Int) else moveSize e.natAbs

/-! ### Stages 4 to 8 -/

/-- The wanted shutter-and-gain code N (R71, R72). -/
def wantedCode (f : FrameRecord) (move : Int) (aNow : Nat) : Int := (lg f.tHdr : Int) + f.gHdr - f.aF + move + aNow

/-- S_max_eff (R73). -/
def maxShutter (m : Metering) (sLim : Nat) (active : Bool) : Nat :=
  max m.sMin (min m.sMaxCfg (sLim + if active then m.boost else 0))

/-- Shutter code, gain code, UNDER live and OVER live (R74). -/
structure Split where
  s     : Nat
  g     : Nat
  under : Bool
  over' : Bool
  deriving DecidableEq, Repr

/-- The split of N (R74). -/
def splitCode (m : Metering) (sMaxEff : Nat) (n : Int) : Split :=
  if n < m.sMin then { s := m.sMin, g := 0, under := false, over' := true }
  else if n ≤ sMaxEff then { s := n.toNat, g := 0, under := false, over' := false }
  else if n - sMaxEff ≤ m.gMax then { s := sMaxEff, g := (n - sMaxEff).toNat, under := false, over' := false }
  else { s := sMaxEff, g := m.gMax, under := true, over' := false }

/-- The plan a split publishes (R75). -/
def Split.plan (x : Split) (origin : Nat) : Plan := { t := ex x.s, gain := x.g, code := some x.s, origin := origin }

/-- Publication: the plan, the live conditions and their latches (R74, R75). -/
def publishPlan (x : Split) (origin : Nat) (s : State) : State :=
  latchIf x.under .underBit <| latchIf x.over' .overBit <|
    setExposure { s.exposure with plan := x.plan origin, underLive := x.under, overLive := x.over' } s

/-! ### Evaluation-done -/

/-- Why this evaluation holds the plan; NO_DATA is judged before (R71, R76, R77). -/
def holdReason (b : Bank) (f : FrameRecord) (lock : Bool) : HoldReason :=
  if b.stale then .stale else if lock then .lock else if f.badExposure then .badExposure else .none

/-- The outcome of a NO_DATA evaluation (R67, R78; notes/assumptions/37.md). -/
def noDataOutcome : ExposureOutcome :=
  { level := 0, e := 0, move := 0, highlight := false, inBand := true, reason := .noData, n := none, sMaxEff := none,
    aNow := none, sLim := none }

/-- CONVERGED after the third stage; a stale evaluation leaves it (R70, R77). -/
def setConverged (stale inBand : Bool) (s : State) : State :=
  if stale then s else setExposure { s.exposure with converged := inBand } s

/-- The Exposure unit's part of an evaluation-done (R66 to R78). -/
def exposureEvaluate (b : Bank) (f : FrameRecord) (s : State) : State × ExposureOutcome :=
  let m := s.exposure.settings
  match meanLevel s.exposure.weights b with
  | none => (latch .noData s, noDataOutcome)
  | some level =>
    let e := guardedError (highlightGuard b) (exposureError m level)
    let move := moveOf m.db e
    let inBand := decide (e.natAbs ≤ m.db)
    let reason := holdReason b f s.exposure.lock
    let t := setConverged b.stale inBand s
    let held : ExposureOutcome :=
      { level := level, e := e, move := move, highlight := highlightGuard b, inBand := inBand, reason := reason,
        n := none, sMaxEff := none, aNow := none, sLim := none }
    if reason ≠ .none then (t, held)
    else
      let aNow := s.interp Knot.a s.lens.zoom.position
      let sLim := s.interp Knot.sLim s.lens.zoom.position
      let n := wantedCode f move aNow
      let top := maxShutter m sLim (s.steady.state == .active)
      (publishPlan (splitCode m top n) f.number t,
        { held with n := some n, sMaxEff := some top, aNow := some aNow, sLim := some sLim })

/-! ### Orders -/

/-- The metering settings as clamped: S_min before S_max_cfg (R63). -/
def clampMetering (v : Metering) : Metering :=
  let sMin := clampNat 0 669 v.sMin
  { tgt := clampNat 1 4095 v.tgt, c := clampInt (-96) 96 v.c, db := clampNat 0 16 v.db, sMin := sMin,
    sMaxCfg := clampNat sMin 669 v.sMaxCfg, gMax := clampNat 0 255 v.gMax, boost := clampNat 0 96 v.boost,
    blk := clampNat 0 1023 v.blk, white := clampNat 1 4096 v.white }

/-- METER_MODE (R63). -/
def applyMeterMode (p : Posted) (s : State) : State × Answer :=
  let v := p.metering
  let v' := clampMetering v
  (setExposure { s.exposure with settings := v' } s, plainAnswer (clampedOr (v' != v)))

/-- LOAD_WEIGHTS (R64). -/
def applyLoadWeights (p : Posted) (s : State) : State × Answer :=
  (setExposure { s.exposure with weights := p.weights } s, plainAnswer .ok)

/-- EXPOSURE_LOCK (R65). -/
def applyExposureLock (p : Posted) (s : State) : State × Answer :=
  (setExposure { s.exposure with lock := p.choice 0 } s, plainAnswer .ok)

end Sys2Proof.Machine
end

