-- ==== Sys2Proof/Machine/Replies.lean ====
section
/-! DEFINITION. Replies: how one is made into the reply image, and the end of the SHOOT entry of the hold list (R184,
R188). -/

namespace Sys2Proof.Machine

/-- Change the Order unit. -/
def setOrders (o : Orders) (s : State) : State := { s with orders := o }

/-- The 16 bytes of a reply (R184, R202): marks are HOLD_IGNORED in bit 0 and APPLIED in bit 1. -/
def replyBytes (p : Posted) (a : Answer) (holdIgnored applied : Bool) : List Byte :=
  fit 16 ([p.sequence, p.code] ++ le a.result.value 1 ++ le (flagBits [holdIgnored, applied]) 1 ++ a.values)

/-- A reply is made: it enters the reply image at its order slot's entry, which is marked dirty (R184). -/
def makeReply (p : Posted) (a : Answer) (holdIgnored applied : Bool) (s : State) : State :=
  setOrders
    { s.orders with
      image := s.orders.image.set p.slot (replyBytes p a holdIgnored applied)
      dirty := s.orders.dirty.set p.slot true } s

/-- The SHOOT in flight ends: its entry leaves the hold list with this reply (R188). SHOOT is not holdable, so
FRAME_ALIGNED gives HOLD_IGNORED (notes/assumptions/34.md). -/
def endShoot (a : Answer) (s : State) : State :=
  let t : State := { s with store := { s.store with inflight := none } }
  match t.orders.hold.find? Held.shoot with
  | none => t
  | some h =>
    makeReply h.order a h.order.aligned false
      (setOrders { t.orders with hold := t.orders.hold.filter fun x => !x.shoot } t)

end Sys2Proof.Machine
end

