-- ==== Sys2Proof/Machine/WindowTable.lean ====
section
/-! DEFINITION. The window table: extents, the checks of R5, and the window an address lies in (R4 to R6). -/

namespace Sys2Proof.Machine

/-- The address range of a window. -/
structure Extent where
  base : Nat
  size : Nat
  deriving DecidableEq, Repr

/-- Whether an address lies in a range. -/
def Extent.has (e : Extent) (a : Nat) : Bool := decide (e.base ≤ a ∧ a < e.base + e.size)

/-- Whether some address lies in both ranges (R5); every window has at least one byte. -/
def Extent.meets (a b : Extent) : Bool := decide (a.base < b.base + b.size ∧ b.base < a.base + a.size)

/-- Whether the last byte is at or below 0xFFFF_FFFF (R5). -/
def Extent.inside (e : Extent) : Bool := decide (e.base + e.size ≤ 2 ^ 32)

/-- The ranges of the entries (01, section 1.2). -/
def RawWindow.extent (w : RawWindow) : Extent := { base := w.base, size := w.size }
@[inherit_doc RawWindow.extent] def ViewWindow.extent (w : ViewWindow) : Extent := { base := w.base, size := w.size }
@[inherit_doc RawWindow.extent] def PoolWindow.extent (w : PoolWindow) : Extent := { base := w.base, size := w.size }
@[inherit_doc RawWindow.extent]
def PictureWindow.extent (w : PictureWindow) : Extent := { base := w.base, size := w.size }

/-- The control area (01, section 1.2). -/
def Windows.controlExtent (w : Windows) : Extent := { base := w.control, size := 0x4000 }

/-- The checks of R5 but for alignment: the named windows end in range, do not overlap one another, the control area or
the other order's windows. -/
def extentsFit (w : Windows) (named others : List Extent) : Bool :=
  named.all Extent.inside && decide (named.Pairwise fun a b => a.meets b = false) &&
    named.all fun a => (w.controlExtent :: others).all fun b => !a.meets b

/-- The window a transaction is handled by (R6). -/
inductive Hit where
  | none
  | control
  | raw (w : RawWindow)
  | view (w : ViewWindow)
  | pool (w : PoolWindow)
  | picture (w : PictureWindow)
  deriving DecidableEq, Repr

/-- An entry, if it is set up and holds the address. -/
def within {α : Type} (extent : α → Extent) (a : Nat) (w : Option α) : Option α := w.filter fun x => (extent x).has a

/-- The active window that contains an address (R4, R6); active windows do not overlap. -/
def State.decodeAddress (s : State) (a : Nat) : Hit :=
  let w := s.windows
  let run {α : Type} (x : Option α) : Option α := if s.partState = .running then x else Option.none
  if w.controlExtent.has a then .control
  else
    match within RawWindow.extent a (run w.raw), within ViewWindow.extent a (run w.view),
      within PoolWindow.extent a w.pool, within PictureWindow.extent a w.picture with
    | some r, _, _, _ => .raw r
    | _, some v, _, _ => .view v
    | _, _, some p, _ => .pool p
    | _, _, _, some p => .picture p
    | _, _, _, _ => .none

end Sys2Proof.Machine
end

