-- ==== Sys2Proof/Machine/StoreUnit.lean ====
section
/-! DEFINITION. The Store: choosing frames, shots, picture slots, closing, draining and its orders (chapter 9). -/

namespace Sys2Proof.Machine

/-- Change the Store. -/
def setStore (st : Store) (s : State) : State := { s with store := st }

/-- STORE_LOW is latched by an event, from `s` to `t`, that makes it begin to hold (R166; notes/assumptions/35.md). -/
def latchStoreLow (s t : State) : State := latchIf (t.storeLow && !s.storeLow) .storeLow t

/-! ### Choice -/

/-- Whether a frame qualifies by its record (R158). -/
def FrameRecord.qualifies (f : FrameRecord) (number : Nat) (needFocus : Bool) : Bool :=
  f.pinnable number && (!needFocus || f.atCompletion.any fun x => x.1 == .locked)

/-- Whether an id is held by a shot entry or by a slot that is not FREE (R155). -/
def Store.idHeld (st : Store) (id : Nat) : Bool :=
  st.shots.any (fun e => e.any fun sh => sh.id == id) ||
    st.slots.any fun x => x.state != .free && x.shotId == some id

/-- The id of a new shot (R155). -/
def Store.nextId (st : Store) : Nat :=
  (((List.range 255).map fun i => (st.lastId + i) % 255 + 1).find? fun id => !st.idHeld id).getD 0

/-- The frame snapshot of a shot (R155). -/
def FrameRecord.snapshot (f : FrameRecord) : Snapshot :=
  let x := f.atCompletion.getD (.idle, 0)
  { number := f.number, tHdr := f.tHdr, gHdr := f.gHdr, aF := f.aF, zoomPos := f.zoomPos, focusPos := f.focusPos,
    focusAt := x.1, dAt := x.2, m := f.m, ox := f.ox, oy := f.oy, short := f.short,
    motionPartial := f.motionPartial, badExposure := f.badExposure }

/-- The reply to a SHOOT that chose a frame (R163, R202). -/
def chosenAnswer (x : Inflight) (sh : Shot) : Answer :=
  { result := clampedOr x.clamped
    values := le sh.id 1 ++ le sh.buffer 1 ++ le sh.slot 1 ++ le sh.snapshot.m 1 ++ le sh.snapshot.number 4 ++
      zeros 4 }

/-- Steps 2 and 3 of R163: the slot is reserved and the shot entry filled. -/
def reserve (entry slot : Nat) (sh : Shot) (s : State) : State :=
  let t := setShot entry (some sh) (setSlot slot { Slot.freed with state := .reserved, shotId := some sh.id } s)
  setStore { t.store with lastId := sh.id } t

/-- Choice (R163). A choice that finds no pin, slot or entry, which no run does, ends the SHOOT with NO_FRAME
(notes/assumptions/31.md). -/
def choose (x : Inflight) (number buffer : Nat) (s : State) : State :=
  let f := s.record buffer
  match pin buffer number s, s.store.slots.findIdx? (fun y => y.state == .free),
    s.store.shots.findIdx? Option.isNone with
  | some t, some slot, some entry =>
    let sh : Shot :=
      { id := s.store.nextId, buffer := buffer, slot := slot, snapshot := f.snapshot,
        ppd16 := s.interp Knot.ppd16 f.zoomPos }
    latch .shotDone (latchStoreLow s (endShoot (chosenAnswer x sh) (reserve entry slot sh t)))
  | _, _, _ => endShoot (plainAnswer .noFrame) s

/-- A frame is tested for the SHOOT in flight: chosen when quiet, a candidate when it qualifies (R158 to R160). -/
def testFrame (s : State) (number buffer : Nat) : State :=
  match s.store.inflight with
  | none => s
  | some x =>
    let f := s.record buffer
    if f.qualifies number x.needFocus then
      if f.m ≤ x.q then choose x number buffer s
      else
        setStore
          { s.store with
            inflight := some
              { x with candidates := x.candidates ++ [{ number := number, buffer := buffer, m := f.m }] } } s
    else s

/-- The candidate with the least M, the newest among equals (R162). -/
def bestCandidate : List Candidate → Option Candidate
  | [] => none
  | c :: cs => some (cs.foldl (fun b x => if x.m ≤ b.m then x else b) c)

/-- The end of the look-ahead with no frame chosen (R162). -/
def decideShoot (x : Inflight) (s : State) : State :=
  match bestCandidate x.candidates with
  | some c =>
    if (s.record c.buffer).qualifies c.number x.needFocus then choose x c.number c.buffer s
    else endShoot (plainAnswer .noFrame) s
  | none => endShoot (plainAnswer .noFrame) s

/-- The Store decides when the SHOOT is still in flight and its look-ahead is over (R159, R160). -/
def decideIfOver (s : State) : State :=
  match s.store.inflight with
  | some x => if x.f ≤ x.ahead then decideShoot x s else s
  | none => s

/-- The look-back over the B newest completions, oldest first (R159). -/
def lookBack (b : Nat) (s : State) : State :=
  decideIfOver ((s.store.recent.take b).reverse.foldl (fun t r => testFrame t r.number r.buffer) s)

/-- A look-ahead completion (R160). -/
def lookAhead (number buffer : Nat) (s : State) : State :=
  match s.store.inflight with
  | none => s
  | some x =>
    decideIfOver
      (testFrame (setStore { s.store with inflight := some { x with ahead := x.ahead + 1 } } s) number buffer)

/-- The Frames block reports a completion (R35, R156, R160). -/
def reportCompletion (number buffer : Nat) (s : State) : State :=
  lookAhead number buffer
    (setStore { s.store with recent := ({ number := number, buffer := buffer } :: s.store.recent).take 7 } s)

/-- The Frames block reports a replaced frame (R39, R161). -/
def reportReplaced (number buffer : Nat) (s : State) : State :=
  match s.store.inflight with
  | none => s
  | some x =>
    setStore
      { s.store with
        inflight := some
          { x with candidates := x.candidates.filter fun c => !(c.number == number && c.buffer == buffer) } } s

/-! ### SHOOT, and the end of a shot -/

/-- The in-flight record of a SHOOT (R157). -/
def Posted.inflight (p : Posted) : Inflight :=
  let b := p.field 0 1
  let f := p.field 1 1
  { b := clampNat 0 7 b, f := clampNat 0 15 f, q := p.field 2 1, needFocus := p.choice 3, ahead := 0,
    candidates := [], clamped := decide (7 < b ∨ 15 < f) }

/-- SHOOT's checks at its take (R157, R188). -/
def shootRefusal (s : State) : Option Result :=
  if 8 ≤ s.orders.hold.length then some .noRoom
  else if s.store.inflight.isSome then some .busy
  else if (s.frames.geometry.map Geometry.s).getD 0 ≤ s.store.liveShots then some .noRoom
  else if s.store.freeSlots = 0 then some .storeFull
  else none

/-- A SHOOT past its checks goes into flight on the hold list and looks back (R157, R159, R188). -/
def shoot (p : Posted) (s : State) : State :=
  let x := p.inflight
  lookBack x.b
    (setStore { s.store with inflight := some x }
      (setOrders { s.orders with hold := s.orders.hold ++ [{ order := p, shoot := true }] } s))

/-- A shot ends: its buffer is released and its entry becomes empty (R155, R167, R174, R176). -/
def endShot (entry : Nat) (sh : Shot) (s : State) : State := setShot entry none (release sh.buffer s)

/-- The entry of the shot table that holds an id. -/
def Store.shotById (st : Store) (id : Nat) : Option (Nat × Shot) :=
  (List.range st.shots.length).findSome? fun e =>
    match st.shots[e]? with
    | some (some sh) => if sh.id = id then some (e, sh) else none
    | _ => none

/-- RELEASE_SHOT (R174). -/
def applyReleaseShot (p : Posted) (s : State) : State × Answer :=
  match s.store.shotById (p.field 0 1) with
  | some (e, sh) => (setSlot sh.slot Slot.freed (endShot e sh s), plainAnswer .ok)
  | none => (s, plainAnswer .badShot)

/-- A shot ended by STOP, with its slot (R176). -/
def cancelShot (s : State) (entry : Nat) : State :=
  match s.store.shots[entry]? with
  | some (some sh) => setSlot sh.slot Slot.freed (endShot entry sh s)
  | _ => s

/-- STOP ends the SHOOT in flight with CANCELLED and every live shot (R176). -/
def stopStore (s : State) : State :=
  let t := if s.store.inflight.isSome then endShoot (plainAnswer .cancelled) s else s
  (List.range 4).foldl cancelShot t

/-! ### Slots -/

/-- The PICTURE entry of SETUP_STORE as carried (R164, R202). -/
def Posted.picture (p : Posted) : PictureWindow :=
  let size := p.field 4 4
  let n := p.field 8 1
  { base := p.field 0 4, size := n * size, slots := n, slotSize := size }

/-- Whether a slot size is a power of two from 64 KiB to 16 MiB (R164). -/
def slotSizeOk (size : Nat) : Bool := ((List.range 9).map fun i => 2 ^ (16 + i)).contains size

/-- The windows SETUP_FRAMES has set up (R5). -/
def Windows.frameExtents (w : Windows) : List Extent :=
  (w.raw.map RawWindow.extent).toList ++ (w.view.map ViewWindow.extent).toList ++
    (w.pool.map PoolWindow.extent).toList

/-- Whether the geometry of SETUP_STORE can hold (R5, R164). -/
def pictureOk (w : Windows) (v : PictureWindow) : Bool :=
  slotSizeOk v.slotSize && decide (4 ≤ v.slots ∧ v.slots ≤ 64) && v.base % v.slotSize == 0 &&
    extentsFit w [v.extent] w.frameExtents

/-- An accepted SETUP_STORE (R164). -/
def setupStore (v : PictureWindow) (low : Nat) (s : State) : State :=
  latchStoreLow s
    { s with
      windows := { s.windows with picture := some v }
      store :=
        { s.store with
          slots := List.replicate v.slots Slot.freed, lowWater := clampNat 0 v.slots low
          slotDirty := List.replicate 64 true } }

/-- SETUP_STORE (R164). -/
def applySetupStore (p : Posted) (s : State) : State × Answer :=
  let v := p.picture
  let low := p.field 9 1
  if s.store.slots.any fun x => x.state != .free then (s, plainAnswer .storeBusy)
  else if pictureOk s.windows v then (setupStore v low s, plainAnswer (clampedOr (decide (v.slots < low))))
  else (s, plainAnswer .badRange)

/-- The verdict on a host write that ends at this offset of a slot, `true` for forward (R165). -/
def slotWrite (j endOffset : Nat) (s : State) : State × Bool :=
  let drop := (setCounters (fun c => { c with protectedWrite := countUp c.protectedWrite }) (latch .protect s), false)
  match s.slot? j with
  | none => drop
  | some x =>
    match x.state with
    | .reserved => (setSlot j { x with state := .filling, high := max x.high endOffset } s, true)
    | .filling => (if x.high < endOffset then setSlot j { x with high := endOffset } s else s, true)
    | _ => drop

/-- A slot that belongs to a live shot (R155). -/
def Slot.live (x : Slot) : Bool := x.state == .reserved || x.state == .filling

/-- CLOSE_SLOT past its checks (R167). -/
def closeSlot (j : Nat) (x : Slot) (length entry : Nat) (sh : Shot) (s : State) : State :=
  let t := setSlot j { x with length := length, checkValid := false, state := .closing } (endShot entry sh s)
  setStore
    { t.store with
      closeQueue := t.store.closeQueue ++
        [{ slot := j, id := sh.id, length := length, snapshot := sh.snapshot, ppd16 := sh.ppd16, piece := 0,
           crc := crc32Init, trailer := none, written := 0 }] } t

/-- The size of a slot. -/
def State.slotSize (s : State) : Nat := (s.windows.picture.map PictureWindow.slotSize).getD 0

/-- CLOSE_SLOT (R167). -/
def applyCloseSlot (p : Posted) (s : State) : State × Answer :=
  let j := p.field 0 1
  let id := p.field 1 1
  let length := p.field 4 4
  match s.slot? j with
  | none => (s, plainAnswer .badSlot)
  | some x =>
    if x.live = false then (s, plainAnswer .badSlot)
    else
      match s.store.shotById id with
      | none => (s, plainAnswer .badShot)
      | some (entry, sh) =>
        if x.shotId ≠ some id then (s, plainAnswer .badShot)
        else if length < 1 ∨ s.slotSize - 64 < length then (s, plainAnswer .tooLong)
        else (closeSlot j x length entry sh s, plainAnswer .taken)

/-- FREE_SLOT (R173). -/
def applyFreeSlot (p : Posted) (s : State) : State × Answer :=
  let j := p.field 0 1
  let freed := (setSlot j Slot.freed s, plainAnswer .ok)
  match s.slot? j with
  | none => (s, plainAnswer .badSlot)
  | some x =>
    match x.state with
    | .drained => freed
    | .closed | .draining => if p.choice 1 then freed else (s, plainAnswer .notDrained)
    | .closing => (s, plainAnswer .busy)
    | .reserved | .filling => (s, plainAnswer .badSlot)
    | .free => (s, plainAnswer .ok)

/-! ### Close work -/

/-- Replace the close queue. -/
def setCloseQueue (q : List CloseWork) (s : State) : State := setStore { s.store with closeQueue := q } s

/-- The Store has no own transaction requested. -/
def clearStoreRequest (s : State) : State := setStore { s.store with request := none } s

/-- The trailer is built and the check value fixed (R169). -/
def CloseWork.withTrailer (w : CloseWork) : CloseWork :=
  let head := trailerHead w
  let r := crc32Feed w.crc head
  { w with crc := r, trailer := some (head ++ le (crc32Final r).toNat 4) }

/-- A read-back piece is fed in; after the last the trailer is built (R168, R169). -/
def CloseWork.withPiece (w : CloseWork) (data : List Byte) : CloseWork :=
  let w' := { w with crc := crc32Feed w.crc data, piece := w.piece + 1 }
  if w.length ≤ 256 * w'.piece then w'.withTrailer else w'

/-- The close of a slot ends: CLOSED, and it leaves the close queue (R169, R170). -/
def endClose (j : Nat) (rest : List CloseWork) (f : Slot → Slot) (s : State) : State :=
  let t := setCloseQueue rest s
  match t.slot? j with
  | some x => setSlot j { f x with state := .closed } t
  | none => t

/-- A read-back piece has completed OK (R168). -/
def pieceDone (data : List Byte) (s : State) : State :=
  match s.store.closeQueue with
  | w :: rest => setCloseQueue (w.withPiece data :: rest) (clearStoreRequest s)
  | [] => clearStoreRequest s

/-- A trailer write has completed OK (R169). -/
def trailerDone (n : Nat) (s : State) : State :=
  match s.store.closeQueue with
  | w :: rest =>
    let w' := { w with written := w.written + n }
    if w'.written < 64 then setCloseQueue (w' :: rest) (clearStoreRequest s)
    else
      endClose w.slot rest (fun x => { x with check := crc32Final w.crc, checkValid := true }) (clearStoreRequest s)
  | [] => clearStoreRequest s

/-- A transaction of the close work failed (R170). -/
def closeFailed (s : State) : State :=
  match s.store.closeQueue with
  | w :: rest =>
    latch .closeFailed (endClose w.slot rest (fun x => { x with checkValid := false }) (clearStoreRequest s))
  | [] => clearStoreRequest s

/-- The Store is told that its own transaction failed (R170, R175). -/
def storeFailed (s : State) : State :=
  match s.store.request with
  | none => s
  | some (.shotMirror e) => clearStoreRequest (setStore { s.store with shotDirty := s.store.shotDirty.set e true } s)
  | some (.slotMirror j) => clearStoreRequest (setStore { s.store with slotDirty := s.store.slotDirty.set j true } s)
  | some .piece => closeFailed s
  | some (.trailer _) => closeFailed s

/-! ### Drains -/

/-- How a reported read starts or continues a drain; `none` when it does neither (R171). -/
def Slot.drainRead (x : Slot) (o : Nat) : Option Slot :=
  if o = 0 ∧ (x.state = .closed ∨ x.state = .drained ∨ x.state = .draining) then
    some { x with state := .draining, drainVerified := true, drainCrc := crc32Init }
  else if x.state = .draining then some { x with drainVerified := x.drainVerified && x.cursor == o }
  else none

/-- What the read carried, or its failure (R171). -/
def Slot.drainData (x : Slot) (o n : Nat) : Option (List Byte) → Slot
  | none => { x with drainVerified := false }
  | some bytes =>
    { x with
      cursor := o + n
      drainCrc := if x.drainVerified then crc32Feed x.drainCrc (bytes.take (x.length + 60 - o)) else x.drainCrc }

/-- The end of a drain (R172): the slot, and the bit latched. -/
def Slot.drainEnd (x : Slot) : Slot × Option LatchedBit :=
  if x.drainVerified ∧ x.checkValid then
    if crc32Final x.drainCrc = x.check then ({ x with state := .drained }, none)
    else ({ x with state := .closed }, some .checkMismatch)
  else ({ x with state := .closed }, some .drainUnverified)

/-- What a reported read makes of a slot: the record, the bit latched, and whether the state, the cursor or the flag
changed on the way (R171, R172). -/
structure DrainStep where
  slot   : Slot
  bit    : Option LatchedBit
  marked : Bool
  deriving DecidableEq, Repr

/-- Whether two slot records differ in what the mirror shows; the drain CRC is not in it (R171). -/
def Slot.differs (x y : Slot) : Bool := decide ({ y with drainCrc := x.drainCrc } ≠ x)

/-- A slot after a reported read (R171, R172). Each change marks the record dirty, also one that a later change of the
same read takes back; the end of a drain always changes the state. -/
def Slot.reported (x : Slot) (o n : Nat) (data : Option (List Byte)) : DrainStep :=
  match x.drainRead o with
  | none => { slot := x, bit := none, marked := false }
  | some y =>
    let z := y.drainData o n data
    if o ≤ x.length + 63 ∧ x.length + 63 < o + n then
      { slot := z.drainEnd.1, bit := z.drainEnd.2, marked := true }
    else { slot := z, bit := none, marked := x.differs y || y.differs z }

/-- A slot record after a reported read, marked dirty or not (R171). -/
def setDrained (j : Nat) (y : Slot) (marked : Bool) (s : State) : State :=
  if marked then setSlot j y s else setStore { s.store with slots := s.store.slots.set j y } s

/-- Latch a bit, if there is one. -/
def latchSome : Option LatchedBit → State → State
  | some b, s => latch b s
  | none, s => s

/-- A PICTURE read is reported to the Store (R14, R171, R172). -/
def reportRead (j o n : Nat) (data : Option (List Byte)) (s : State) : State :=
  match s.slot? j with
  | none => s
  | some x =>
    let r := x.reported o n data
    latchSome r.bit (setDrained j r.slot r.marked s)

end Sys2Proof.Machine
end

