-- ==== Sys2Proof/Machine/Orders.lean ====
section
/-! DEFINITION. The Order unit: posting, taking, the hold list, and the orders that reach more than one block
(chapter 10, R20, R192, R193, R196, R197). -/

namespace Sys2Proof.Machine

/-! ### The order ring and its shadow -/

/-- The 64 shadow bytes of an order slot. -/
def Orders.slotBytes (o : Orders) (i : Nat) : List Byte := (o.shadow.drop (64 * i)).take 64

/-- Whether a write at a ring offset includes and enables the whole post word of a slot (R179). -/
def coversPostWord (off len : Nat) (mask : List Bool) (i : Nat) : Bool :=
  (List.range 4).all fun j =>
    let p := 64 * i + 60 + j
    decide (off ≤ p ∧ p < off + len) && mask.getD (p - off) false

/-- An order slot is posted: queued, or refused with NO_ROOM (R180). -/
def postSlot (s : State) (i : Nat) : State :=
  let p : Posted := { slot := i, bytes := s.orders.slotBytes i }
  if s.orders.queue.length < 16 then setOrders { s.orders with queue := s.orders.queue ++ [p] } s
  else
    setCounters (fun c => { c with queueFull := countUp c.queueFull })
      (latch .queueFull (makeReply p (plainAnswer .noRoom) false false s))

/-- The slots a write posts, in rising order, by the shadow as it stands after the write (R179). -/
def postedSlots (shadow : List Byte) (off len : Nat) (mask : List Bool) : List Nat :=
  (List.range 16).filter fun i => coversPostWord off len mask i && byteAt shadow (64 * i + 60) != 0

/-- A host write in the order ring is shown to the Order unit (R7, R178, R179). -/
def showOrderWrite (off : Nat) (t : HostTransaction) (s : State) : State :=
  let shadow := writeBytes s.orders.shadow off t.data t.mask
  (postedSlots shadow off t.len t.mask).foldl postSlot (setOrders { s.orders with shadow := shadow } s)

/-! ### Taking an order -/

/-- A refusal at steps 1 or 2 of R181, or from a full hold list (R186). -/
def refuse (p : Posted) (r : Result) (s : State) : State := makeReply p (plainAnswer r) false false s

/-- The order at the head of the queue is taken, if it is one this row takes (R181; notes/assumptions/9.md). -/
def takeHead (mine : Option Order → Bool) (f : Posted → State → State) (s : State) : State :=
  match s.orders.queue with
  | p :: rest =>
    if mine (Order.ofCode p.code.toNat) then f p (setOrders { s.orders with queue := rest } s) else s
  | [] => s

/-- Step 2 of R181. -/
def whenAllowed (o : Order) (f : Posted → State → State) (p : Posted) (s : State) : State :=
  if o.allowed s.partState s.frames.geometry.isSome then f p s else refuse p .wrongState s

/-- The take of this order (R181). -/
def takeOrder (o : Order) (f : Posted → State → State) (s : State) : State :=
  takeHead (· == some o) (whenAllowed o f) s

/-- An order carried out with its reply at once; FRAME_ALIGNED on it is ignored with HOLD_IGNORED (R181, R184). -/
def answered (apply : Posted → State → State × Answer) (p : Posted) (s : State) : State :=
  makeReply p (apply p s).2 p.aligned false (apply p s).1

/-- A holdable order: held when FRAME_ALIGNED, else carried out at once (R181, R186). -/
def holdOr (apply : Posted → State → State × Answer) (p : Posted) (s : State) : State :=
  if p.aligned then
    if s.orders.hold.length < 8 then
      setOrders { s.orders with hold := s.orders.hold ++ [{ order := p, shoot := false }] } s
    else refuse p .noRoom s
  else makeReply p (apply p s).2 false false (apply p s).1

/-! ### The hold list at a frame start -/

/-- How a held order is applied; only holdable orders are held (R182, R187). -/
def applyHoldable : Order → Posted → State → State × Answer
  | .loadWeights => applyLoadWeights
  | .meterMode => applyMeterMode
  | .exposureLock => applyExposureLock
  | .focusArea => applyFocusArea
  | .steadyMode => applySteadyMode
  | .focusSet => applyFocusSet
  | .zoomTo => applyZoomTo
  | _ => fun _ s => (s, plainAnswer .unknown)

/-- One aligned entry is applied, with APPLIED and the frame's number in its reply (R184, R187). -/
def applyEntry (number : Nat) (s : State) (h : Held) : State :=
  match Order.ofCode h.order.code.toNat with
  | some o =>
    let (t, a) := applyHoldable o h.order s
    makeReply h.order { a with values := le number 4 ++ zeros 8 } false true t
  | none => s

/-- Every aligned entry is applied and leaves the list, oldest first (R187). -/
def applyHeld (number : Nat) (s : State) : State :=
  (s.orders.hold.filter fun h => !h.shoot).foldl (applyEntry number)
    (setOrders { s.orders with hold := s.orders.hold.filter Held.shoot } s)

/-! ### NOP, CLEAR_STATUS, ALERT_MASK, SHOOT -/

/-- NOP (R182, R202). -/
def applyNop (_ : Posted) (s : State) : State × Answer :=
  (s, { result := .ok, values := le s.partTime.toNat 4 ++ zeros 8 })

/-- The latched bits after a clear: selected bits go, condition bits that still hold come back (R196). -/
def clearedBits (latched mask conditions : BitVec 28) : BitVec 28 :=
  (latched &&& ~~~mask) ||| (latched &&& mask &&& conditions)

/-- CLEAR_STATUS (R196). -/
def applyClearStatus (p : Posted) (s : State) : State × Answer :=
  ({ s with
      status :=
        { s.status with
          latched := clearedBits s.status.latched p.mask28 (conditionWord s)
          counters := if p.choice 4 then Counters.zero else s.status.counters } },
    plainAnswer .ok)

/-- ALERT_MASK (R197). -/
def applyAlertMask (p : Posted) (s : State) : State × Answer :=
  ({ s with status := { s.status with mask := p.mask28 } }, plainAnswer .ok)

/-- SHOOT: refused, or in flight with its reply held back (R157, R188). -/
def takeShoot (p : Posted) (s : State) : State :=
  match shootRefusal s with
  | some r => makeReply p (plainAnswer r) p.aligned false s
  | none => shoot p s

/-! ### SETUP_FRAMES -/

/-- The geometry checks of SETUP_FRAMES (R20). -/
def Geometry.ok (g : Geometry) : Bool :=
  decide (64 ≤ g.w ∧ g.w ≤ 8192 ∧ g.w % 2 = 0) && decide (64 ≤ g.h ∧ g.h ≤ 6144 ∧ g.h % 2 = 0) &&
    decide (2 * g.w ≤ g.stride ∧ g.stride ≤ 32768 ∧ g.stride % 64 = 0) &&
    decide (g.mx ≤ 256 ∧ g.mx % 2 = 0 ∧ g.my ≤ 256 ∧ g.my % 2 = 0 ∧ 2 * g.mx < g.w ∧ 2 * g.my < g.h) &&
    decide (2 ≤ g.l ∧ g.l ≤ 6 ∧ g.s ≤ 4 ∧ g.l + g.s ≤ 8 ∧ g.gp ≤ 1)

/-- BUFSZ (R20). -/
def Geometry.bufsz (g : Geometry) : Nat := (g.stride * (g.h + 1) + 4095) / 4096 * 4096

/-- The RAW entry (01, section 1.2). -/
def Geometry.raw (g : Geometry) (base : Nat) : RawWindow := { base := base, size := g.l * g.bufsz, bufsz := g.bufsz }

/-- The VIEW entry, with VL and VSZ (01, section 1.2, R10). -/
def Geometry.view (g : Geometry) (base : Nat) : ViewWindow :=
  let vl := 2 * (g.w - 2 * g.mx)
  let vsz := vl * (g.h - 2 * g.my)
  { base := base, size := g.l * vsz, vl := vl, vsz := vsz, mx := g.mx, my := g.my, stride := g.stride,
    bufsz := g.bufsz }

/-- The POOL entry (01, section 1.2). -/
def Geometry.pool (g : Geometry) (base : Nat) : PoolWindow :=
  { base := base, size := (g.l + g.s) * g.bufsz, bufsz := g.bufsz }

/-- The window checks of SETUP_FRAMES (R5). -/
def framesFit (w : Windows) (r : RawWindow) (v : ViewWindow) (p : PoolWindow) : Bool :=
  decide (r.base % 4096 = 0 ∧ v.base % 4096 = 0 ∧ p.base % 4096 = 0) &&
    extentsFit w [r.extent, v.extent, p.extent] (w.picture.map PictureWindow.extent).toList

/-- An accepted SETUP_FRAMES (R20, R59, R156). -/
def setupFrames (g : Geometry) (r : RawWindow) (v : ViewWindow) (p : PoolWindow) (s : State) : State :=
  let t := dropWaitingBanks s
  { t with
    windows := { t.windows with raw := some r, view := some v, pool := some p }
    frames := g.freshFrames
    store := { t.store with recent := [] } }

/-- SETUP_FRAMES (R20). -/
def applySetupFrames (p : Posted) (s : State) : State × Answer :=
  let g := p.geometry
  let (rawBase, viewBase, poolBase) := p.bases
  if g.ok = false then (s, plainAnswer .badRange)
  else if framesFit s.windows (g.raw rawBase) (g.view viewBase) (g.pool poolBase) = false then
    (s, plainAnswer .badRange)
  else
    (setupFrames { g with lat := min 65535 g.lat } (g.raw rawBase) (g.view viewBase) (g.pool poolBase) s,
      plainAnswer (clampedOr (decide (65535 < g.lat))))

/-! ### START and STOP -/

/-- A bank that is EVALUATING is marked stale (R77). -/
def Bank.markStale (b : Bank) : Bank := if b.state = .evaluating then { b with stale := true } else b

/-- The banks at START (R59, R77). -/
def startBanks (s : State) : State :=
  let t := dropWaitingBanks s
  { t with stats := { t.stats with bank0 := t.stats.bank0.markStale, bank1 := t.stats.bank1.markStale } }

/-- The Exposure unit at START (R62). -/
def startExposure (s : State) : State :=
  setExposure { s.exposure with plan := Plan.initial, converged := false, underLive := false, overLive := false } s

/-- The Steadying unit at START, but for the mark (R153). -/
def startSteady (s : State) : State := setSteady { s.steady with ax := 0, ay := 0, quietRun := 0, quiet := false } s

/-- The Frames block at START (R41). -/
def startFrames (s : State) : State :=
  match s.frames.geometry with
  | some g => { s with frames := g.freshFrames }
  | none => s

/-- The START event (R192), ending with the first round (R123). -/
def start (s : State) : State :=
  let t : State := { startFrames s with partState := .homing }
  startLink (startLens (startSteady (startExposure (startBanks (setStore { t.store with recent := [] } t)))))

/-- START's part of the order: it always begins (R192). -/
def applyStart (_ : Posted) (s : State) : State × Answer := (start s, plainAnswer .taken)

/-- An aligned entry ended by STOP (R189). -/
def cancelEntry (s : State) (h : Held) : State := makeReply h.order (plainAnswer .cancelled) false false s

/-- STOP ends every aligned entry, oldest first; the SHOOT entry is the Store's to end (R189). -/
def cancelHeld (s : State) : State :=
  (s.orders.hold.filter fun h => !h.shoot).foldl cancelEntry
    (setOrders { s.orders with hold := s.orders.hold.filter Held.shoot } s)

/-- A search in progress ends at STOP (R95, R98). -/
def stopFocus (s : State) : State := if s.focus.state.isSearching then failSearch .cancelled s else s

/-- The STOP event (R193): PARKING, with the lens parked at once when nothing is under way. The aligned entries' replies
come before the SHOOT entry's, whichever was taken first (R189; notes/assumptions/46.md, DESIGN CHOICE). -/
def stop (s : State) : State :=
  let t := stopStore (cutFilling (cancelHeld { s with partState := .parking }))
  checkParked (parkLens (stopFocus t))

/-- STOP's part of the order; its reply follows the cancellation replies (R189, R193). -/
def applyStop (_ : Posted) (s : State) : State × Answer := (stop s, plainAnswer .taken)

end Sys2Proof.Machine
end

