-- ==== Sys2Proof/Machine/OrderCommands.lean ====
section
/-! DEFINITION. The commands that take an order: each the take of the order at the head of the order queue, by the steps
of R181. -/

namespace Sys2Proof.Machine

/-- NOP (R182). -/
def execNop (s : State) : Host.Outcome State Fault Refusal := event (takeOrder .nop (answered applyNop)) s

/-- SETUP_FRAMES (R20). -/
def execSetupFrames (s : State) : Host.Outcome State Fault Refusal := event (takeOrder .setupFrames (answered applySetupFrames)) s

/-- SETUP_LENS (R103). -/
def execSetupLens (s : State) : Host.Outcome State Fault Refusal := event (takeOrder .setupLens (answered applySetupLens)) s

/-- LOAD_TRACKING (R100). -/
def execLoadTracking (s : State) : Host.Outcome State Fault Refusal := event (takeOrder .loadTracking (answered applyLoadTracking)) s

/-- START (R192). -/
def execStart (s : State) : Host.Outcome State Fault Refusal := event (takeOrder .start (answered applyStart)) s

/-- STOP (R193). -/
def execStop (s : State) : Host.Outcome State Fault Refusal := event (takeOrder .stop (answered applyStop)) s

/-- SETUP_STORE (R164). -/
def execSetupStore (s : State) : Host.Outcome State Fault Refusal := event (takeOrder .setupStore (answered applySetupStore)) s

/-- LOAD_WEIGHTS (R64, R186). -/
def execLoadWeights (s : State) : Host.Outcome State Fault Refusal := event (takeOrder .loadWeights (holdOr applyLoadWeights)) s

/-- METER_MODE (R63, R186). -/
def execMeterMode (s : State) : Host.Outcome State Fault Refusal := event (takeOrder .meterMode (holdOr applyMeterMode)) s

/-- EXPOSURE_LOCK (R65, R186). -/
def execExposureLock (s : State) : Host.Outcome State Fault Refusal := event (takeOrder .exposureLock (holdOr applyExposureLock)) s

/-- FOCUS_AREA (R81, R186). -/
def execFocusArea (s : State) : Host.Outcome State Fault Refusal := event (takeOrder .focusArea (holdOr applyFocusArea)) s

/-- STEADY_MODE (R140, R186). -/
def execSteadyMode (s : State) : Host.Outcome State Fault Refusal := event (takeOrder .steadyMode (holdOr applySteadyMode)) s

/-- SUPPLY_LIMITS (R122). -/
def execSupplyLimits (s : State) : Host.Outcome State Fault Refusal := event (takeOrder .supplyLimits (answered applySupplyLimits)) s

/-- CLEAR_STATUS (R196). -/
def execClearStatus (s : State) : Host.Outcome State Fault Refusal := event (takeOrder .clearStatus (answered applyClearStatus)) s

/-- ALERT_MASK (R197). -/
def execAlertMask (s : State) : Host.Outcome State Fault Refusal := event (takeOrder .alertMask (answered applyAlertMask)) s

/-- FOCUS_START (R84). -/
def execFocusStart (s : State) : Host.Outcome State Fault Refusal := event (takeOrder .focusStart (answered applyFocusStart)) s

/-- FOCUS_CANCEL (R96). -/
def execFocusCancel (s : State) : Host.Outcome State Fault Refusal := event (takeOrder .focusCancel (answered applyFocusCancel)) s

/-- FOCUS_SET (R97, R186). -/
def execFocusSet (s : State) : Host.Outcome State Fault Refusal := event (takeOrder .focusSet (holdOr applyFocusSet)) s

/-- ZOOM_TO (R112, R186). -/
def execZoomTo (s : State) : Host.Outcome State Fault Refusal := event (takeOrder .zoomTo (holdOr applyZoomTo)) s

/-- ZOOM_STOP (R113). -/
def execZoomStop (s : State) : Host.Outcome State Fault Refusal := event (takeOrder .zoomStop (answered applyZoomStop)) s

/-- SHOOT (R157, R188). -/
def execShoot (s : State) : Host.Outcome State Fault Refusal := event (takeOrder .shoot takeShoot) s

/-- RELEASE_SHOT (R174). -/
def execReleaseShot (s : State) : Host.Outcome State Fault Refusal := event (takeOrder .releaseShot (answered applyReleaseShot)) s

/-- CLOSE_SLOT (R167). -/
def execCloseSlot (s : State) : Host.Outcome State Fault Refusal := event (takeOrder .closeSlot (answered applyCloseSlot)) s

/-- FREE_SLOT (R173). -/
def execFreeSlot (s : State) : Host.Outcome State Fault Refusal := event (takeOrder .freeSlot (answered applyFreeSlot)) s

/-- LENS_RESTART (R114, R136). -/
def execLensRestart (s : State) : Host.Outcome State Fault Refusal := event (takeOrder .lensRestart (answered applyLensRestart)) s

/-- CLEAR_SUPPLY (R122). -/
def execClearSupply (s : State) : Host.Outcome State Fault Refusal := event (takeOrder .clearSupply (answered applyClearSupply)) s

/-- UNKNOWN_ORDER: an order whose code is not in the catalogue (R181, step 1). -/
def execUnknownOrder (s : State) : Host.Outcome State Fault Refusal :=
  event (takeHead Option.isNone fun p => refuse p .unknown) s

end Sys2Proof.Machine
end

