-- ==== Sys2Proof/Machine/FramesBlock.lean ====
section
/-! DEFINITION. The Frames block at the arrival of RAW-window writes: classification, frame start, filling and completion
(R23 to R36). -/

namespace Sys2Proof.Machine

/-! ### Frame start -/

/-- A pinned target is remapped to the lowest free buffer (R26); `none` when there is none, which no run meets
(notes/assumptions/13.md). -/
def remap (k : Nat) (s : State) : Option State :=
  let e := s.entry k
  if (s.record e.phys).state = .pinned then
    match s.frames.free with
    | f :: rest => some (setEntry k { e with phys := f } (setFree rest s))
    | [] => none
  else some s

/-- The number after a frame number (R23). -/
def nextNumber (n : Nat) : Nat := if n = max32 then 1 else n + 1

/-- Whether the focus motor stands IDLE since before the window start (R29). -/
def State.focusStood (s : State) (g : Geometry) (f : FrameRecord) : Bool :=
  s.lens.focus.state == .idle && decide (timeDiff s.lens.focus.stillSince (stillStart g f) ≤ 0)

/-- The record a frame start opens, but for its focus-still flag (R28). -/
def State.openedRecord (s : State) (h : RawHeader) (number : Nat) : FrameRecord :=
  { FrameRecord.empty with
    state := .filling, number := number, tH := s.partTime, tHdr := h.tHdr, gHdr := h.gHdr, readout := h.readout
    aF := s.interp Knot.a s.lens.zoom.position
    zoomPos := s.lens.zoom.position, focusPos := s.lens.focus.position
    badExposure := decide (h.tHdr = 0 ∨ 2000000 < h.tHdr), m := 255 }

/-- The Store is told of a frame that is replaced (R28, R39). -/
def replaceRecord (b : Nat) (s : State) : State :=
  if (s.record b).state = .complete then reportReplaced (s.record b).number b s else s

/-- The third step: the new record is opened (R28, R29). -/
def openRecord (g : Geometry) (b : Nat) (h : RawHeader) (s : State) : State :=
  let t := replaceRecord b s
  let n := nextNumber t.frames.number
  let f := t.openedRecord h n
  let u := setRecord b { f with focusStill := t.focusStood g f } t
  { u with frames := { u.frames with number := n } }

/-- The fifth step: a free bank is claimed, or the frame is not metered (R30, R44). -/
def claimBank (g : Geometry) (b : Nat) (s : State) : State :=
  let f := s.record b
  match s.freeBank? with
  | some id =>
    setBank id (claimedBank g s.exposure.settings s.focus.settings f.number b)
      (setRecord b { f with bank := some id } s)
  | none =>
    setCounters (fun c => { c with notMetered := countUp c.notMetered })
      (latch .notMetered (setRecord b { f with notMetered := true } s))

/-! ### Filling and completion -/

/-- The buffer offset of a frame's last byte (R34). -/
def Geometry.lastByte (g : Geometry) : Nat := g.h * g.stride + 2 * g.w - 1

/-- The enabled pixel bytes of a write (R32). -/
def pixelBytes (g : Geometry) (o : Nat) (t : HostTransaction) : Nat :=
  (List.range t.len).countP fun i => isPixelByte g (o + i) && t.mask.getD i false

/-- Whether a write carries the last byte, enabled (R34). -/
def carriesLast (g : Geometry) (o : Nat) (t : HostTransaction) : Bool :=
  decide (o ≤ g.lastByte ∧ g.lastByte < o + t.len) && t.mask.getD (g.lastByte - o) false

/-- The crop offset and motion figure reach the record, the map entry and the latest values (R35, R149, R152). -/
def applyCrop (k b : Nat) (c : CropResult) (s : State) : State :=
  let f := { s.record b with ox := c.ox, oy := c.oy, m := c.m, motionPartial := c.partly }
  latchIf c.limited .cropLimit <|
    setSteady { s.steady with ox := c.ox, oy := c.oy, m := c.m } <|
      setEntry k { s.entry k with ox := c.ox, oy := c.oy } (setRecord b f s)

/-- The focus state, d and the confirmed focus-still flag reach the record (R29, R35). -/
def applyFocusAt (g : Geometry) (b : Nat) (s : State) : State :=
  let f := s.record b
  setRecord b
    { f with
      atCompletion := some (s.focus.state, s.focus.d), focusStill := f.focusStill && s.focusStood g f } s

/-- The bank is handed to evaluation, or an unmetered frame resolves for the search (R35, R53, R87). -/
def handOnBank (k b : Nat) (s : State) : State :=
  let f := s.record b
  match f.bank with
  | some id => handOver id { record := f, owner := k } s
  | none => resolveUnmetered s

/-- The frame in buffer b of logical buffer k completes (R34, R35). -/
def completeFrame (g : Geometry) (k b : Nat) (s : State) : State :=
  let f := s.record b
  let t := setRecord b
    { f with state := .complete, completion := some s.partTime, short := f.received != 2 * g.w * g.h } s
  let u := applyCrop k b (cropResult t g (t.record b)) t
  reportCompletion f.number b (handOnBank k b (applyFocusAt g b u))

/-- A write is given to the bank of a metered frame (R8, step 5). -/
def giveToBank (g : Geometry) (o : Nat) (t : HostTransaction) : Option BankId → State → State
  | some id, s => setBank id (accumulate g o t (s.bank id)) s
  | none, s => s

/-- A pixel write into the FILLING frame in buffer b (R32, R34). -/
def pixelWrite (g : Geometry) (k b o : Nat) (t : HostTransaction) (s : State) : State :=
  let f := s.record b
  let u := giveToBank g o t f.bank
    (setRecord b { f with received := satAdd max32 f.received (pixelBytes g o t) } s)
  if carriesLast g o t then completeFrame g k b u else u

/-! ### A RAW write -/

/-- A frame start (R26 to R31). -/
def frameStart (g : Geometry) (k : Nat) (t : HostTransaction) (s : State) : State × Bool :=
  match remap k s with
  | none => (s, false)
  | some u =>
    let b := u.phys k
    let v := openRecord g b (rawHeader t.data) (cutFilling u)
    let w := claimBank g b (applyHeld (v.record b).number v)
    (pixelWrite g k b 0 t w, true)

/-- A torn header (R25). -/
def tornHeader (s : State) : State × Bool :=
  (setCounters (fun c => { c with tornHeader := countUp c.tornHeader }) (latch .tornHeader s), false)

/-- A late write (R13, R33). -/
def lateWrite (s : State) : State × Bool :=
  (setCounters (fun c => { c with lateWrite := countUp c.lateWrite }) (latch .lateWrite s), false)

/-- A write in the active RAW window is offered to the Frames block; `true` is the verdict forward (R24, R25). -/
def offerRawWrite (g : Geometry) (k o : Nat) (t : HostTransaction) (s : State) : State × Bool :=
  if o < 32 then
    if isFrameStart o t then frameStart g k t s else tornHeader s
  else
    match (s.record (s.phys k)).state with
    | .filling => (pixelWrite g k (s.phys k) o t s, true)
    | .complete | .pinned => lateWrite s
    | .empty => (s, true)

end Sys2Proof.Machine
end

