-- ==== Sys2Proof/Machine/OwnWork.lean ====
section
/-! DEFINITION. Evaluation-done and the result writer, and what each owner makes of its own transactions ending
(R55 to R58, R170, R175, R185, R198). -/

namespace Sys2Proof.Machine

/-! ### Evaluation-done -/

/-- The bank under evaluation, of which there is at most one (R53). -/
def State.evaluating? (s : State) : Option BankId :=
  if s.stats.bank0.state = .evaluating then some .bank0
  else if s.stats.bank1.state = .evaluating then some .bank1
  else none

/-- Whether a buffer's record still holds the evaluated frame (R55). -/
def FrameRecord.holds (f copy : FrameRecord) : Bool :=
  f.state != .empty && f.number == copy.number && f.tH == copy.tH

/-- A record's bank field becomes none if it names this bank (R36; notes/assumptions/14.md). -/
def dropBankField (b : Nat) (id : BankId) (s : State) : State :=
  if (s.record b).bank = some id then setRecord b { s.record b with bank := none } s else s

/-- The result writer takes the next ring entry and requests the first half (R55, R57). The request is made here, within
the event, so it stands in the own queue before those the other owners make at the event's end (R3;
notes/assumptions/10.md, DESIGN CHOICE). -/
def beginResult (id : BankId) (bytes : List Byte) (s : State) : State :=
  let entry := s.stats.nextEntry
  requestOwnWrite .statistics (s.windows.control + 0x2000 + 512 * entry) (bytes.take 256)
    { s with
      stats :=
        { s.stats with
          nextEntry := (entry + 1) % 16, seq := (s.stats.seq + 1) % 0x10000
          writer := some { bank := id, entry := entry, bytes := bytes, secondHalf := false } } }

/-- The evaluation-done of a bank with its record copy (R55, R66, R82). -/
def evaluate (id : BankId) (b : Bank) (copy : RecordCopy) (s : State) : State :=
  let (t, eo) := exposureEvaluate b copy.record s
  let (u, fo) := focusEvaluate b.cells copy eo.level (eo.reason == .noData) t
  let r : ResultInput :=
    { seq := (s.stats.seq + 1) % 0x10000, bank := b, copy := copy
      replaced := !(s.record b.buffer).holds copy.record, eo := eo, fo := fo
      exposure := u.exposure, focus := u.focus }
  beginResult id r.bytes
    (dropBankField b.buffer id (setBank id { b with state := .writing, stale := false } u))

/-- Evaluation of the bank under evaluation ends (R55). -/
def evaluationDone (s : State) : State :=
  match s.evaluating? with
  | none => s
  | some id =>
    match (s.bank id).copy with
    | some copy => evaluate id (s.bank id) copy s
    | none => s

/-! ### Own transactions that completed OK -/

/-- An owner acts on its completed own transaction, if there is one it has not acted on. -/
def whenTold (owner : Owner) (f : List Byte → State → State) (s : State) : State :=
  match takeTold owner s with
  | some (data, t) => f data t
  | none => s

/-- The result write ends (R57, R58): nothing is written any more and the bank is FREE. -/
def endResult (w : ResultWriter) (s : State) : State :=
  freeBank w.bank { s with stats := { s.stats with writer := none } }

/-- A half of a result record has been written (R57). The second half is requested before what the other owners request
at the event's end (R3; notes/assumptions/10.md, DESIGN CHOICE). -/
def resultWritten (s : State) : State :=
  match s.stats.writer with
  | none => s
  | some w =>
    if w.secondHalf then
      latch .frameDone (endResult w { s with stats := { s.stats with newest := some w.entry } })
    else
      requestOwnWrite .statistics (s.windows.control + 0x2000 + 512 * w.entry + 256) (w.bytes.drop 256)
        { s with stats := { s.stats with writer := some { w with secondHalf := true } } }

/-- The reply write has completed (R185). -/
def replyWritten (s : State) : State := latch .replyReady (setOrders { s.orders with carried := none } s)

/-- The status rewrite has completed: its copy is published and drives ATTN (R197, R198). -/
def statusWritten (s : State) : State :=
  { s with
    status := { s.status with writing := none, published := s.status.writing }
    attn := attnOf s.status.writing }

/-- A read-back piece has been read (R168). -/
def pieceRead (s : State) : State :=
  match s.store.request with
  | some .piece => whenTold .store pieceDone s
  | _ => s

/-- A trailer write has completed (R169). -/
def trailerWritten (s : State) : State :=
  match s.store.request with
  | some (.trailer n) => whenTold .store (fun _ => trailerDone n) s
  | _ => s

/-- A mirror write has completed (R175). -/
def mirrorWritten (s : State) : State :=
  match s.store.request with
  | some (.shotMirror _) | some (.slotMirror _) => whenTold .store (fun _ => clearStoreRequest) s
  | _ => s

/-! ### Own transactions that failed -/

/-- A reply write failed: the entries it carried are dirty again (R185). -/
def replyFailed (s : State) : State :=
  match s.orders.carried with
  | none => s
  | some marks =>
    setOrders { s.orders with carried := none, dirty := List.zipWith or s.orders.dirty marks } s

/-- A result write failed (R58). -/
def resultFailed (s : State) : State :=
  match s.stats.writer with
  | none => s
  | some w => endResult w s

/-- A status rewrite failed (R198). -/
def statusFailed (s : State) : State := { s with status := { s.status with writing := none, dirty := true } }

/-- The owner is told that its own transaction failed (R18). -/
def ownerFailed : Owner → State → State
  | .orderUnit => replyFailed
  | .statistics => resultFailed
  | .status => statusFailed
  | .store => storeFailed

end Sys2Proof.Machine
end

