-- ==== Sys2Proof/Machine/ThroughPath.lean ====
section
/-! DEFINITION. The Through-path: the inbound queue, arrival and handling by window, VIEW pieces, the memory port and its
arbiter, completions and the response timer (chapter 1). -/

namespace Sys2Proof.Machine

/-- Change the port. -/
def setPort (p : Port) (s : State) : State := { s with port := p }

/-! ### The inbound queue -/

/-- Length 0, or bytes that cross a 256-byte boundary (R1). -/
def isMalformed (t : HostTransaction) : Bool :=
  t.len == 0 || decide (256 < t.addr.toNat % 256 + t.len)

/-- The completions of the malformed transactions at the head of a queue, and the rest of the queue (R1). -/
def splitMalformed : List HostTransaction → List HostCompletion × List HostTransaction
  | [] => ([], [])
  | t :: ts =>
    if isMalformed t then
      let (cs, rest) := splitMalformed ts
      ({ tag := t.tag, status := .error, data := [] } :: cs, rest)
    else ([], t :: ts)

/-- Malformed transactions that have reached the head are completed ERROR (R1). -/
def flushMalformed (s : State) : State :=
  let (cs, rest) := splitMalformed s.port.inbound
  { s with hostOut := s.hostOut ++ cs, port := { s.port with inbound := rest } }

/-- The frame link accepts a transaction while fewer than 8 stand in the queue (R1). -/
def acceptHost (t : HostTransaction) (s : State) : State :=
  if s.port.inbound.length < 8 then
    flushMalformed (setPort { s.port with inbound := s.port.inbound ++ [t] } s)
  else s

/-- The head host transaction is completed and its place frees (R1, R2). -/
def completeHead (status : Status) (data : List Byte) (s : State) : State :=
  match s.port.inbound with
  | t :: rest =>
    flushMalformed
      (setPort { s.port with inbound := rest, view := none }
        (sendCompletion { tag := t.tag, status := status, data := data } s))
  | [] => s

/-! ### Arrival -/

/-- The handling fixed at an arrival (R2): forwarded to an address, with the slot and offset of a PICTURE read; dropped;
or read in pieces. -/
inductive Handling where
  | forward (addr : Nat) (picture : Option (Nat × Nat))
  | drop
  | pieces (ps : List Piece)
  deriving DecidableEq, Repr

/-- A verdict as handling. -/
def verdict (addr : Nat) (forward : Bool) : Handling := if forward then .forward addr none else .drop

/-- The base of physical buffer phys(k), with an offset in it (R8, R10). -/
def State.poolAddress (s : State) (k o : Nat) : Nat :=
  match s.windows.pool with
  | some p => p.base + s.phys k * p.bufsz + o
  | none => o

/-- A transaction in the control area (R7). -/
def arriveControl (t : HostTransaction) (s : State) : State × Handling :=
  let a := t.addr.toNat
  let off := a - s.windows.control
  (if t.dir = .write ∧ off < 0x400 then showOrderWrite off t s else s, .forward a none)

/-- A transaction in the active RAW window (R8, R9). -/
def arriveRaw (w : RawWindow) (t : HostTransaction) (s : State) : State × Handling :=
  let r := t.addr.toNat - w.base
  let k := r / w.bufsz
  let o := r % w.bufsz
  match t.dir, s.frames.geometry with
  | .write, some g =>
    let (u, forward) := offerRawWrite g k o t s
    (u, verdict (u.poolAddress k o) forward)
  | _, _ => (s, .forward (s.poolAddress k o) none)

/-- The view line and DRAM address of a VIEW byte; a byte past the window has no line and keeps its address
(R6, R10). -/
def State.viewByte (s : State) (v : ViewWindow) (a : Nat) : Option Nat × Nat :=
  if v.extent.has a then
    let r := a - v.base
    let k := r / v.vsz
    let q := r % v.vsz
    let e := s.entry k
    let x : Int := ((q % v.vl / 2 : Nat) : Int) + v.mx + e.ox
    let y : Int := ((q / v.vl : Nat) : Int) + v.my + e.oy
    (some (r / v.vl), s.poolAddress k (((y + 1) * v.stride + 2 * x).toNat + q % v.vl % 2))
  else (none, a)

/-- One byte before the pieces of the bytes after it: it joins the first when it lies in the same view line, right
before it and in the same 256-byte block (R11). -/
def addByte (p : Option Nat × Nat) : List (Option Nat × Piece) → List (Option Nat × Piece)
  | (line, q) :: rest =>
    if line = p.1 ∧ p.2 + 1 = q.addr ∧ p.2 / 256 = q.addr / 256 then (line, { addr := p.2, len := q.len + 1 }) :: rest
    else (p.1, { addr := p.2, len := 1 }) :: (line, q) :: rest
  | [] => [(p.1, { addr := p.2, len := 1 })]

/-- The pieces of a VIEW read (R11). -/
def State.viewPieces (s : State) (v : ViewWindow) (addr len : Nat) : List Piece :=
  (((List.range len).map fun i => s.viewByte v (addr + i)).foldr addByte []).map Prod.snd

/-- A transaction in the active VIEW window (R11, R12). -/
def arriveView (v : ViewWindow) (t : HostTransaction) (s : State) : State × Handling :=
  match t.dir with
  | .read => (s, .pieces (s.viewPieces v t.addr.toNat t.len))
  | .write => (setCounters (fun c => { c with viewWrite := countUp c.viewWrite }) (latch .viewWrite s), .drop)

/-- A transaction in the POOL window (R13). -/
def arrivePool (p : PoolWindow) (t : HostTransaction) (s : State) : State × Handling :=
  let a := t.addr.toNat
  if t.dir = .write ∧ (s.record ((a - p.base) / p.bufsz)).state = .pinned then ((lateWrite s).1, .drop)
  else (s, .forward a none)

/-- A transaction in the PICTURE window (R14). -/
def arrivePicture (p : PictureWindow) (t : HostTransaction) (s : State) : State × Handling :=
  let a := t.addr.toNat
  let r := a - p.base
  let j := r / p.slotSize
  let o := r % p.slotSize
  match t.dir with
  | .read => (s, .forward a (some (j, o)))
  | .write =>
    let (u, forward) := slotWrite j (o + t.len) s
    (u, verdict a forward)

/-- The arrival of a host transaction (R2, R6). -/
def arrive (t : HostTransaction) (s : State) : State × Handling :=
  match s.decodeAddress t.addr.toNat with
  | .none => (s, .forward t.addr.toNat none)
  | .control => arriveControl t s
  | .raw w => arriveRaw w t s
  | .view w => arriveView w t s
  | .pool w => arrivePool w t s
  | .picture w => arrivePicture w t s

/-! ### Issue and the arbiter -/

/-- The tag of the next issue: any but the last one (R3). -/
def nextTag (p : Port) : BitVec 4 :=
  let t := Config.freeTag p.issues p.tag
  if t = p.tag then p.tag + 1 else t

/-- A transaction is issued with a changed tag, and the response timer starts (R3, R17; notes/assumptions/6.md). -/
def issue (kind : FlightKind) (addr : Nat) (dir : Direction) (len : Nat) (data : List Byte) (mask : List Bool)
    (s : State) : State :=
  setPort
    { s.port with
      tag := nextTag s.port
      issues := s.port.issues + 1
      flight := some
        { kind := kind, addr := addr, dir := dir, len := len, data := data, mask := mask, tag := nextTag s.port,
          issued := s.partTime } } s

/-- The head own transaction is issued (R3). -/
def issueOwn (x : OwnTransaction) (rest : List OwnTransaction) (s : State) : State :=
  issue (.own x.owner) x.addr x.dir x.len x.data x.mask (setPort { s.port with own := rest } s)

/-- The next piece of the VIEW read is issued (R11). -/
def issuePiece (v : ViewRead) (p : Piece) (rest : List Piece) (s : State) : State :=
  issue .piece p.addr .read p.len [] [] (setPort { s.port with view := some { v with pieces := rest } } s)

/-- What a handling makes of the head host transaction; `true` when the turn was not used (R15, R16). -/
def carryOut (t : HostTransaction) (h : Handling) (s : State) : State × Bool :=
  match h with
  | .forward addr picture => (issue (.host picture) addr t.dir t.len t.data t.mask s, false)
  | .drop => (completeHead .ok [] s, true)
  | .pieces (p :: ps) => (issuePiece { pieces := [], data := [] } p ps s, false)
  | .pieces [] => (completeHead .ok [] s, true)

/-- The own transaction at the head of the queue, if it was requested 20 µs or more ago (R16). -/
def State.agedOwn (s : State) : Option (OwnTransaction × List OwnTransaction) :=
  match s.port.own with
  | x :: rest => if 20 ≤ elapsed s.partTime x.requested then some (x, rest) else none
  | [] => none

/-- The head own transaction takes the turn, when nothing else waits (R16). -/
def ownTurn (s : State) : State :=
  match s.port.own with
  | x :: rest => issueOwn x rest s
  | [] => s

/-- The arbiter's choice, made again after a drop, at most `n` times (R15, R16). Each arrival is an event of its own for
the owners that may request. -/
def takeTurn : Nat → State → State
  | 0, s => s
  | n + 1, s =>
    match s.agedOwn, s.port.view with
    | some (x, rest), _ => issueOwn x rest s
    | none, some v =>
      match v.pieces with
      | p :: ps => issuePiece v p ps s
      | [] => s
    | none, none =>
      match s.port.inbound with
      | t :: _ =>
        let (u, h) := arrive t s
        let (w, again) := carryOut t h u
        if again then takeTurn n (finish s w) else finish s w
      | [] => ownTurn s

/-- Whether the port is idle: nothing is in flight, and every owner has acted on the OK end of its own transaction
(R16; notes/assumptions/7.md). -/
def Port.idle (p : Port) : Bool := p.flight.isNone && p.told.isEmpty

/-- A turn is given when the port is idle (R16); a queue of n host transactions is at most n drops long. -/
def giveTurn (s : State) : State :=
  if s.port.idle then takeTurn (s.port.inbound.length + 1) (requestAll s) else s

/-! ### The end of a transaction -/

/-- A PICTURE read is reported to the Store with its data or its failure (R14). -/
def reportPicture (x : Flight) (picture : Option (Nat × Nat)) (status : Status) (data : List Byte) (s : State) :
    State :=
  match picture with
  | some (j, o) => reportRead j o x.len (if status = .ok then some data else none) s
  | none => s

/-- A host transaction's memory transaction has ended (R2, R14, R17). -/
def endHost (x : Flight) (picture : Option (Nat × Nat)) (status : Status) (data : List Byte) (s : State) : State :=
  completeHead status (if x.dir = .read ∧ status = .ok then data else []) (reportPicture x picture status data s)

/-- A piece of the VIEW read has ended (R11). -/
def endPiece (status : Status) (data : List Byte) (s : State) : State :=
  match s.port.view with
  | none => s
  | some v =>
    match status with
    | .error => completeHead .error [] s
    | .ok =>
      let v' := { v with data := v.data ++ data }
      if v'.pieces.isEmpty then completeHead .ok v'.data s else setPort { s.port with view := some v' } s

/-- An own transaction has ended (R3, R18). After an OK end no turn is given until the row that names the owner's work
has run, so that no arrival comes between the end and the work (notes/assumptions/7.md). -/
def endOwn (owner : Owner) (status : Status) (data : List Byte) (s : State) : State :=
  match status with
  | .ok => setPort { s.port with told := s.port.told ++ [{ owner := owner, data := data }] } s
  | .error => ownerFailed owner s

/-- The transaction in flight has ended, and the port is idle (R3, R17, R18). -/
def endFlight (x : Flight) (status : Status) (data : List Byte) (s : State) : State :=
  let t := setPort { s.port with flight := none } s
  match x.kind with
  | .host picture => endHost x picture status data t
  | .piece => endPiece status data t
  | .own owner => endOwn owner status data t

/-- A completion arrives: one with the tag in flight ends the transaction and, where the port is then idle, the next
turn is given; any other is discarded (R3). -/
def memoryCompletion (tag : BitVec 4) (status : Status) (data : List Byte) (s : State) : State :=
  match s.port.flight with
  | some x => if x.tag = tag then giveTurn (finish s (endFlight x status data s)) else s
  | none => s

/-- The response timer expires 100 µs after the issue: the transaction is abandoned (R17, R18). -/
def memoryTimeout (s : State) : State :=
  match s.port.flight with
  | some x =>
    if 100 ≤ elapsed s.partTime x.issued then
      giveTurn (finish s (endFlight x .error [] (latch .memTimeout s)))
    else s
  | none => s

end Sys2Proof.Machine
end

