-- ==== Sys2Proof/Machine/PathCommands.lean ====
section
/-! DEFINITION. The commands of the Through-path and of the part's own work. -/

namespace Sys2Proof.Machine

/-- An event whose function itself ends every arrival in it; while RESET_N is low nothing happens (R19). -/
def portEvent (f : State → State) (s : State) : Host.Outcome State Fault Refusal := .next (if s.resetN then f s else s)

/-- HOST_TRANSACTION_ACCEPT (R1). -/
def execHostTransactionAccept (t : HostTransaction) (s : State) : Host.Outcome State Fault Refusal :=
  event (acceptHost t) s

/-- ARBITER_TURN (R16). -/
def execArbiterTurn (s : State) : Host.Outcome State Fault Refusal := portEvent giveTurn s

/-- MEMORY_COMPLETION (R3). -/
def execMemoryCompletion (tag : BitVec 4) (status : Status) (data : List Byte) (s : State) :
    Host.Outcome State Fault Refusal :=
  portEvent (memoryCompletion tag status data) s

/-- MEMORY_TIMEOUT (R17). -/
def execMemoryTimeout (s : State) : Host.Outcome State Fault Refusal := portEvent memoryTimeout s

/-- EVALUATION_DONE (R55). -/
def execEvaluationDone (s : State) : Host.Outcome State Fault Refusal := event evaluationDone s

/-- RESULT_WRITE_DONE (R57). -/
def execResultWriteDone (s : State) : Host.Outcome State Fault Refusal :=
  event (whenTold .statistics fun _ => resultWritten) s

/-- REPLY_WRITE_DONE (R185). -/
def execReplyWriteDone (s : State) : Host.Outcome State Fault Refusal :=
  event (whenTold .orderUnit fun _ => replyWritten) s

/-- STATUS_REWRITE_DONE (R198). -/
def execStatusRewriteDone (s : State) : Host.Outcome State Fault Refusal :=
  event (whenTold .status fun _ => statusWritten) s

/-- READ_BACK_PIECE_DONE (R168). -/
def execReadBackPieceDone (s : State) : Host.Outcome State Fault Refusal := event pieceRead s

/-- TRAILER_WRITE_DONE (R169). -/
def execTrailerWriteDone (s : State) : Host.Outcome State Fault Refusal := event trailerWritten s

/-- MIRROR_WRITE_DONE (R175). -/
def execMirrorWriteDone (s : State) : Host.Outcome State Fault Refusal := event mirrorWritten s

end Sys2Proof.Machine
end

