-- ==== Sys2Proof/Machine/ResetCommands.lean ====
section
/-! DEFINITION. The commands RESET_N_ASSERT and RESET_N_RISE (R19, R59, R138, R177, R190, R197). -/

namespace Sys2Proof.Machine

/-- RESET_N falls: queues and the transaction in flight are discarded, the lens link is quiet, work in progress is lost,
part time is held at 0 and ATTN is released (R19, R59, R138, R177, R190, R197). The rest takes its reset value at the
rise (notes/assumptions/29.md). -/
def resetAsserted (s : State) : State :=
  { s with
    resetN := false
    partTime := 0
    attn := false
    port := { inbound := [], view := none, own := [], flight := none, tag := s.port.tag, issues := s.port.issues,
              told := [] }
    stats := { s.stats with bank0 := Bank.released, bank1 := Bank.released, writer := none }
    link := s.link.quieted
    store := { s.store with inflight := none, closeQueue := [], request := none }
    orders := { s.orders with queue := [], hold := [], carried := none, dirty := List.replicate 16 false }
    status := { s.status with writing := none, published := none } }

/-- RESET_N rises: ANCHOR is sampled and every block takes its reset values (R19). The model's own fields and the last
tag are kept (notes/assumptions/6.md). -/
def resetRisen (anchor : BitVec 3) (s : State) : State :=
  { State.afterReset anchor s.port.tag s.port.issues with
    pending := s.pending, hostOut := s.hostOut, freeCount := s.freeCount }

/-- RESET_N_ASSERT (R19). -/
def execResetNAssert (s : State) : Host.Outcome State Fault Refusal :=
  .next (if s.resetN then resetAsserted s else s)

/-- RESET_N_RISE (R19): the Status unit requests first, then the Store (R177). -/
def execResetNRise (anchor : BitVec 3) (s : State) : Host.Outcome State Fault Refusal :=
  .next (if s.resetN then s else requestAll (resetRisen anchor s))

/-- One microsecond passes on an empty queue; part time is held while RESET_N is low (R19; notes/assumptions/2.md). The header
of a reply being read may come in (R129, R130; notes/assumptions/44.md). -/
def tick (s : State) : State := if s.resetN then takeDueHeader { s with partTime := s.partTime + 1 } else s

end Sys2Proof.Machine
end

