-- ==== Sys2Proof/Machine/Dispatch.lean ====
section
/-! DEFINITION. The dispatch: one arm per command, one meaning per arm. -/

namespace Sys2Proof.Machine

def exec (i : Instr) (s : State) : Host.Outcome State Fault Refusal :=
  match i with
  | .resetNAssert => Sys2Proof.Machine.execResetNAssert s
  | .resetNRise anchor => Sys2Proof.Machine.execResetNRise anchor s
  | .hostTransactionAccept t => Sys2Proof.Machine.execHostTransactionAccept t s
  | .arbiterTurn => Sys2Proof.Machine.execArbiterTurn s
  | .memoryCompletion tag status data => Sys2Proof.Machine.execMemoryCompletion tag status data s
  | .memoryTimeout => Sys2Proof.Machine.execMemoryTimeout s
  | .evaluationDone => Sys2Proof.Machine.execEvaluationDone s
  | .resultWriteDone => Sys2Proof.Machine.execResultWriteDone s
  | .replyWriteDone => Sys2Proof.Machine.execReplyWriteDone s
  | .statusRewriteDone => Sys2Proof.Machine.execStatusRewriteDone s
  | .readBackPieceDone => Sys2Proof.Machine.execReadBackPieceDone s
  | .trailerWriteDone => Sys2Proof.Machine.execTrailerWriteDone s
  | .mirrorWriteDone => Sys2Proof.Machine.execMirrorWriteDone s
  | .roundStart => Sys2Proof.Machine.execRoundStart s
  | .lensRequestSent => Sys2Proof.Machine.execLensRequestSent s
  | .lensPoll header => Sys2Proof.Machine.execLensPoll header s
  | .replyDiscarded line => Sys2Proof.Machine.execReplyDiscarded line s
  | .sensed line => Sys2Proof.Machine.execSensed line s
  | .moved line => Sys2Proof.Machine.execMoved line s
  | .homed line => Sys2Proof.Machine.execHomed line s
  | .settleTimeout motor => Sys2Proof.Machine.execSettleTimeout motor s
  | .nop => Sys2Proof.Machine.execNop s
  | .setupFrames => Sys2Proof.Machine.execSetupFrames s
  | .setupLens => Sys2Proof.Machine.execSetupLens s
  | .loadTracking => Sys2Proof.Machine.execLoadTracking s
  | .start => Sys2Proof.Machine.execStart s
  | .stop => Sys2Proof.Machine.execStop s
  | .setupStore => Sys2Proof.Machine.execSetupStore s
  | .loadWeights => Sys2Proof.Machine.execLoadWeights s
  | .meterMode => Sys2Proof.Machine.execMeterMode s
  | .exposureLock => Sys2Proof.Machine.execExposureLock s
  | .focusArea => Sys2Proof.Machine.execFocusArea s
  | .steadyMode => Sys2Proof.Machine.execSteadyMode s
  | .supplyLimits => Sys2Proof.Machine.execSupplyLimits s
  | .clearStatus => Sys2Proof.Machine.execClearStatus s
  | .alertMask => Sys2Proof.Machine.execAlertMask s
  | .focusStart => Sys2Proof.Machine.execFocusStart s
  | .focusCancel => Sys2Proof.Machine.execFocusCancel s
  | .focusSet => Sys2Proof.Machine.execFocusSet s
  | .zoomTo => Sys2Proof.Machine.execZoomTo s
  | .zoomStop => Sys2Proof.Machine.execZoomStop s
  | .shoot => Sys2Proof.Machine.execShoot s
  | .releaseShot => Sys2Proof.Machine.execReleaseShot s
  | .closeSlot => Sys2Proof.Machine.execCloseSlot s
  | .freeSlot => Sys2Proof.Machine.execFreeSlot s
  | .lensRestart => Sys2Proof.Machine.execLensRestart s
  | .clearSupply => Sys2Proof.Machine.execClearSupply s
  | .unknownOrder => Sys2Proof.Machine.execUnknownOrder s

end Sys2Proof.Machine
end

