-- ==== Sys2Proof/Safety.lean ====
section
/-! DEFINITION. The terms claims are written in: completion, the state with the owners' requests set aside, an order at
the head of the queue, the failure of an own transaction, the turns of a round, what a search and the parking make of a
motor, and the invariants (INVENTORY.md, Faults: every step is safe). -/

namespace Sys2Proof

/-- The outcome is a next state. No command of the part ends otherwise (INVENTORY.md, Faults). -/
def Completes {σ φ ρ : Type} (o : Host.Outcome σ φ ρ) : Prop := ∃ t, o = .next t

namespace Machine

/-- The state with the owners' requests set aside: the own queue, the dirty marks, the copies taken for a write and the
free-value counter, which is all that the end of an event may still change (R175, R185, R198). Two states that agree in
this agree in everything else. -/
def State.settled (s : State) : State :=
  { s with
    freeCount := 0
    port := { s.port with own := [] }
    status := { s.status with seq := 0, dirty := false, writing := none }
    orders := { s.orders with dirty := [], carried := none }
    store := { s.store with request := none, shotDirty := [], slotDirty := [] } }

/-- The order `o` stands at the head of the order queue as `p`, before `rest`, in a part state that allows it
(R181, R182), with the part out of reset. -/
structure AtHead (s : State) (o : Order) (p : Posted) (rest : List Posted) : Prop where
  out     : s.resetN = true
  head    : s.orders.queue = p :: rest
  code    : Order.ofCode p.code.toNat = some o
  allowed : o.allowed s.partState s.frames.geometry.isSome = true

/-- The state after an order has left the queue (R181). -/
def State.dequeued (s : State) (rest : List Posted) : State := { s with orders := { s.orders with queue := rest } }

/-- A state with a reply made for an order at its take, its values 0 and HOLD_IGNORED set where the order carried
FRAME_ALIGNED (R184). -/
def State.replied (p : Posted) (r : Result) (s : State) : State := makeReply p (plainAnswer r) p.aligned false s

/-- The commands that take an order of the catalogue, and the order each takes (R181, R182). -/
def orderRow : Instr → Option Order
  | .nop => some .nop
  | .setupFrames => some .setupFrames
  | .setupLens => some .setupLens
  | .loadTracking => some .loadTracking
  | .start => some .start
  | .stop => some .stop
  | .setupStore => some .setupStore
  | .loadWeights => some .loadWeights
  | .meterMode => some .meterMode
  | .exposureLock => some .exposureLock
  | .focusArea => some .focusArea
  | .steadyMode => some .steadyMode
  | .supplyLimits => some .supplyLimits
  | .clearStatus => some .clearStatus
  | .alertMask => some .alertMask
  | .focusStart => some .focusStart
  | .focusCancel => some .focusCancel
  | .focusSet => some .focusSet
  | .zoomTo => some .zoomTo
  | .zoomStop => some .zoomStop
  | .shoot => some .shoot
  | .releaseShot => some .releaseShot
  | .closeSlot => some .closeSlot
  | .freeSlot => some .freeSlot
  | .lensRestart => some .lensRestart
  | .clearSupply => some .clearSupply
  | .resetNAssert | .resetNRise _ | .hostTransactionAccept _ | .arbiterTurn | .memoryCompletion _ _ _
  | .memoryTimeout | .evaluationDone | .resultWriteDone | .replyWriteDone | .statusRewriteDone | .readBackPieceDone
  | .trailerWriteDone | .mirrorWriteDone | .roundStart | .lensRequestSent | .lensPoll _ | .replyDiscarded _
  | .sensed _ | .moved _ | .homed _ | .settleTimeout _ | .unknownOrder => none

/-- The port after a transaction is issued: its tag is another than the last (`nextTag`), and its timer runs from now. -/
def issued (s : State) (p : Port) (kind : FlightKind) (addr : Nat) (dir : Direction) (len : Nat)
    (data : List Byte) (mask : List Bool) : State :=
  { s with
    port :=
      { p with
        tag := nextTag s.port
        issues := s.port.issues + 1
        flight := some
          { kind := kind, addr := addr, dir := dir, len := len, data := data, mask := mask, tag := nextTag s.port,
            issued := s.partTime } } }

/-- The physical buffer a frame start for `k` opens: phys(k), or the lowest free buffer when that is PINNED (R26). -/
def State.startTarget (s : State) (k : Nat) : Option Nat :=
  if (s.record (s.phys k)).state = .pinned then s.frames.free.head? else some (s.phys k)

/-- The bank under evaluation with its record copy, for a state out of reset. -/
structure Evaluating (s : State) (id : BankId) (copy : RecordCopy) : Prop where
  out   : s.resetN = true
  state : (s.bank id).state = .evaluating
  alone : (s.bank id.other).state ≠ .evaluating
  copy  : (s.bank id).copy = some copy

/-- Two ranges, each as its base and its size, share no address (R5). -/
def Apart (x y : Nat × Nat) : Prop := x.1 + x.2 ≤ y.1 ∨ y.1 + y.2 ≤ x.1

/-! ### Own transactions -/

/-- What an owner makes of the failure of its own transaction (R18), from `s` to `u`, with `bits` latched beside: the
Statistics unit gives the bank up (R58), the Store closes the slot without a check value (R170) or requests the mirror
again (R175), the Order unit requests the entries again (R185) and the Status unit the block (R198). -/
structure FailureTold (s u : State) (owner : Owner) (bits : BitVec 28) : Prop where
  kept : u.port.flight = none ∧ u.port.inbound = s.port.inbound ∧ u.port.view = s.port.view ∧ u.hostOut = s.hostOut ∧
    u.frames = s.frames ∧ u.exposure = s.exposure ∧ u.focus = s.focus ∧ u.lens = s.lens ∧ u.link = s.link ∧
    u.steady = s.steady ∧ u.orders.image = s.orders.image ∧ u.store.shots = s.store.shots ∧
    u.status.counters = s.status.counters ∧ u.status.published = s.status.published ∧ u.attn = s.attn
  others : (owner ≠ .statistics → u.stats = s.stats) ∧
    (owner ≠ .store → u.store.slots = s.store.slots ∧ u.store.closeQueue = s.store.closeQueue)
  latched : (owner = .store → (∃ e, s.store.request = some (.shotMirror e)) ∨ ∃ j, s.store.request = some (.slotMirror j)) →
    u.status.latched = s.status.latched ||| bits
  statistics : owner = .statistics → ∀ w, s.stats.writer = some w →
    u.stats.writer = none ∧ u.stats.newest = s.stats.newest ∧ (u.bank w.bank).state = .free ∧
    u.bank w.bank.other =
      if (s.bank w.bank.other).state = .waiting then { s.bank w.bank.other with state := .evaluating }
      else s.bank w.bank.other
  close : owner = .store → (s.store.request = some .piece ∨ ∃ n, s.store.request = some (.trailer n)) →
    ∀ w rest, s.store.closeQueue = w :: rest →
    u.store.closeQueue = rest ∧ u.status.latched = s.status.latched ||| bits ||| LatchedBit.closeFailed.mask ∧
    (∀ j, j ≠ w.slot → u.slot? j = s.slot? j) ∧
    ∀ x, s.slot? w.slot = some x → u.slot? w.slot = some { x with checkValid := false, state := .closed }
  shotMirror : owner = .store → ∀ e, s.store.request = some (.shotMirror e) → e < s.store.shotDirty.length →
    u.store.slots = s.store.slots ∧
    ∃ i, i ≤ e ∧ u.store.request = some (.shotMirror i) ∧ (i = e ∨ u.store.shotDirty.getD e false = true)
  slotMirror : owner = .store → ∀ j, s.store.request = some (.slotMirror j) → j < s.store.slotDirty.length →
    u.store.slots = s.store.slots ∧
    ((∃ e, u.store.request = some (.shotMirror e) ∧ u.store.slotDirty.getD j false = true) ∨
      ∃ i, i ≤ j ∧ u.store.request = some (.slotMirror i) ∧ (i = j ∨ u.store.slotDirty.getD j false = true))
  reply : owner = .orderUnit → ∀ marks, s.orders.carried = some marks → marks.length = 16 →
    s.orders.dirty.length = 16 → (∃ i, marks.getD i false = true) →
    u.orders.carried = some (List.zipWith or s.orders.dirty marks)
  status : owner = .status →
    u.status.writing = some { seq := (s.status.seq + 1) % 65536, content := u.content }

/-! ### Shots -/

/-- A frame qualifies for the SHOOT in flight by its record (R37, R158). -/
def Qualifies (f : FrameRecord) (number : Nat) (needFocus : Bool) : Prop :=
  f.state = .complete ∧ f.number = number ∧ f.cut = false ∧ f.notMetered = false ∧
    (needFocus = true → ∃ d, f.atCompletion = some (.locked, d))

/-- A frame is chosen for the SHOOT in flight (R163), from `s` to `t`: it is pinned, slot `j` is reserved, shot entry `e`
is filled with the next id, and the SHOOT leaves the hold list with SHOT_DONE latched. -/
structure FrameChosen (s t : State) (number b e j : Nat) : Prop where
  pinned : (t.record b).state = .pinned ∧ b ∉ t.frames.free ∧ t.frames.map = s.frames.map
  shot : ∃ sh : Shot,
    t.store.shots = s.store.shots.set e (some sh) ∧
    t.store.slots = s.store.slots.set j { Slot.freed with state := .reserved, shotId := some sh.id } ∧
    sh.id = s.store.nextId ∧ sh.buffer = b ∧ sh.slot = j ∧ sh.snapshot = (s.record b).snapshot ∧
    sh.snapshot.number = number ∧ sh.ppd16 = s.interp Knot.ppd16 (s.record b).zoomPos ∧ t.store.lastId = sh.id
  done : t.store.inflight = none ∧ t.orders.hold = s.orders.hold.filter (fun h => !h.shoot) ∧
    t.status.latched.getLsbD LatchedBit.shotDone.index = true

/-- The SHOOT in flight ends with NO_FRAME (R162), from `s` to `t`: nothing is pinned or reserved, and its entry leaves
the hold list with that reply. -/
structure NoFrameChosen (s t : State) : Prop where
  kept : t.frames = s.frames ∧ t.store.shots = s.store.shots ∧ t.store.slots = s.store.slots ∧
    t.store.lastId = s.store.lastId ∧ t.status = s.status
  done : t.store.inflight = none ∧ t.orders.hold = s.orders.hold.filter (fun h => !h.shoot)
  reply : ∀ h, s.orders.hold.find? Held.shoot = some h →
    t.orders.image = s.orders.image.set h.order.slot (replyBytes h.order (plainAnswer .noFrame) h.order.aligned false)

/-! ### Turns of the lens link -/

/-- The request a motor needs at its turn, `none` for none (R107, R115, R121); `cap` is the rate it carries, in a homing
MOVE too (notes/assumptions/18.md, DEDUCED). -/
structure RequestDue (s : State) (id : MotorId) (r : Option Request) : Prop where
  cap   : s.cap id = if id = .focus then 16 else if s.lens.supply.overCurrent then 1 else s.lens.zoom.speed
  low   : s.lens.supply.lensLow = true → r = none
  still : (s.motor id).state ≠ .homing → (s.motor id).state ≠ .moving → r = none
  home  : s.lens.supply.lensLow = false → (s.motor id).state = .homing → (s.motor id).refSeen = true → r = some .home
  seek  : s.lens.supply.lensLow = false → (s.motor id).state = .homing → (s.motor id).refSeen = false →
    r = some (.move (if id = .focus then -16 else if s.lens.supply.overCurrent then -1 else -8) (s.cap id))
  ask   : s.lens.supply.lensLow = false → (s.motor id).state = .moving → (s.motor id).uncertain = true →
    r = some (.move 0 (s.cap id))
  go    : s.lens.supply.lensLow = false → (s.motor id).state = .moving → (s.motor id).uncertain = false →
    ∃ n : Int, r = some (.move n (s.cap id)) ∧
      n.natAbs = min (((s.motor id).aim : Int) - (s.motor id).position).natAbs (s.cap id) ∧
      ((s.motor id).aim < (s.motor id).position → n ≤ 0) ∧ ((s.motor id).position ≤ (s.motor id).aim → 0 ≤ n)

/-- A motor's request goes out now, in its turn, with its header, its check byte, its payload high byte first and its
CRC (R124, R126 to R129). -/
structure RequestSent (s : State) (id : MotorId) (r : Request) : Prop where
  exchange : s.link.exchange =
    some
      { target := if id = .focus then .focus else .zoom, request := r, state := .sending, seq := s.link.seq
        bytes := requestBytes (if id = .focus then .focus else .zoom) r s.link.seq, pollBase := s.partTime
        headerIn := false }
  pins : s.link.turn = (if id = .focus then .focus else .zoom) ∧ s.link.lselN = false
  home : r = .home → ∀ b : Byte, b = (if id = .focus then 0x2A#8 else 0x29#8) →
    requestBytes (if id = .focus then .focus else .zoom) r s.link.seq =
      [b, 0x00#8, s.link.seq, headerCheck b 0x00#8 s.link.seq]
  move : ∀ (n : Int) (rate : Nat), r = .move n rate → ∀ (b : Byte) (steps : BitVec 16) (p : List Byte),
    b = (if id = .focus then 0x1A#8 else 0x19#8) → steps = BitVec.ofInt 16 n →
    p = [steps.extractLsb' 8 8, steps.extractLsb' 0 8, BitVec.ofNat 8 rate] →
    requestBytes (if id = .focus then .focus else .zoom) r s.link.seq =
      [b, 0x03#8, s.link.seq, headerCheck b 0x03#8 s.link.seq] ++ p ++
        [(crc16 p).extractLsb' 8 8, (crc16 p).extractLsb' 0 8]

/-- The quiet link (R124, R137). -/
def QuietLink (l : Link) : Prop := l.exchange = none ∧ l.lselN = true ∧ l.lclk = false ∧ l.lmosi = false

/-- What follows the turn `last` in its round: the focus turn, then the zoom turn, each with its request or skipped, and
after the zoom turn the quiet link (R124). -/
def TurnFollows (last : Turn) (t : State) : Prop :=
  ∃ f z, RequestDue t .focus f ∧ RequestDue t .zoom z ∧
    (last = .sensing → ∀ r, f = some r → RequestSent t .focus r) ∧
    (last = .focus ∨ (last = .sensing ∧ f = none) → ∀ r, z = some r → RequestSent t .zoom r) ∧
    (last = .zoom ∨ ((last = .focus ∨ (last = .sensing ∧ f = none)) ∧ z = none) → QuietLink t.link)

/-- The round goes on after an exchange, from `s` to `t`; in CONFIG the link is quiet (R124, R137). -/
def RoundGoesOn (s t : State) : Prop :=
  (t.partState ≠ .config → TurnFollows s.link.turn t) ∧
    (s.partState ≠ .config → t.partState = .config → QuietLink t.link)

/-! ### Searches and parking -/

/-- What a search makes of the focus motor record as it then stands, from `s` to `t`: in TRAVEL, IDLE at the sample
position it enters SAMPLE (R86); in FINAL, IDLE at its target it is LOCKED (R93). -/
structure SearchArrives (s t : State) : Prop where
  sample : ∀ r, s.focus.state = .searching .travel → s.focus.search = some r → t.lens.focus.state = .idle →
    t.lens.focus.position = r.sample →
    t.focus =
      { s.focus with
        state := .searching .sample, search := some { r with resolved := 0, sampleStart := s.partTime } }
  travel : ∀ r, s.focus.state = .searching .travel → s.focus.search = some r →
    t.lens.focus.state ≠ .idle ∨ t.lens.focus.position ≠ r.sample → t.focus = s.focus
  locked : s.focus.state = .searching .final → t.lens.focus.state = .idle →
    t.lens.focus.position = t.lens.focus.target →
    t.focus = { s.focus with state := .locked } ∧ t.status.latched.getLsbD LatchedBit.focusLocked.index = true
  final : s.focus.state = .searching .final →
    t.lens.focus.state ≠ .idle ∨ t.lens.focus.position ≠ t.lens.focus.target → t.focus = s.focus
  others : s.focus.state ≠ .searching .travel → s.focus.state ≠ .searching .final → t.focus = s.focus

/-- A frame that resolves in SAMPLE without being taken, from `s` to `t` (R87, R95; notes/assumptions/42.md, DEDUCED). -/
structure FrameCounted (s t : State) (r : SearchRecord) (completion : Time) : Prop where
  early  : (completion - r.sampleStart).toInt < 0 → t.focus = s.focus ∧ t.lens = s.lens
  one    : 0 ≤ (completion - r.sampleStart).toInt → r.resolved ≠ 7 →
    t.focus = { s.focus with search := some { r with resolved := r.resolved + 1 } } ∧ t.lens = s.lens
  eighth : 0 ≤ (completion - r.sampleStart).toInt → r.resolved = 7 →
    t.focus = { s.focus with state := .failed .noFrames, search := some { r with resolved := 8 } } ∧
    t.status.latched.getLsbD LatchedBit.focusFailed.index = true ∧
    t.lens = (giveTarget .focus false (s.track r.zs s.focus.d) s).lens

/-- A motor that neither moves, settles nor homes (R117). -/
def Motor.Rests (m : Motor) : Prop := m.state ≠ .moving ∧ m.state ≠ .settling ∧ m.state ≠ .homing

/-- In PARKING the part enters CONFIG when no motor is under way, from `s` to `t`: the link quiet, the map identity with
its crop offsets, the free list L..P − 1 (R42, R117, R137). -/
structure LensParks (s t : State) : Prop where
  parks : s.partState = .parking → t.lens.zoom.Rests → t.lens.focus.Rests →
    t.partState = .config ∧ QuietLink t.link ∧
    t.frames = { s.frames with map := t.frames.map, free := t.frames.free } ∧
    (s.frames.geometry = none → t.frames = s.frames) ∧
    ∀ g, s.frames.geometry = some g →
      t.frames.free = (List.range g.s).map (g.l + ·) ∧
      t.frames.map = (List.range g.l).map fun k => { s.entry k with phys := k }
  waits : s.partState ≠ .parking ∨ ¬t.lens.zoom.Rests ∨ ¬t.lens.focus.Rests →
    t.partState = s.partState ∧ t.frames = s.frames

/-! ### Own transactions outstanding -/

/-- How many own transactions of an owner are queued, in flight, or ended OK and not yet acted on (R3). -/
def Port.outstanding (p : Port) (o : Owner) : Nat :=
  p.own.countP (fun x => x.owner == o) + p.flight.toList.countP (fun x => x.kind == .own o) +
    p.told.countP (fun x => x.owner == o)

/-- Whether an owner has a transaction requested (R3). -/
def State.requested (s : State) : Owner → Bool
  | .orderUnit => s.orders.carried.isSome
  | .statistics => s.stats.writer.isSome
  | .status => s.status.writing.isSome
  | .store => s.store.request.isSome

/-! ### Invariants -/

/-- Positions, targets and aims within the motors' ranges (R105, R106). -/
def MotorsInRange (s : State) : Prop :=
  ∀ id, (s.motor id).position ≤ s.topPosition id ∧ (s.motor id).target ≤ s.topPosition id ∧
    (s.motor id).aim ≤ s.topPosition id

/-- A bank that is EVALUATING or WRITING. -/
def Bank.busy (b : Bank) : Prop := b.state = .evaluating ∨ b.state = .writing

/-- At most one bank is EVALUATING or WRITING, and a bank waits only for such a one (R53, R57). -/
def BanksTakeTurns (s : State) : Prop :=
  ¬(s.stats.bank0.busy ∧ s.stats.bank1.busy) ∧ (s.stats.bank0.state = .waiting → s.stats.bank1.busy) ∧
    (s.stats.bank1.state = .waiting → s.stats.bank0.busy)

/-- Every list of fixed or bounded size keeps its size (R1, R88, R146, R155, R156, R178, R180, R184, R186). -/
structure SizesHold (s : State) : Prop where
  inbound : s.port.inbound.length ≤ 8
  queue   : s.orders.queue.length ≤ 16
  hold    : s.orders.hold.length ≤ 8
  shadow  : s.orders.shadow.length = 1024
  image   : s.orders.image.length = 16
  dirty   : s.orders.dirty.length = 16
  carried : ∀ marks, s.orders.carried = some marks → marks.length = 16
  history : s.steady.history.length ≤ 128
  trail   : s.focus.trail.length ≤ 8
  recent  : s.store.recent.length ≤ 7
  shots   : s.store.shots.length = 4
  shotDirty : s.store.shotDirty.length = 4
  slotDirty : s.store.slotDirty.length = 64
  knots   : s.lens.knots.length = 33
  weights : s.exposure.weights.length = 64

/-- Each owner has at most one own transaction, and none without having requested it (R3); with what that rests on: the
result writer writes from a WRITING bank, the banks take turns, and the one FILLING frame feeds an ACCUMULATING bank
(R27, R30, R55, R57). While RESET_N is low the frame table still holds the old records. -/
structure OwnersWait (s : State) : Prop where
  one     : ∀ o, s.port.outstanding o ≤ if s.requested o then 1 else 0
  writer  : ∀ w, s.stats.writer = some w → (s.bank w.bank).state = .writing
  turns   : BanksTakeTurns s
  single  : ∀ b c, (s.record b).state = .filling → (s.record c).state = .filling → b = c
  filling : s.resetN = true → ∀ b id, (s.record b).state = .filling → (s.record b).bank = some id →
    (s.bank id).state = .accumulating

/-- The crop offsets of the map are even and within the margins MX and MY (R149, R152). -/
def OffsetsInMargins (s : State) : Prop :=
  ∀ g, s.frames.geometry = some g → ∀ e ∈ s.frames.map,
    e.ox.natAbs ≤ g.mx ∧ e.oy.natAbs ≤ g.my ∧ e.ox % 2 = 0 ∧ e.oy % 2 = 0

/-- The metering settings in the ranges of the table of 4.2, and a published plan within them (R63, R74, R75). -/
structure ExposureInRange (u : Exposure) : Prop where
  tgt     : 1 ≤ u.settings.tgt ∧ u.settings.tgt ≤ 4095
  comp    : -96 ≤ u.settings.c ∧ u.settings.c ≤ 96
  db      : u.settings.db ≤ 16
  shutter : u.settings.sMin ≤ u.settings.sMaxCfg ∧ u.settings.sMaxCfg ≤ 669
  gain    : u.settings.gMax ≤ 255
  boost   : u.settings.boost ≤ 96
  levels  : u.settings.blk ≤ 1023 ∧ 1 ≤ u.settings.white ∧ u.settings.white ≤ 4096
  plan    : u.plan.gain ≤ 255 ∧ ∀ c, u.plan.code = some c → c ≤ 669 ∧ u.plan.t = ex c
  once    : ¬(u.underLive = true ∧ u.overLive = true)

/-- The steadying values in their ranges, with the angles 0 unless the state is ACTIVE and the latest offset even
(R141 to R146, R149, R150). -/
structure SteadyInRange (u : Steady) : Prop where
  angles : u.ax.natAbs ≤ 8388607 ∧ u.ay.natAbs ≤ 8388607
  still  : u.state ≠ .active → u.ax = 0 ∧ u.ay = 0
  run    : u.quietRun ≤ 255 ∧ (u.quiet = true → 0 < u.quietRun)
  figure : u.m ≤ 255
  offset : u.ox % 2 = 0 ∧ u.oy % 2 = 0

/-- The physical buffers the map names. -/
def Frames.mapped (f : Frames) : List Nat := f.map.map MapEntry.phys

/-- The state of the record of a physical buffer. -/
def Frames.stateOf (f : Frames) (b : Nat) : FrameState := (f.table.getD b FrameRecord.empty).state

/-- Each physical buffer of the pool lies in exactly one group: mapped, unmapped and PINNED, or on the free list as
COMPLETE or EMPTY; and the free list is in rising order without duplicates (R22, R38). -/
structure PoolDivided (f : Frames) (g : Geometry) : Prop where
  mapSize   : f.map.length = g.l
  tableSize : f.table.length = g.l + g.s
  distinct  : f.mapped.Nodup
  inPool    : ∀ b ∈ f.mapped, b < g.l + g.s
  rising    : f.free.Pairwise (· < ·)
  free      : ∀ b ∈ f.free, b < g.l + g.s ∧ b ∉ f.mapped ∧ (f.stateOf b = .complete ∨ f.stateOf b = .empty)
  pinned    : ∀ b, b < g.l + g.s → b ∉ f.mapped → b ∉ f.free → f.stateOf b = .pinned

/-- The pool is divided while the part state is HOMING or RUNNING; with frames set up, the RAW window is L buffers of
BUFSZ bytes (R20, R38, R41). -/
def PoolHolds (s : State) : Prop :=
  (∀ g, s.frames.geometry = some g →
    ∃ w, s.windows.raw = some w ∧ w.size = g.l * w.bufsz ∧ 0 < w.bufsz) ∧
  (s.partState = .homing ∨ s.partState = .running → ∃ g, s.frames.geometry = some g ∧ PoolDivided s.frames g)

end Machine

end Sys2Proof
end

