-- ==== Sys2Proof/Certificates/Slice0/Obligations.lean ====
section
/-! DEFINITION. The statements about the CP510 for the provers. `settled` sets the owners' requests aside, so an equation
between settled states says of every field what it holds after the command: the fields named change as written, and
everything else is as before. -/

open Sys2Proof Sys2Proof.Machine

/-! ### The step and reset -/

/-- A step runs the command at the front of the queue on the state with the queue's rest; on an empty queue one
microsecond of part time passes, and none while RESET_N is low (notes/assumptions/2.md, DESIGN CHOICE). In the microsecond in
which the header of a reply being read is in, 2 µs after its poll, its correction is counted (notes/assumptions/44.md,
DEDUCED). -/
def Obligations.StepRunsTheFrontCommand : Prop :=
  ∀ s : State,
    (∀ c rest, s.pending = c :: rest → step s = exec c { s with pending := rest }) ∧
      (s.pending = [] → s.resetN = false → step s = .next s) ∧
      (s.pending = [] → s.resetN = true →
        (∀ x h, s.link.exchange = some x → x.state = .reading h → x.headerIn = false →
          (s.partTime + 1 - x.pollBase).toNat < 2) →
        step s = .next { s with partTime := s.partTime + 1 }) ∧
      ∀ (x : Exchange) (h : ReplyHeader), s.pending = [] → s.resetN = true → s.link.exchange = some x →
        x.state = .reading h → x.headerIn = false → 2 ≤ (s.partTime + 1 - x.pollBase).toNat →
        ∃ t, step s = .next t ∧
          t.settled =
            { s with
              partTime := s.partTime + 1
              link := { s.link with exchange := some { x with headerIn := true } }
              status :=
                { s.status with
                  counters :=
                    { s.status.counters with
                      correctedHeader :=
                        if headerCorrected h then min 65535 (s.status.counters.correctedHeader + 1)
                        else s.status.counters.correctedHeader } } }.settled

/-- RESET_N_RISE gives every block the values the manual states for after RESET_N: the CONTROL window from ANCHOR and no
other, CONFIG, queues empty, no frames, banks FREE, the metering, focus, lens and steadying settings at their defaults, the
initial plan, motors UNHOMED, the supply monitor and the link at 0 and quiet, no shots or slots, latched bits and counters
clear, the six faults in the mask, ATTN released, part time 0; and the first own transaction is the status write. The
model's pending and hostOut are kept (notes/assumptions/29.md, notes/assumptions/25.md, DESIGN CHOICE). -/
def Obligations.ResetRiseGivesResetValues : Prop :=
  ∀ (s : State) (a : BitVec 3), s.resetN = false →
    ∃ t, exec (.resetNRise a) s = .next t ∧ t.resetN = true ∧ t.partTime = 0 ∧ t.partState = .config ∧
      t.attn = false ∧
      t.windows =
        { control := 0x01000000 * (a.toNat + 1) - 0x4000, raw := none, view := none, pool := none, picture := none } ∧
      t.port.inbound = [] ∧ t.port.view = none ∧ t.port.flight = none ∧
      (∃ x rest, t.port.own = x :: rest ∧ x.owner = .status ∧ x.addr = t.windows.control + 0x600) ∧
      t.frames = { geometry := none, map := [], free := [], table := [], number := 0 } ∧
      (t.stats.bank0.state = .free ∧ t.stats.bank1.state = .free ∧ t.stats.nextEntry = 0 ∧ t.stats.seq = 0 ∧
        t.stats.newest = none ∧ t.stats.writer = none) ∧
      t.exposure =
        { weights := List.replicate 64 1
          settings :=
            { tgt := 460, c := 0, db := 2, sMin := 222, sMaxCfg := 637, gMax := 192, boost := 64, blk := 64
              white := 4000 }
          lock := false, plan := { t := 10000, gain := 0, code := none, origin := 0 }
          converged := false, underLive := false, overLive := false } ∧
      t.focus =
        { state := .idle, d := 0, mode := .wide, search := none, trail := []
          settings := { fx := 0, fy := 0, fw := 8192, fh := 6144, core := 8, minc := 1024 } } ∧
      (t.lens.knots = List.replicate 33 { pInf := 0, pNear := 0, a := 0, sLim := 0, ppd16 := 0 } ∧
        t.lens.settings =
          { delta := 32, fmax := 4095, backlash := 0, zoomSettle := 0, focusSettle := 0, park := 0, period := 1000 } ∧
        t.lens.supply =
          { lastV := 0, lastI := 0, lastP := 0, energy := 0, rollover := 0, samples := 0, peakI := 0, peakP := 0
            overCurrent := false, lensLow := false, stallCount := 0, iWarn := 65535, iHyst := 0, iStall := 65535
            vLow := 0, vHyst := 0 } ∧
        ∀ id m, m = t.motor id →
          m.state = .unhomed ∧ m.position = 0 ∧ m.target = 0 ∧ m.aim = 0 ∧ m.overshoot = false ∧ m.speed = 8 ∧
          m.uncertain = false ∧ m.stillSince = 0 ∧ m.zoomToPending = false ∧ m.travel = 0 ∧ m.refSeen = false ∧
          m.fault = .none ∧ m.lastSteps = 0) ∧
      (t.link.roundStart = 0 ∧ t.link.period = 1000 ∧ t.link.seq = 0 ∧ t.link.exchange = none ∧
        t.link.failSensing = 0 ∧ t.link.failZoom = 0 ∧ t.link.failFocus = 0 ∧ t.link.sensingFaulted = false ∧
        t.link.lselN = true ∧ t.link.lclk = false ∧ t.link.lmosi = false) ∧
      t.steady =
        { settings := { on := false, k := 10, negX := false, negY := false, qr := 64, qn := 0, kq := 6 }
          state := .off, ax := 0, ay := 0, lastRx := 0, lastRy := 0, quietRun := 0, quiet := false, view := false
          history := [], ox := 0, oy := 0, m := 0 } ∧
      (t.store.shots = List.replicate 4 none ∧ t.store.slots = [] ∧ t.store.inflight = none ∧
        t.store.closeQueue = [] ∧ t.store.lastId = 0 ∧ t.store.recent = []) ∧
      (t.orders.queue = [] ∧ t.orders.hold = [] ∧ t.orders.shadow = List.replicate 1024 0) ∧
      (t.status.latched = 0 ∧ t.status.counters = Counters.zero ∧ t.status.published = none ∧
        ∀ b : LatchedBit, t.status.mask.getLsbD b.index = decide (b.kind = .fault)) ∧
      t.pending = s.pending ∧ t.hostOut = s.hostOut

/-- RESET_N_ASSERT discards the queues and the transaction in flight without a completion to the host, abandons the
exchange with the link quiet and the work of the banks, the Store and the Order unit, and releases ATTN. While RESET_N
is low no command but RESET_N_RISE changes anything. Which state falls at the assertion and which at the rise is the
model's reading (notes/assumptions/29.md, DESIGN CHOICE). -/
def Obligations.ResetAssertDropsWork : Prop :=
  (∀ (c : Instr) (s : State), s.resetN = false → (∀ a, c ≠ .resetNRise a) → exec c s = .next s) ∧
  ∀ s : State, s.resetN = true →
    ∃ t, exec .resetNAssert s = .next t ∧ t.resetN = false ∧ t.partTime = 0 ∧ t.attn = false ∧
      t.port.inbound = [] ∧ t.port.own = [] ∧ t.port.view = none ∧ t.port.flight = none ∧ t.hostOut = s.hostOut ∧
      t.link.exchange = none ∧ t.link.lselN = true ∧ t.link.lclk = false ∧ t.link.lmosi = false ∧
      t.link.seq = s.link.seq ∧ t.link.failSensing = s.link.failSensing ∧
      t.status.counters = s.status.counters ∧ t.stats.bank0.state = .free ∧ t.stats.bank1.state = .free ∧
      t.stats.writer = none ∧ t.store.inflight = none ∧ t.store.closeQueue = [] ∧ t.orders.queue = [] ∧
      t.orders.hold = [] ∧ t.status.writing = none ∧ t.status.published = none ∧ t.pending = s.pending

/-! ### The Through-path -/

/-- A delivered transaction joins the tail of an inbound queue that has a place; a full queue takes none. A malformed
one that comes to the head at once is completed ERROR, undecoded; behind others it waits. -/
def Obligations.HostTransactionJoinsTheQueue : Prop :=
  ∀ (s : State) (t : HostTransaction), s.resetN = true → (∀ x ∈ s.port.inbound, isMalformed x = false) →
    ∃ u, exec (.hostTransactionAccept t) s = .next u ∧
      (8 ≤ s.port.inbound.length → u.settled = s.settled) ∧
      (s.port.inbound.length < 8 → (isMalformed t = false ∨ s.port.inbound ≠ []) →
        u.settled = { s with port := { s.port with inbound := s.port.inbound ++ [t] } }.settled) ∧
      (isMalformed t = true → s.port.inbound = [] →
        u.settled = { s with hostOut := s.hostOut ++ [({ tag := t.tag, status := .error, data := [] } : HostCompletion)] }.settled)

/-- The arbiter's choice at an idle port: an own transaction requested 20 µs ago or more, else the next piece of the VIEW
read, else the head host transaction (here one in no active window, forwarded unchanged), else the head own
transaction. With a transaction in flight there is no turn, and none while an owner has still to act on the OK end of its
own transaction (notes/assumptions/7.md, DEDUCED). -/
def Obligations.ArbiterTurnFollowsItsOrder : Prop :=
  ∀ s : State, s.resetN = true →
    (s.port.flight.isSome = true ∨ s.port.told ≠ [] → exec .arbiterTurn s = .next s) ∧
    (s.port.flight = none → s.port.told = [] →
      (∀ x rest, s.port.own = x :: rest → 20 ≤ elapsed s.partTime x.requested →
        ∃ u, exec .arbiterTurn s = .next u ∧
          u.settled = (issued s s.port (.own x.owner) x.addr x.dir x.len x.data x.mask).settled) ∧
      ((∀ x ∈ s.port.own.head?, elapsed s.partTime x.requested < 20) →
        (∀ v p ps, s.port.view = some v → v.pieces = p :: ps →
          ∃ u, exec .arbiterTurn s = .next u ∧
            u.settled =
              (issued s { s.port with view := some { v with pieces := ps } } .piece p.addr .read p.len [] []).settled) ∧
        (∀ t rest, s.port.view = none → s.port.inbound = t :: rest → s.decodeAddress t.addr.toNat = .none →
          ∃ u, exec .arbiterTurn s = .next u ∧
            u.settled = (issued s s.port (.host none) t.addr.toNat t.dir t.len t.data t.mask).settled) ∧
        (∀ x rest, s.port.view = none → s.port.inbound = [] → s.port.own = x :: rest →
          ∃ u, exec .arbiterTurn s = .next u ∧
            u.settled = (issued s s.port (.own x.owner) x.addr x.dir x.len x.data x.mask).settled)))

/-- A host write in the active VIEW window is dropped at arrival and completed OK; VIEW_WRITE is latched and counted;
nothing else changes. -/
def Obligations.ViewWriteIsDropped : Prop :=
  ∀ (s : State) (v : ViewWindow) (t : HostTransaction) (rest : List HostTransaction),
    s.decodeAddress t.addr.toNat = .view v → t.dir = .write → s.port.inbound = t :: rest → s.port.view = none →
    (∀ x ∈ rest, isMalformed x = false) →
    ∃ u, arrive t s = (u, .drop) ∧
      carryOut t .drop u =
        ({ s with
            hostOut := s.hostOut ++ [{ tag := t.tag, status := .ok, data := [] }]
            port := { s.port with inbound := rest }
            status :=
              { s.status with
                latched := s.status.latched ||| LatchedBit.viewWrite.mask
                counters :=
                  { s.status.counters with viewWrite := min 65535 (s.status.counters.viewWrite + 1) } } }, true)

/-- A host write in the active RAW window, beside the header, into a COMPLETE or PINNED frame is dropped at arrival and
completed OK; LATE_WRITE is latched and counted; nothing else changes. -/
def Obligations.LateWriteIsDropped : Prop :=
  ∀ (s : State) (w : RawWindow) (g : Geometry) (t : HostTransaction) (rest : List HostTransaction),
    s.decodeAddress t.addr.toNat = .raw w → s.frames.geometry = some g → t.dir = .write →
    32 ≤ (t.addr.toNat - w.base) % w.bufsz →
    ((s.record (s.phys ((t.addr.toNat - w.base) / w.bufsz))).state = .complete ∨
      (s.record (s.phys ((t.addr.toNat - w.base) / w.bufsz))).state = .pinned) →
    s.port.inbound = t :: rest → s.port.view = none → (∀ x ∈ rest, isMalformed x = false) →
    ∃ u, arrive t s = (u, .drop) ∧
      carryOut t .drop u =
        ({ s with
            hostOut := s.hostOut ++ [{ tag := t.tag, status := .ok, data := [] }]
            port := { s.port with inbound := rest }
            status :=
              { s.status with
                latched := s.status.latched ||| LatchedBit.lateWrite.mask
                counters :=
                  { s.status.counters with lateWrite := min 65535 (s.status.counters.lateWrite + 1) } } }, true)

/-- A write that touches a header byte and is no frame start is dropped, whatever the record's state: TORN_HEADER is
latched and counted, and nothing else changes. A byte its range covers is touched, enabled or not
(notes/assumptions/12.md, DEDUCED). A frame start covers and enables all 32 header bytes and carries the
marker 0x4A57, low byte first. -/
def Obligations.TornHeaderIsDropped : Prop :=
  ∀ (s : State) (g : Geometry) (k o : Nat) (t : HostTransaction), o < 32 →
    (0 < o ∨ t.len < 32 ∨ (∃ i < 32, t.mask.getD i false = false) ∨ t.data.getD 0 0 ≠ 0x57#8 ∨
      t.data.getD 1 0 ≠ 0x4A#8) →
    offerRawWrite g k o t s =
      ({ s with
          status :=
            { s.status with
              latched := s.status.latched ||| LatchedBit.tornHeader.mask
              counters := { s.status.counters with tornHeader := min 65535 (s.status.counters.tornHeader + 1) } } },
        false)

/-- A frame start that carries the header line only opens a FILLING record: the next frame number, T_h now, the header's
fields, the confirmed motor positions, A_f at the zoom position, BAD_EXPOSURE by t_hdr, the focus-still flag by the window
start, nothing received, offset (0, 0) and M 255. phys(k) becomes the target, the free list loses it when it was remapped,
and every other record that was not FILLING is as before. A frame still filling is cut: COMPLETE with CUT, completion now,
no bank, FRAME_CUT latched, and its bank free again. The aligned held orders leave the hold list applied, oldest first (of
METER_MODEs the last one's settings stand, its reply with APPLIED and the frame number); then bank 0, or else bank 1, is
claimed if FREE with the settings as they then stand, and with neither FREE the frame is NOT_METERED. -/
def Obligations.FrameStartOpensARecord : Prop :=
  ∀ (s : State) (g : Geometry) (k b : Nat) (t : HostTransaction),
    isFrameStart 0 t = true → t.len ≤ g.stride → 0 < g.h → 0 < g.w → s.startTarget k = some b →
    k < s.frames.map.length → b < s.frames.table.length →
    ∃ u, offerRawWrite g k 0 t s = (u, true) ∧ u.phys k = b ∧
      ((s.record (s.phys k)).state = .pinned → s.frames.free = b :: u.frames.free) ∧
      ((s.record (s.phys k)).state ≠ .pinned → u.frames.free = s.frames.free) ∧
      u.frames.number = (if s.frames.number = 2 ^ 32 - 1 then 1 else s.frames.number + 1) ∧
      (u.record b).state = .filling ∧ (u.record b).number = u.frames.number ∧ (u.record b).tH = s.partTime ∧
      (u.record b).gHdr = min 255 (readLe t.data 2 2) ∧ (u.record b).tHdr = readLe t.data 4 4 ∧
      (u.record b).readout = readLe t.data 8 4 ∧ (u.record b).zoomPos = s.lens.zoom.position ∧
      (u.record b).focusPos = s.lens.focus.position ∧
      (u.record b).aF = s.interp Knot.a s.lens.zoom.position ∧
      (u.record b).badExposure = decide (readLe t.data 4 4 = 0 ∨ 2000000 < readLe t.data 4 4) ∧
      ((u.record b).focusStill = true ↔
        s.lens.focus.state = .idle ∧
          (s.lens.focus.stillSince -
            (s.partTime - BitVec.ofNat 32 g.lat - BitVec.ofNat 32 (readLe t.data 4 4))).toInt ≤ 0) ∧
      (u.record b).received = 0 ∧ (u.record b).ox = 0 ∧ (u.record b).oy = 0 ∧ (u.record b).m = 255 ∧
      (u.record b).atCompletion = none ∧ (u.record b).completion = none ∧
      (∀ c, c ≠ b → (s.record c).state ≠ .filling → u.record c = s.record c) ∧
      (∀ c, s.filling? = some c → c ≠ b →
        u.record c =
          { s.record c with state := .complete, cut := true, completion := some s.partTime, bank := none } ∧
        u.status.latched.getLsbD LatchedBit.frameCut.index = true) ∧
      u.orders.hold = s.orders.hold.filter Held.shoot ∧
      (∀ (older : List Held) (h : Held) (v c : Metering), s.orders.hold.filter (fun x => !x.shoot) = older ++ [h] →
        (∀ x ∈ older ++ [h], Order.ofCode x.order.code.toNat = some .meterMode) → v = h.order.metering →
        c = { tgt := max 1 (min 4095 v.tgt), c := max (-96) (min 96 v.c), db := min 16 v.db, sMin := min 669 v.sMin,
              sMaxCfg := max (min 669 v.sMin) (min 669 v.sMaxCfg), gMax := min 255 v.gMax, boost := min 96 v.boost,
              blk := min 1023 v.blk, white := max 1 (min 4096 v.white) } →
        u.exposure.settings = c ∧
          (h.order.slot < s.orders.image.length →
            u.orders.image.getD h.order.slot [] =
              [byteAt h.order.bytes 60, byteAt h.order.bytes 61, if c = v then 0x00#8 else 0x02#8, 0x02#8] ++
                le u.frames.number 4 ++ zeros 8)) ∧
      (s.filling? = none →
        (∀ id, id = (if s.stats.bank0.state = .free then BankId.bank0 else BankId.bank1) → (s.bank id).state = .free →
          (u.record b).bank = some id ∧ (u.record b).notMetered = false ∧ u.bank id.other = s.bank id.other ∧
          u.bank id =
            { state := .accumulating, number := u.frames.number, buffer := b, sums := List.replicate 64 0
              counts := List.replicate 64 0, bins := List.replicate 64 0, clip := 0, cells := List.replicate 9 0
              carry := none, copy := none, stale := false
              settings :=
                { gp := g.gp, blk := u.exposure.settings.blk, white := u.exposure.settings.white
                  core := u.focus.settings.core, fx := u.focus.settings.fx, fy := u.focus.settings.fy
                  cw := (min (u.focus.settings.fx + u.focus.settings.fw) g.w - u.focus.settings.fx) / 3
                  ch := (min (u.focus.settings.fy + u.focus.settings.fh) g.h - u.focus.settings.fy) / 3 } }) ∧
        (s.stats.bank0.state ≠ .free → s.stats.bank1.state ≠ .free →
          (u.record b).bank = none ∧ (u.record b).notMetered = true ∧ u.stats = s.stats ∧
          u.status.latched.getLsbD LatchedBit.notMetered.index = true ∧
          u.status.counters.notMetered = min 65535 (s.status.counters.notMetered + 1))) ∧
      ∀ c id, s.filling? = some c → (s.record c).bank = some id →
        (u.record b).bank = some (if s.stats.bank0.state = .free ∨ id = .bank0 then .bank0 else .bank1)

/-- The pixel write that carries the frame's last byte, enabled, into a FILLING record completes it: COMPLETE or, where
a SHOOT chose it at once, PINNED; completion time now; SHORT exactly when the count is not 2·W·H. The offset, M and
MOTION_PARTIAL are what the Steadying unit hands on, in the record, the map entry and the latest values, with CROP_LIMIT
latched when an axis was clamped; the focus state and d of this moment are recorded, for a frame without a bank those
before it resolves (notes/assumptions/39.md, DESIGN CHOICE), and focus-still is confirmed. A bank takes the write, then
the record copy, and is EVALUATING, or WAITING behind a busy one. Last the Store is told. The write is forwarded. Any
other write past the header into a FILLING record is forwarded too: its enabled pixel bytes are counted, its bank takes
it, and nothing else changes. Into an EMPTY record it is forwarded and changes nothing. What the Steadying unit hands
on, by its state and the history: fixed values, or the offsets from the entry nearest the midpoint, clamped and made
even, and the figure over the entries that span the window. -/
def Obligations.LastByteCompletesTheFrame : Prop :=
  (∀ (s : State) (g : Geometry) (k o : Nat) (t : HostTransaction) (c : CropResult),
    32 ≤ o → (s.record (s.phys k)).state = .filling → s.phys k < s.frames.table.length →
    o ≤ g.h * g.stride + 2 * g.w - 1 → g.h * g.stride + 2 * g.w - 1 < o + t.len →
    t.mask.getD (g.h * g.stride + 2 * g.w - 1 - o) false = true → c = cropResult s g (s.record (s.phys k)) →
    ∃ u, offerRawWrite g k o t s = (u, true) ∧
      ((u.record (s.phys k)).state = .complete ∨ (u.record (s.phys k)).state = .pinned) ∧
      (s.store.inflight = none → (u.record (s.phys k)).state = .complete) ∧
      (u.record (s.phys k)).completion = some s.partTime ∧
      (u.record (s.phys k)).number = (s.record (s.phys k)).number ∧
      (u.record (s.phys k)).received =
        min (2 ^ 32 - 1) ((s.record (s.phys k)).received + pixelBytes g o t) ∧
      ((u.record (s.phys k)).short = true ↔ (u.record (s.phys k)).received ≠ 2 * g.w * g.h) ∧
      (u.record (s.phys k)).atCompletion = some (s.focus.state, s.focus.d) ∧
      ((u.record (s.phys k)).focusStill = true ↔
        (s.record (s.phys k)).focusStill = true ∧ s.lens.focus.state = .idle ∧
          (s.lens.focus.stillSince -
            ((s.record (s.phys k)).tH - BitVec.ofNat 32 g.lat -
              BitVec.ofNat 32 (s.record (s.phys k)).tHdr)).toInt ≤ 0) ∧
      ((u.record (s.phys k)).ox = c.ox ∧ (u.record (s.phys k)).oy = c.oy ∧ (u.record (s.phys k)).m = c.m ∧
        (u.record (s.phys k)).motionPartial = c.partly) ∧
      (k < s.frames.map.length → u.entry k = { phys := s.phys k, ox := c.ox, oy := c.oy }) ∧
      u.steady = { s.steady with ox := c.ox, oy := c.oy, m := c.m } ∧
      u.status.latched.getLsbD LatchedBit.cropLimit.index =
        (s.status.latched.getLsbD LatchedBit.cropLimit.index || c.limited) ∧
      ((s.record (s.phys k)).bank = none →
        u.focus = (resolveUnmetered s).focus ∧ u.lens = (resolveUnmetered s).lens) ∧
      (∀ id, (s.record (s.phys k)).bank = some id →
        u.focus = s.focus ∧ u.lens = s.lens ∧ u.bank id.other = s.bank id.other ∧
        u.bank id =
          { accumulate g o t (s.bank id) with
            state :=
              if (s.bank id.other).state = .evaluating ∨ (s.bank id.other).state = .writing then .waiting
              else .evaluating
            copy := some { record := { u.record (s.phys k) with state := .complete }, owner := k } }) ∧
      ∃ v, u = reportCompletion (s.record (s.phys k)).number (s.phys k) v ∧ v.store = s.store ∧
        v.orders = s.orders ∧ v.record (s.phys k) = { u.record (s.phys k) with state := .complete }) ∧
  (∀ (s : State) (g : Geometry) (k o : Nat) (t : HostTransaction) (f : FrameRecord), 32 ≤ o →
    f = s.record (s.phys k) →
    (f.state = .empty → offerRawWrite g k o t s = (s, true)) ∧
    (f.state = .filling →
      ¬(o ≤ g.h * g.stride + 2 * g.w - 1 ∧ g.h * g.stride + 2 * g.w - 1 < o + t.len ∧
          t.mask.getD (g.h * g.stride + 2 * g.w - 1 - o) false = true) →
      ∀ n : Nat,
        n = (List.range t.len).countP (fun i =>
          decide (g.stride ≤ o + i ∧ (o + i) / g.stride ≤ g.h ∧ (o + i) % g.stride < 2 * g.w) && t.mask.getD i false) →
        ∃ u, offerRawWrite g k o t s = (u, true) ∧
          u.frames =
            { s.frames with
              table := s.frames.table.set (s.phys k) { f with received := min (2 ^ 32 - 1) (f.received + n) } } ∧
          (f.bank = none → u.stats = s.stats) ∧
          (∀ id, f.bank = some id → u.bank id = accumulate g o t (s.bank id) ∧ u.bank id.other = s.bank id.other) ∧
          u =
            { s with
              frames := u.frames, stats := { s.stats with bank0 := u.stats.bank0, bank1 := u.stats.bank1 } })) ∧
  ∀ (s : State) (g : Geometry) (f : FrameRecord) (t' ro : Nat) (ws we mid : Time), t' = min 2000000 f.tHdr →
    ro = min 2000000 f.readout → ws = f.tH - BitVec.ofNat 32 g.lat - BitVec.ofNat 32 t' →
    we = f.tH - BitVec.ofNat 32 g.lat + BitVec.ofNat 32 ro →
    mid = f.tH - BitVec.ofNat 32 g.lat + BitVec.ofInt 32 (((ro : Int) - t') / 2) →
    (s.steady.state = .off →
      cropResult s g f = { ox := 0, oy := 0, m := 0, partly := false, limited := false }) ∧
    (s.steady.state = .faulted →
      cropResult s g f = { ox := 0, oy := 0, m := 255, partly := false, limited := false }) ∧
    (s.steady.state = .active → s.steady.history = [] →
      cropResult s g f = { ox := 0, oy := 0, m := 255, partly := true, limited := false }) ∧
    ∀ (pre post before inside after : List GyroEntry) (e : GyroEntry) (x y hx lx hy ly : Int),
      s.steady.state = .active → s.steady.history = pre ++ e :: post →
      (∀ q ∈ pre, (e.time - mid).toInt.natAbs < (q.time - mid).toInt.natAbs) →
      (∀ q ∈ post, (e.time - mid).toInt.natAbs ≤ (q.time - mid).toInt.natAbs) →
      s.steady.history = before ++ inside ++ after →
      (∀ q ∈ before, (q.time - ws).toInt < 0 ∧ (q.time - we).toInt ≤ 0) →
      (∀ q ∈ inside, 0 ≤ (q.time - ws).toInt ∧ (q.time - we).toInt ≤ 0) →
      (∀ q ∈ after, 0 ≤ (q.time - ws).toInt ∧ 0 < (q.time - we).toInt) →
      ((before.getLast?.toList ++ inside ++ after.head?.toList).map GyroEntry.ax).max? = some hx →
      ((before.getLast?.toList ++ inside ++ after.head?.toList).map GyroEntry.ax).min? = some lx →
      ((before.getLast?.toList ++ inside ++ after.head?.toList).map GyroEntry.ay).max? = some hy →
      ((before.getLast?.toList ++ inside ++ after.head?.toList).map GyroEntry.ay).min? = some ly →
      x = -(roundDiv (e.ax * s.interp Knot.ppd16 f.zoomPos) 1024000) →
      y = -(roundDiv (e.ay * s.interp Knot.ppd16 f.zoomPos) 1024000) →
      cropResult s g f =
        { ox := 2 * (max (-(g.mx : Int)) (min g.mx x)).tdiv 2
          oy := 2 * (max (-(g.my : Int)) (min g.my y)).tdiv 2
          m := min 255 (roundDiv (((hx - lx) + (hy - ly)) * s.interp Knot.ppd16 f.zoomPos) 1024000).toNat
          partly :=
            decide ((∀ q ∈ s.steady.history, 0 < (q.time - ws).toInt) ∨
              ∀ q ∈ s.steady.history, (q.time - we).toInt < 0)
          limited := decide (x < -(g.mx : Int) ∨ g.mx < x ∨ y < -(g.my : Int) ∨ g.my < y) }

/-- A host write in the PICTURE window is forwarded only into a RESERVED or FILLING slot, which is FILLING after it with
its high-water mark at least at the write's end; otherwise it is dropped, PROTECT is latched and counted, and nothing
else changes. -/
def Obligations.PictureWriteNeedsALiveSlot : Prop :=
  ∀ (s : State) (j e : Nat),
    (∀ x, s.slot? j = some x → (x.state = .reserved ∨ x.state = .filling) →
      ∃ u, slotWrite j e s = (u, true) ∧ u.slot? j = some { x with state := .filling, high := max x.high e } ∧
        ∀ i, i ≠ j → u.slot? i = s.slot? i) ∧
    ((∀ x, s.slot? j = some x → x.state ≠ .reserved ∧ x.state ≠ .filling) →
      slotWrite j e s =
        ({ s with
            status :=
              { s.status with
                latched := s.status.latched ||| LatchedBit.protect.mask
                counters :=
                  { s.status.counters with
                    protectedWrite := min 65535 (s.status.counters.protectedWrite + 1) } } }, false))

/-- A host write of one whole order slot with a nonzero sequence byte copies its bytes into the shadow and posts the
slot: it joins the order queue, or with 16 orders queued gets the reply NO_ROOM with QUEUE_FULL latched and counted. -/
def Obligations.OrderSlotWritePosts : Prop :=
  ∀ (s : State) (i : Nat) (t : HostTransaction),
    i < 16 → s.orders.shadow.length = 1024 → t.len = 64 → t.data.length = 64 → t.mask = List.replicate 64 true →
    t.data.getD 60 0 ≠ 0#8 →
    (∀ j, (showOrderWrite (64 * i) t s).orders.shadow.getD j 0 =
      if 64 * i ≤ j ∧ j < 64 * i + 64 then t.data.getD (j - 64 * i) 0 else s.orders.shadow.getD j 0) ∧
    (s.orders.queue.length < 16 →
      (showOrderWrite (64 * i) t s).orders.queue = s.orders.queue ++ [{ slot := i, bytes := t.data }] ∧
      (showOrderWrite (64 * i) t s).orders.image = s.orders.image) ∧
    (16 ≤ s.orders.queue.length →
      (showOrderWrite (64 * i) t s).orders.queue = s.orders.queue ∧
      (showOrderWrite (64 * i) t s).orders.image =
        s.orders.image.set i
          (replyBytes { slot := i, bytes := t.data } (plainAnswer .noRoom) false false) ∧
      (showOrderWrite (64 * i) t s).status.latched = s.status.latched ||| LatchedBit.queueFull.mask ∧
      (showOrderWrite (64 * i) t s).status.counters.queueFull =
        min 65535 (s.status.counters.queueFull + 1))

/-- A completion with the tag in flight ends the transaction. A forwarded host transaction: the host receives its status,
and its data for a read that is OK, as the first completion of the command. A piece of the VIEW read: its data are added,
and when no piece is left the host receives all of them, or ERROR without data after a failed piece. After each of these
the port has its next turn. An own transaction that ends OK waits for its owner's row, and no turn is given before
(notes/assumptions/7.md, DEDUCED); one that failed is told to its owner. A completion with another tag, or with nothing in
flight, changes nothing. -/
def Obligations.CompletionEndsTheTransaction : Prop :=
  ∀ (s : State) (tag : BitVec 4) (st : Status) (data : List Byte), s.resetN = true →
    (∀ x t rest picture, s.port.flight = some x → x.tag = tag → x.kind = .host picture →
      s.port.inbound = t :: rest →
      ∃ u later, exec (.memoryCompletion tag st data) s = .next u ∧
        u.hostOut =
          s.hostOut ++
            { tag := t.tag, status := st, data := if x.dir = .read ∧ st = .ok then data else [] } :: later) ∧
    (∀ x v, s.port.flight = some x → x.tag = tag → x.kind = .piece → s.port.view = some v →
      (st = .ok → v.pieces ≠ [] →
        ∃ u, exec (.memoryCompletion tag st data) s = exec .arbiterTurn u ∧
          u.settled =
            { s with
              port := { s.port with flight := none, view := some { v with data := v.data ++ data } } }.settled) ∧
      (st = .error ∨ v.pieces = [] →
        ∀ t rest, s.port.inbound = t :: rest → (∀ y ∈ rest, isMalformed y = false) →
          ∃ u, exec (.memoryCompletion tag st data) s = exec .arbiterTurn u ∧
            u.settled =
              { s with
                hostOut :=
                  s.hostOut ++
                    [({ tag := t.tag, status := st, data := if st = Status.ok then v.data ++ data else [] } : HostCompletion)]
                port := { s.port with flight := none, view := none, inbound := rest } }.settled)) ∧
    (∀ x o, s.port.flight = some x → x.tag = tag → x.kind = .own o →
      (st = .ok →
        ∃ u, exec (.memoryCompletion tag st data) s = .next u ∧
          u.settled =
            { s with
              port :=
                { s.port with flight := none, told := s.port.told ++ [({ owner := o, data := data } : Told)] } }.settled) ∧
      (st = .error →
        ∃ u, exec (.memoryCompletion tag st data) s = exec .arbiterTurn u ∧ FailureTold s u o 0)) ∧
    ((∀ x, s.port.flight = some x → x.tag ≠ tag) → exec (.memoryCompletion tag st data) s = .next s)

/-- 100 µs after its issue a transaction is abandoned and MEM_TIMEOUT is latched. For a forwarded host transaction, and for
a piece of the VIEW read, the host receives ERROR without data, as the first completion of the command; an own transaction
is told to its owner as failed. The next turn follows. A timer row that comes early does nothing
(notes/assumptions/3.md, DESIGN CHOICE). -/
def Obligations.TimeoutAbandonsTheTransaction : Prop :=
  ∀ (s : State) (x : Flight), s.resetN = true → s.port.flight = some x →
    (100 ≤ (s.partTime - x.issued).toNat →
      (∀ t rest, ((∃ picture, x.kind = .host picture) ∨ (x.kind = .piece ∧ ∃ v, s.port.view = some v)) →
        s.port.inbound = t :: rest →
        ∃ u later, exec .memoryTimeout s = .next u ∧
          u.status.latched.getLsbD LatchedBit.memTimeout.index = true ∧
          u.hostOut = s.hostOut ++ { tag := t.tag, status := .error, data := [] } :: later) ∧
      (∀ t rest, x.kind = .piece → (∃ v, s.port.view = some v) → s.port.inbound = t :: rest →
        (∀ y ∈ rest, isMalformed y = false) →
        ∃ u, exec .memoryTimeout s = exec .arbiterTurn u ∧
          u.settled =
            { s with
              hostOut := s.hostOut ++ [({ tag := t.tag, status := .error, data := [] } : HostCompletion)]
              port := { s.port with flight := none, view := none, inbound := rest }
              status := { s.status with latched := s.status.latched ||| LatchedBit.memTimeout.mask } }.settled) ∧
      ∀ o, x.kind = .own o →
        ∃ u, exec .memoryTimeout s = exec .arbiterTurn u ∧ FailureTold s u o LatchedBit.memTimeout.mask) ∧
    ((s.partTime - x.issued).toNat < 100 → exec .memoryTimeout s = .next s)

/-! ### Statistics and exposure -/

/-- One pixel (x, y) written to a bank with both bytes enabled. A green site of raw value v adds its level to the sum and 1
to the count of its zone, 1 to bin v div 64 and, at WHITE or above, 1 to the clip count, all saturating; the cored
difference to the carried site of the same cell, line and column x − 2 goes into the cell's figure; and the site becomes
the line carry. Another site, or a pixel with a byte disabled, changes nothing. -/
def Obligations.PixelFeedsTheBank : Prop :=
  ∀ (g : Geometry) (t : HostTransaction) (b : Bank) (x y v z o : Nat), x < g.w → y < g.h → 2 * g.w ≤ g.stride →
    g.stride % 2 = 0 → t.len = 2 → v = readLe t.data 0 2 % 4096 → z = 8 * (y * 8 / g.h) + x * 8 / g.w →
    o = (y + 1) * g.stride + 2 * x →
    ((x + y + b.settings.gp) % 2 = 0 ∨ t.mask.getD 0 false = false ∨ t.mask.getD 1 false = false →
      accumulate g o t b = b) ∧
    ((x + y + b.settings.gp) % 2 = 1 → t.mask.getD 0 false = true → t.mask.getD 1 false = true →
      accumulate g o t b =
        { b with
          sums := b.sums.set z (min (2 ^ 48 - 1) (b.sums.getD z 0 + (v - b.settings.blk)))
          counts := b.counts.set z (min (2 ^ 32 - 1) (b.counts.getD z 0 + 1))
          bins := b.bins.set (v / 64) (min (2 ^ 32 - 1) (b.bins.getD (v / 64) 0 + 1))
          clip := if b.settings.white ≤ v then min (2 ^ 32 - 1) (b.clip + 1) else b.clip
          cells := (accumulate g o t b).cells
          carry := some { y := y, x := x, v := v } } ∧
      ((∀ q, b.carry = some q → q.y = y → q.x + 2 = x → cellOf b.settings q.x y ≠ cellOf b.settings x y) →
        (accumulate g o t b).cells = b.cells) ∧
      ∀ q k, b.carry = some q → q.y = y → q.x + 2 = x → cellOf b.settings x y = some k →
        cellOf b.settings q.x y = some k →
        (accumulate g o t b).cells =
          b.cells.set k
            (min (2 ^ 32 - 1) (b.cells.getD k 0 + (((v : Int) - q.v).natAbs - b.settings.core))))

/-- At evaluation-done of a metered frame whose header is trusted, unlocked and not stale, the plan is split from
N = lg(t_hdr) + G_hdr − A_f + move + A_now between S_min and S_max_eff, and published with the frame's number; UNDER or
OVER is live and latched at an end of the range. -/
def Obligations.EvaluationPublishesThePlan : Prop :=
  ∀ (s : State) (id : BankId) (copy : RecordCopy) (level : Nat), Evaluating s id copy →
    meanLevel s.exposure.weights (s.bank id) = some level →
    (s.bank id).stale = false → s.exposure.lock = false → copy.record.badExposure = false →
    ∀ (m : Metering) (e move n : Int) (top : Nat),
      m = s.exposure.settings →
      e = (if (s.bank id).counts.sum < 64 * (s.bank id).clip then
            min ((lg m.tgt : Int) + m.c - lg level) (-8) else (lg m.tgt : Int) + m.c - lg level) →
      move = moveOf m.db e →
      n = (lg copy.record.tHdr : Int) + copy.record.gHdr - copy.record.aF + move +
            s.interp Knot.a s.lens.zoom.position →
      top = max m.sMin (min m.sMaxCfg
            (s.interp Knot.sLim s.lens.zoom.position + if s.steady.state = .active then m.boost else 0)) →
      ∃ t, exec .evaluationDone s = .next t ∧ t.exposure.converged = decide (e.natAbs ≤ m.db) ∧
        t.exposure.settings = m ∧ t.exposure.weights = s.exposure.weights ∧ t.exposure.lock = s.exposure.lock ∧
        t.exposure.plan.origin = copy.record.number ∧
        (n < m.sMin → t.exposure.plan.code = some m.sMin ∧ t.exposure.plan.t = ex m.sMin ∧ t.exposure.plan.gain = 0 ∧
          t.exposure.underLive = false ∧ t.exposure.overLive = true ∧
          t.status.latched.getLsbD LatchedBit.overBit.index = true) ∧
        (m.sMin ≤ n → n ≤ top → t.exposure.plan.code = some n.toNat ∧ t.exposure.plan.t = ex n.toNat ∧
          t.exposure.plan.gain = 0 ∧ t.exposure.underLive = false ∧ t.exposure.overLive = false) ∧
        (top < n → n - top ≤ m.gMax → t.exposure.plan.code = some top ∧ t.exposure.plan.t = ex top ∧
          t.exposure.plan.gain = (n - top).toNat ∧ t.exposure.underLive = false ∧ t.exposure.overLive = false) ∧
        (m.gMax < n - top → top < n → t.exposure.plan.code = some top ∧ t.exposure.plan.t = ex top ∧
          t.exposure.plan.gain = m.gMax ∧ t.exposure.underLive = true ∧ t.exposure.overLive = false ∧
          t.status.latched.getLsbD LatchedBit.underBit.index = true)

/-- An evaluation with no data, of a stale bank, under lock, or of a BAD_EXPOSURE frame leaves the plan and the UNDER and
OVER live conditions; without data CONVERGED is kept and NO_DATA latched; of a stale bank CONVERGED is kept. -/
def Obligations.EvaluationHoldsThePlan : Prop :=
  ∀ (s : State) (id : BankId) (copy : RecordCopy), Evaluating s id copy →
    (meanLevel s.exposure.weights (s.bank id) = none ∨ (s.bank id).stale = true ∨ s.exposure.lock = true ∨
      copy.record.badExposure = true) →
    ∃ t, exec .evaluationDone s = .next t ∧ t.exposure.plan = s.exposure.plan ∧
      t.exposure.underLive = s.exposure.underLive ∧ t.exposure.overLive = s.exposure.overLive ∧
      (meanLevel s.exposure.weights (s.bank id) = none →
        t.exposure = s.exposure ∧ t.status.latched.getLsbD LatchedBit.noData.index = true) ∧
      ((s.bank id).stale = true → t.exposure = s.exposure)

/-- At evaluation-done the bank becomes WRITING and the next ring entry and sequence number are taken, modulo 16 and
65,536; the 512-byte record is held with its first half to be written; the other bank, the newest result and the frame
records' states are unchanged. -/
def Obligations.EvaluationTakesARingEntry : Prop :=
  ∀ (s : State) (id : BankId) (copy : RecordCopy), Evaluating s id copy →
    ∃ t w, exec .evaluationDone s = .next t ∧ (t.bank id).state = .writing ∧
      t.bank id.other = s.bank id.other ∧ t.stats.nextEntry = (s.stats.nextEntry + 1) % 16 ∧
      t.stats.seq = (s.stats.seq + 1) % 65536 ∧ t.stats.newest = s.stats.newest ∧ t.stats.writer = some w ∧
      w.bank = id ∧ w.entry = s.stats.nextEntry ∧ w.secondHalf = false ∧ w.bytes.length = 512 ∧
      readLe w.bytes 0 2 = t.stats.seq ∧ t.lens.zoom = s.lens.zoom ∧ t.steady = s.steady ∧
      t.frames.map = s.frames.map ∧ t.frames.free = s.frames.free ∧
      ∀ b, (t.record b).state = (s.record b).state

/-- The first half written, the second is requested. The second written, the entry is the newest result, FRAME_DONE is
latched, the bank is FREE and a WAITING bank begins evaluation. -/
def Obligations.ResultWriteDonePublishes : Prop :=
  ∀ (s : State) (w : ResultWriter) (r : Told), s.resetN = true → s.stats.writer = some w → s.port.told = [r] →
    r.owner = .statistics →
    ∃ t, exec .resultWriteDone s = .next t ∧ t.port.told = [] ∧
      (w.secondHalf = false →
        t.stats = { s.stats with writer := some { w with secondHalf := true } } ∧
        ∃ x ∈ t.port.own, x.owner = .statistics ∧ x.addr = s.windows.control + 0x2000 + 512 * w.entry + 256 ∧
          x.data = w.bytes.drop 256) ∧
      (w.secondHalf = true →
        t.stats.newest = some w.entry ∧ t.stats.writer = none ∧ (t.bank w.bank).state = .free ∧
        t.status.latched = s.status.latched ||| LatchedBit.frameDone.mask ∧
        ((s.bank w.bank.other).state = .waiting →
          t.bank w.bank.other = { s.bank w.bank.other with state := .evaluating }) ∧
        ((s.bank w.bank.other).state ≠ .waiting → t.bank w.bank.other = s.bank w.bank.other)) ∧
      t.exposure = s.exposure ∧ t.focus = s.focus ∧ t.lens = s.lens ∧ t.frames = s.frames

/-! ### Orders' replies, the status block, the Store's own writes

An owner acts on the OK end of its own transaction when the row that names it runs (notes/assumptions/7.md, DEDUCED). -/

/-- A completed reply write latches REPLY_READY and leaves every other part of the machine. A completed status rewrite
publishes its copy, and ATTN is asserted exactly when some latched bit of the copy is selected by the copy's mask. A
completed mirror write changes nothing but the Store's request, so the next one by preference follows. -/
def Obligations.ReplyStatusAndMirrorWritesEnd : Prop :=
  ∀ (s : State) (r : Told), s.resetN = true → s.port.told = [r] →
    (r.owner = .orderUnit →
      ∃ t, exec .replyWriteDone s = .next t ∧
        t.settled =
          { s with
            port := { s.port with told := [] }
            status := { s.status with latched := s.status.latched ||| LatchedBit.replyReady.mask } }.settled) ∧
    (∀ c : BlockCopy, r.owner = .status → s.status.writing = some c →
      ∃ t, exec .statusRewriteDone s = .next t ∧
        (t.attn = true ↔ ∃ i < 28, c.content.latched.getLsbD i = true ∧ c.content.mask.getLsbD i = true) ∧
        t.settled =
          { s with
            port := { s.port with told := [] }
            attn := t.attn
            status := { s.status with published := some c } }.settled) ∧
    ∀ q : StoreRequest, r.owner = .store → s.store.request = some q →
      (∃ e, q = .shotMirror e ∨ q = .slotMirror e) →
      ∃ t, exec .mirrorWriteDone s = .next t ∧
        t.settled = { s with port := { s.port with told := [] } }.settled ∧
        (∀ e, t.store.request = some (.slotMirror e) → dirtyIndices s.store.shotDirty = []) ∧
        (t.store.request = some .piece →
          dirtyIndices s.store.shotDirty = [] ∧ dirtyIndices s.store.slotDirty = [])

/-- A completed read-back piece is fed into the CRC register of the close at the head of the queue, and the next piece
follows while bytes remain; after the last piece the 64-byte trailer stands: marker, shot id, the snapshot's values, ppd16
and length in the layout of R205, zeros up to byte 60, and the CRC with the final XOR. A completed trailer write that leaves
bytes to write goes on; the last one sets the check value, check-valid and CLOSED, and the slot leaves the close queue. -/
def Obligations.CloseWorkEndsWithTheSlotClosed : Prop :=
  (∀ (s : State) (r : Told) (w : CloseWork) (rest : List CloseWork), s.resetN = true → s.port.told = [r] →
    r.owner = .store → s.store.closeQueue = w :: rest →
    (s.store.request = some .piece → w.trailer = none →
      ∃ t w', exec .readBackPieceDone s = .next t ∧ t.store.closeQueue = w' :: rest ∧ w'.piece = w.piece + 1 ∧
        t.store.slots = s.store.slots ∧ t.store.shots = s.store.shots ∧ t.frames = s.frames ∧
        (256 * (w.piece + 1) < w.length → w'.crc = r.data.foldl crc32Byte w.crc ∧ w'.trailer = none) ∧
        (w.length ≤ 256 * (w.piece + 1) →
          w'.crc = (trailerHead w).foldl crc32Byte (r.data.foldl crc32Byte w.crc) ∧
          w'.trailer = some (trailerHead w ++ le (w'.crc ^^^ 0xFFFFFFFF#32).toNat 4))) ∧
    ∀ n : Nat, s.store.request = some (.trailer n) →
      ∃ t, exec .trailerWriteDone s = .next t ∧ t.store.shots = s.store.shots ∧ t.frames = s.frames ∧
        (w.written + n < 64 →
          t.store.closeQueue = { w with written := w.written + n } :: rest ∧ t.store.slots = s.store.slots) ∧
        (64 ≤ w.written + n →
          t.store.closeQueue = rest ∧ (∀ j, j ≠ w.slot → t.slot? j = s.slot? j) ∧
          ∀ x, s.slot? w.slot = some x →
            t.slot? w.slot =
              some { x with check := w.crc ^^^ 0xFFFFFFFF#32, checkValid := true, state := .closed })) ∧
  ∀ (w : CloseWork) (p : Snapshot) (focus : Byte), p = w.snapshot →
    focus = (match p.focusAt with
      | .idle => 0#8
      | .searching _ => 1#8
      | .locked => 2#8
      | .tracking => 3#8
      | .failed _ => 4#8) →
    trailerHead w =
      [0x52#8, 0x54#8, 0x57#8, 0x4A#8] ++ [BitVec.ofNat 8 w.id, focus, BitVec.ofNat 8 p.gHdr, BitVec.ofNat 8 p.aF] ++
        le p.number 4 ++ le p.tHdr 4 ++ le p.zoomPos 2 ++ le w.ppd16 2 ++ le p.dAt 2 ++ le (p.ox % 65536).toNat 2 ++
        le (p.oy % 65536).toNat 2 ++ [BitVec.ofNat 8 p.m, 0#8] ++ le w.length 4 ++ List.replicate 28 0#8

/-! ### Lens link and Lens drive -/

/-- With no exchange in progress, the expired round timer starts a round: its period from the settings, its start now,
the next sequence number, and a SENSE request to target 0 with LSEL_N low. In CONFIG, and before the timer has expired
(notes/assumptions/3.md, DESIGN CHOICE), no round starts. -/
def Obligations.RoundStartSendsSense : Prop :=
  ∀ s : State, s.resetN = true → s.link.exchange = none →
    (s.partState ≠ .config → s.link.period ≤ (s.partTime - s.link.roundStart).toNat →
      ∃ t, exec .roundStart s = .next t ∧
        t.settled =
          { s with
            link :=
              { s.link with
                roundStart := s.partTime, period := s.lens.settings.period, seq := s.link.seq + 1, turn := .sensing
                lselN := false, lclk := t.link.lclk, lmosi := t.link.lmosi
                exchange := some
                  { target := .sensing, request := .sense, state := .sending, seq := s.link.seq + 1
                    bytes := [0x08#8, 0x00#8, s.link.seq + 1, headerCheck 0x08#8 0x00#8 (s.link.seq + 1)]
                    pollBase := s.partTime, headerIn := false } } }.settled) ∧
    (s.partState = .config ∨ (s.partTime - s.link.roundStart).toNat < s.link.period →
      ∃ t, exec .roundStart s = .next t ∧ t.settled = s.settled)

/-- A MOVE still unanswered when the next round begins is missing: counted in the missing-reply counter and the target's
failure count, the motor's position uncertain and an IDLE or SETTLING motor MOVING, its position and target kept. The
third failure in a row makes the motor FAULTED for LINK with LENS_FAULT latched. The corrected and discarded counts stay: a
correction of a header that was in is counted already (notes/assumptions/44.md, DEDUCED). -/
def Obligations.UnansweredMoveIsMissing : Prop :=
  ∀ (s : State) (x : Exchange) (id : MotorId) (n : Int) (rate : Nat), s.resetN = true → s.partState = .running →
    s.link.exchange = some x → x.target.motor = some id → x.request = .move n rate →
    (s.motor id).state ≠ .homing → s.link.period ≤ (s.partTime - s.link.roundStart).toNat →
    ∃ t, exec .roundStart s = .next t ∧
      t.status.counters.missingReply = min 65535 (s.status.counters.missingReply + 1) ∧
      t.status.counters.correctedHeader = s.status.counters.correctedHeader ∧
      t.status.counters.discardedReply = s.status.counters.discardedReply ∧
      t.link.fails x.target = s.link.fails x.target + 1 ∧ (t.motor id).uncertain = true ∧
      (t.motor id).position = (s.motor id).position ∧
      (s.link.fails x.target ≠ 2 → (t.motor id).target = (s.motor id).target ∧
        (((s.motor id).state = .idle ∨ (s.motor id).state = .settling) → (t.motor id).state = .moving)) ∧
      (s.link.fails x.target = 2 → (t.motor id).state = .faulted ∧ (t.motor id).fault = .link ∧
        (t.motor id).target = (s.motor id).position ∧
        t.status.latched.getLsbD LatchedBit.lensFault.index = true)

/-- When a request has gone out, LSEL_N rises and the exchange waits. Eight microseconds later a poll that reads 0xFF
leaves it waiting, and one that reads another byte begins READING with that byte as header byte 0 and LSEL_N low; the other
three come in after it (notes/assumptions/44.md, DEDUCED). -/
def Obligations.RequestSentThenPolled : Prop :=
  ∀ (s : State) (x : Exchange) (h : ReplyHeader), s.resetN = true → s.link.exchange = some x →
    (x.state = .sending →
      ∃ t, exec .lensRequestSent s = .next t ∧
        t.settled =
          { s with
            link :=
              { s.link with
                lselN := true, exchange := some { x with state := .waiting, pollBase := s.partTime } } }.settled) ∧
    (x.state = .waiting → 8 ≤ (s.partTime - x.pollBase).toNat →
      ∃ t, exec (.lensPoll h) s = .next t ∧
        t.settled =
          { s with
            link :=
              { s.link with
                lselN := decide (h.b0 = 0xFF#8)
                exchange := some
                  { x with pollBase := s.partTime, state := if h.b0 = 0xFF#8 then .waiting else .reading h } } }.settled)

/-- A reply that fails its checks is discarded: the discarded-reply and missing-reply counters grow, and the
corrected-header counter if its header was corrected and is not counted yet (notes/assumptions/44.md, DEDUCED). A SENSE:
target 0's failure count grows, the supply monitor is unchanged, and the Steadying unit holds the last rates, or at the
third failure is FAULTED; with target 0 faulted already the count and the mark stay, and the unit takes a faulted
sample. A MOVE: the position is uncertain, an IDLE or SETTLING motor is MOVING, and the travel of a HOMING one grows by
the steps requested (uncertain too, and no limit tested: notes/assumptions/41.md and notes/assumptions/17.md, DEDUCED;
up to 2^32 − 1: notes/assumptions/48.md, DESIGN CHOICE). A HOME leaves its motor as it is. The third failure of a motor
target makes the motor FAULTED for LINK with its target and aim at its position (its phase DIRECT:
notes/assumptions/20.md, DEDUCED), and ends a search on the focus motor. Then the round goes on with its next turn (the
rate of a homing MOVE: notes/assumptions/18.md, DEDUCED). -/
def Obligations.DiscardedReplyIsMissing : Prop :=
  ∀ (s : State) (x : Exchange) (h : ReplyHeader) (line : List Byte), s.resetN = true →
    s.link.exchange = some x → x.state = .reading h → judgeReply x h line = none →
    ∃ t, exec (.replyDiscarded line) s = .next t ∧ RoundGoesOn s t ∧
      t.status.counters.discardedReply = min 65535 (s.status.counters.discardedReply + 1) ∧
      t.status.counters.missingReply = min 65535 (s.status.counters.missingReply + 1) ∧
      t.status.counters.correctedHeader =
        (if x.headerIn = false ∧ headerCorrected h = true then min 65535 (s.status.counters.correctedHeader + 1)
         else s.status.counters.correctedHeader) ∧
      t.lens.supply = s.lens.supply ∧ t.exposure = s.exposure ∧ t.stats = s.stats ∧ t.hostOut = s.hostOut ∧
      (x.target = .sensing → t.lens = s.lens ∧ t.focus = s.focus ∧
        (s.link.sensingFaulted = false →
          t.link.failSensing = s.link.failSensing + 1 ∧ t.steady.quietRun = 0 ∧ t.steady.quiet = false ∧
          (s.link.failSensing ≠ 2 → t.link.sensingFaulted = false ∧ t.steady.state = s.steady.state ∧
            t.steady.lastRx = s.steady.lastRx ∧ t.steady.lastRy = s.steady.lastRy ∧
            t.status.latched.getLsbD LatchedBit.gyroHeld.index = true) ∧
          (s.link.failSensing = 2 → t.link.sensingFaulted = true ∧ t.steady.state = .faulted ∧
            t.steady.lastRx = 0 ∧ t.steady.lastRy = 0 ∧
            (s.steady.state ≠ .faulted → t.status.latched.getLsbD LatchedBit.gyroFault.index = true))) ∧
        (s.link.sensingFaulted = true →
          t.link.failSensing = s.link.failSensing ∧ t.link.sensingFaulted = true ∧
          t.steady = (faultedSample s.link.roundStart s).steady)) ∧
      ∀ (id : MotorId) (m u : Motor), x.target.motor = some id → m = s.motor id →
        u = (match x.request with
          | .move n _ =>
            { m with
              uncertain := true
              travel := if m.state = .homing then min (2 ^ 32 - 1) (m.travel + n.natAbs) else m.travel
              state := if m.state = .idle ∨ m.state = .settling then .moving else m.state }
          | _ => m) →
        t.steady = s.steady ∧ t.link.fails x.target = s.link.fails x.target + 1 ∧
        (s.link.fails x.target ≠ 2 →
          t.motor id = u ∧ t.focus = s.focus ∧ ∀ j, j ≠ id → t.motor j = s.motor j) ∧
        (s.link.fails x.target = 2 →
          t.motor id =
            { u with
              state := .faulted, fault := .link, target := m.position, aim := m.position, overshoot := false
              zoomToPending := false } ∧
          t.status.latched.getLsbD LatchedBit.lensFault.index = true ∧
          (m.state ≠ .homing → ∀ j, j ≠ id → t.motor j = s.motor j) ∧
          (id = .focus → s.focus.state.isSearching = true → t.focus.state = .failed .lens ∧
            t.status.latched.getLsbD LatchedBit.focusFailed.index = true))

/-- An accepted SENSED reply: V, I and P = V·I div 1000 are the last values, E gains P·T div 1000 modulo 2^32 with the
rollovers counted, the sample counter grows, the peaks rise; over-current and LENS_LOW begin and end at their limits and
latch their bits; the stall count grows while I is above I_stall with a motor MOVING or HOMING, and else is 0. At 3 it
is 0 again, STALL is latched, a MOVING motor is STALLED where it stands (its phase DIRECT: notes/assumptions/20.md,
DEDUCED), a HOMING one FAULTED for NO_HOME with LENS_FAULT, and a search on such a focus motor ends for LENS; before
that the motors are left alone. The sensing failure count is 0; the Steadying unit takes the rates with its axis signs.
With target 0 faulted the Lens drive gets nothing, count and mark stay, and the Steadying unit takes a faulted sample. A
corrected header is counted once (notes/assumptions/44.md, DEDUCED), and the round goes on with the focus and zoom turns
(the rate of a homing MOVE: notes/assumptions/18.md, DEDUCED). -/
def Obligations.SensedUpdatesSupplyAndRates : Prop :=
  (∀ (s : State) (x : Exchange) (h : ReplyHeader) (line pl : List Byte), s.resetN = true → s.link.exchange = some x →
    x.target = .sensing → x.request = .sense → x.state = .reading h → judgeReply x h line = some pl →
    ∃ t, exec (.sensed line) s = .next t ∧ RoundGoesOn s t ∧
      t.status.counters.correctedHeader =
        (if x.headerIn = false ∧ headerCorrected h = true then min 65535 (s.status.counters.correctedHeader + 1)
         else s.status.counters.correctedHeader) ∧
      t.status.counters.missingReply = s.status.counters.missingReply ∧
      (s.link.sensingFaulted = true →
        t.lens = s.lens ∧ t.focus = s.focus ∧ t.link.failSensing = s.link.failSensing ∧
        t.link.sensingFaulted = true ∧ t.steady = (faultedSample s.link.roundStart s).steady)) ∧
  ∀ (s : State) (x : Exchange) (h : ReplyHeader) (line pl : List Byte) (v i p : Nat), s.resetN = true →
    s.link.exchange = some x → x.target = .sensing → x.request = .sense → x.state = .reading h →
    s.link.sensingFaulted = false → judgeReply x h line = some pl →
    v = readBe16 pl 4 → i = readBe16 pl 6 → p = v * i / 1000 →
    ∃ t, exec (.sensed line) s = .next t ∧ t.lens.supply.lastV = v ∧ t.lens.supply.lastI = i ∧
      t.lens.supply.lastP = p ∧
      t.lens.supply.energy =
        (if 2 ^ 32 ≤ s.lens.supply.energy + p * s.link.period / 1000
         then s.lens.supply.energy + p * s.link.period / 1000 - 2 ^ 32
         else s.lens.supply.energy + p * s.link.period / 1000) ∧
      t.lens.supply.rollover =
        (if 2 ^ 32 ≤ s.lens.supply.energy + p * s.link.period / 1000 then (s.lens.supply.rollover + 1) % 65536
         else s.lens.supply.rollover) ∧
      t.lens.supply.samples = (s.lens.supply.samples + 1) % 2 ^ 32 ∧
      t.lens.supply.peakI = max s.lens.supply.peakI i ∧ t.lens.supply.peakP = max s.lens.supply.peakP p ∧
      (t.lens.supply.overCurrent = true ↔
        (s.lens.supply.overCurrent = false ∧ s.lens.supply.iWarn < i) ∨
          (s.lens.supply.overCurrent = true ∧ ¬i + s.lens.supply.iHyst < s.lens.supply.iWarn)) ∧
      (s.lens.supply.overCurrent = false → s.lens.supply.iWarn < i →
        t.status.latched.getLsbD LatchedBit.overCurrent.index = true) ∧
      (t.lens.supply.lensLow = true ↔
        (s.lens.supply.lensLow = false ∧ v < s.lens.supply.vLow) ∨
          (s.lens.supply.lensLow = true ∧ ¬s.lens.supply.vLow + s.lens.supply.vHyst < v)) ∧
      (s.lens.supply.lensLow = false → v < s.lens.supply.vLow →
        t.status.latched.getLsbD LatchedBit.lensLow.index = true) ∧
      (∀ high : Prop,
        (high ↔ s.lens.supply.iStall < i ∧ ∃ id, (s.motor id).state = .moving ∨ (s.motor id).state = .homing) →
        (¬high → t.lens.supply.stallCount = 0) ∧
        (high → s.lens.supply.stallCount ≠ 2 → t.lens.supply.stallCount = s.lens.supply.stallCount + 1) ∧
        (¬high ∨ s.lens.supply.stallCount ≠ 2 →
          t.lens.zoom = s.lens.zoom ∧ t.lens.focus = s.lens.focus ∧ t.focus = s.focus) ∧
        (high → s.lens.supply.stallCount = 2 →
          t.lens.supply.stallCount = 0 ∧ t.status.latched.getLsbD LatchedBit.stall.index = true ∧
          (∀ id m, m = s.motor id →
            (m.state = .moving →
              t.motor id =
                { m with state := .stalled, target := m.position, aim := m.position, overshoot := false,
                         zoomToPending := false }) ∧
            (m.state = .homing →
              t.motor id = { m with state := .faulted, fault := .noHome, zoomToPending := false } ∧
              t.status.latched.getLsbD LatchedBit.lensFault.index = true) ∧
            (m.state ≠ .moving → (∀ j, (s.motor j).state ≠ .homing) →
              t.motor id = { m with zoomToPending := false })) ∧
          (s.lens.focus.state = .moving ∨ s.lens.focus.state = .homing → s.focus.state.isSearching = true →
            t.focus.state = .failed .lens))) ∧
      t.link.failSensing = 0 ∧
      t.steady.lastRx = (if s.steady.settings.negX then -(signedOf 16 (readBe16 pl 0)) else signedOf 16 (readBe16 pl 0)) ∧
      t.steady.lastRy = (if s.steady.settings.negY then -(signedOf 16 (readBe16 pl 2)) else signedOf 16 (readBe16 pl 2)) ∧
      t.exposure = s.exposure ∧ t.stats = s.stats ∧ t.orders.queue = s.orders.queue ∧ t.hostOut = s.hostOut

/-- A sample makes a history entry, the newest 128 kept. With the state OFF or ACTIVE, an accepted one takes the rates
with their signs, lengthens or ends the quiet run, judges by it and QN whether quiet holds, and in ACTIVE makes each
angle A + r − floor(A / 2^k) within ±8,388,607, with k = KQ while quiet holds and K otherwise; in OFF the angles stay. A
missing one repeats the last rates with k = K, ends the quiet run and quiet, latches GYRO_HELD and is counted. A faulted
sample's entry has rates and angles 0; the last rates become 0, and the quiet run and quiet end. -/
def Obligations.SamplesTurnTheAngles : Prop :=
  (∀ (s : State) (time : Time) (u : Steady), u = s.steady →
    faultedSample time s =
      { s with
        steady :=
          { u with
            lastRx := 0, lastRy := 0, quietRun := 0, quiet := false
            history :=
              u.history.drop (u.history.length - 127) ++ [{ time := time, rx := 0, ry := 0, ax := 0, ay := 0 }] } }) ∧
  ∀ (s : State) (time : Time) (rateX rateY : Int) (u : Steady) (turn : Int → Int → Nat → Int), u = s.steady →
    u.state ≠ .faulted →
    (∀ a r k,
      turn a r k = if u.state = .active then max (-8388607) (min 8388607 (a + r - a / 2 ^ k)) else a) →
    (∀ (rx ry : Int) (run k : Nat), rx = (if u.settings.negX then -rateX else rateX) →
      ry = (if u.settings.negY then -rateY else rateY) →
      run = (if rx.natAbs ≤ u.settings.qr ∧ ry.natAbs ≤ u.settings.qr then min 255 (u.quietRun + 1) else 0) →
      k = (if 0 < u.settings.qn ∧ u.settings.qn ≤ run then u.settings.kq else u.settings.k) →
      acceptedSample time rateX rateY s =
        { s with
          steady :=
            { u with
              ax := turn u.ax rx k, ay := turn u.ay ry k, lastRx := rx, lastRy := ry, quietRun := run
              quiet := decide (0 < u.settings.qn ∧ u.settings.qn ≤ run)
              history :=
                u.history.drop (u.history.length - 127) ++
                  [{ time := time, rx := rx, ry := ry, ax := turn u.ax rx k, ay := turn u.ay ry k }] } }) ∧
    ∀ x y : Int, x = turn u.ax u.lastRx u.settings.k → y = turn u.ay u.lastRy u.settings.k →
      missingSample time s =
        { s with
          steady :=
            { u with
              ax := x, ay := y, quietRun := 0, quiet := false
              history :=
                u.history.drop (u.history.length - 127) ++
                  [{ time := time, rx := u.lastRx, ry := u.lastRy, ax := x, ay := y }] }
          status :=
            { s.status with
              latched := s.status.latched ||| LatchedBit.gyroHeld.mask
              counters := { s.status.counters with heldSample := min 65535 (s.status.counters.heldSample + 1) } } }

/-- An accepted MOVED reply. For a MOVING motor, with a position in range: the confirmed position, last steps and a
clear uncertain flag; at the aim below its target the aim becomes the target; at the target the motor settles, at once
to IDLE when the settle time is 0; elsewhere it stays MOVING. An IDLE or SETTLING motor away from its target is MOVING,
a STALLED one has its target where it stands (aim and phase too: notes/assumptions/20.md, DEDUCED). When the zoom's
position changes, the focus motor is given track(position, d), a LOCKED focus is TRACKING and a search CANCELLED; a
focus motor that arrives takes its search on. For a HOMING motor the travel grows (up to 2^32 − 1:
notes/assumptions/48.md, DESIGN CHOICE), the reference flag makes reference seen, and without it a travel at the limit
makes the motor FAULTED for NO_HOME. For any other motor a position out of range stops it at the end of its range,
FAULTED for RANGE (aim and phase: notes/assumptions/20.md, DEDUCED); a zoom position changed so is a change like any
other (notes/assumptions/43.md, DEDUCED), and a search on a focus motor stopped so ends for LENS. An UNHOMED motor takes
the reply as a FAULTED one does (notes/assumptions/16.md, DEDUCED). In PARKING the lens may then be parked; the round
goes on with its next turn (the rate of a homing MOVE: notes/assumptions/18.md, DEDUCED). -/
def Obligations.MovedUpdatesTheMotor : Prop :=
  ∀ (s : State) (x : Exchange) (id : MotorId) (n : Int) (rate : Nat) (h : ReplyHeader) (line pl : List Byte) (m : Motor)
      (steps at' : Int), s.resetN = true → s.link.exchange = some x → x.target.motor = some id →
    x.request = .move n rate → x.state = .reading h → judgeReply x h line = some pl → m = s.motor id →
    steps = signedOf 16 (readBe16 pl 0) → at' = signedOf 16 (readBe16 pl 2) →
    ∃ t, exec (.moved line) s = .next t ∧ RoundGoesOn s t ∧ t.link.fails x.target = 0 ∧ (t.motor id).lastSteps = steps ∧
      t.exposure = s.exposure ∧ t.stats = s.stats ∧ t.steady = s.steady ∧ t.hostOut = s.hostOut ∧
      t.frames.table = s.frames.table ∧
      (m.state ≠ .homing → LensParks s t) ∧
      (∀ (pos : Nat) (u : Motor), m.state ≠ .homing → at' = (pos : Int) → pos ≤ s.topPosition id →
        u = { m with lastSteps := steps, position := pos, uncertain := false } →
        (m.state = .idle ∨ m.state = .settling →
          t.motor id = if pos = m.target then u else { u with state := .moving }) ∧
        (m.state = .stalled → t.motor id = { u with target := pos, aim := pos, overshoot := false }) ∧
        (m.state = .unhomed ∨ m.state = .faulted → t.motor id = u) ∧
        (id = .focus → t.lens.zoom = s.lens.zoom ∧ SearchArrives s t)) ∧
      (∀ pos : Nat, m.state ≠ .homing → id = .zoom → (pos : Int) = max 0 (min (s.topPosition id : Int) at') →
        (pos = m.position → t.lens.focus = s.lens.focus ∧ t.focus = s.focus) ∧
        (pos ≠ m.position →
          t.lens.focus = (giveTarget .focus false (s.track pos s.focus.d) s).lens.focus ∧
          (s.focus.state = .locked → t.focus = { s.focus with state := .tracking }) ∧
          (s.focus.state.isSearching = true → t.focus = { s.focus with state := .failed .cancelled } ∧
            t.status.latched.getLsbD LatchedBit.focusFailed.index = true) ∧
          (s.focus.state ≠ .locked → s.focus.state.isSearching = false → t.focus = s.focus))) ∧
      (∀ pos : Nat, m.state = .moving → at' = (pos : Int) → pos ≤ s.topPosition id →
        (t.motor id).position = pos ∧ (t.motor id).uncertain = false ∧ (t.motor id).target = m.target ∧
        (pos ≠ m.aim → (t.motor id).state = .moving ∧ (t.motor id).aim = m.aim) ∧
        (pos = m.aim → m.aim ≠ m.target → (t.motor id).state = .moving ∧ (t.motor id).aim = m.target) ∧
        (pos = m.aim → m.aim = m.target →
          (t.motor id).state = (if s.settleTime id = 0 then .idle else .settling))) ∧
      (∀ travel : Nat, m.state = .homing → travel = min (2 ^ 32 - 1) (m.travel + steps.natAbs) →
        (pl.getD 4 0 ≠ 0#8 → t.motor id = { m with travel := travel, lastSteps := steps, refSeen := true }) ∧
        (pl.getD 4 0 = 0#8 → travel < s.topPosition id + 64 →
          t.motor id = { m with travel := travel, lastSteps := steps }) ∧
        (pl.getD 4 0 = 0#8 → s.topPosition id + 64 ≤ travel →
          t.motor id =
            { m with travel := travel, lastSteps := steps, state := .faulted, fault := .noHome,
                     zoomToPending := false } ∧
          t.status.latched.getLsbD LatchedBit.lensFault.index = true)) ∧
      ∀ stop : Nat, m.state ≠ .homing → at' < 0 ∨ (s.topPosition id : Int) < at' →
        stop = (if at' < 0 then 0 else s.topPosition id) →
        t.motor id =
          { m with lastSteps := steps, position := stop, target := stop, aim := stop, overshoot := false,
                   uncertain := false, state := .faulted, fault := .range, zoomToPending := false } ∧
        t.status.latched.getLsbD LatchedBit.lensFault.index = true ∧
        (id = .focus → t.lens.zoom = s.lens.zoom ∧
          (s.focus.state.isSearching = false → t.focus = s.focus) ∧
          (s.focus.state.isSearching = true → t.focus = { s.focus with state := .failed .lens } ∧
            t.status.latched.getLsbD LatchedBit.focusFailed.index = true))

/-- An accepted HOMED reply of a HOMING motor: position, target and aim 0, IDLE since now. The zoom's begins the HOMING of a
focus motor that waits UNHOMED, or ends the homing when the focus is FAULTED. The focus motor's ends it: the part is RUNNING,
the zoom, when homed in this homing, is given the park position at speed 8, and the focus track(zoom position, d); a zoom
that was not homed is given nothing. The round goes on with its next turn (the rate of a homing MOVE:
notes/assumptions/18.md, DEDUCED). A position that was uncertain stays so (notes/assumptions/41.md, DEDUCED). -/
def Obligations.HomedEndsTheHoming : Prop :=
  ∀ (s : State) (x : Exchange) (h : ReplyHeader) (line pl : List Byte) (park goal : Nat), s.resetN = true →
    s.partState = .homing ∨ s.partState = .running →
    s.link.exchange = some x → x.request = .home → x.state = .reading h → judgeReply x h line = some pl →
    park = min s.zmax s.lens.settings.park →
    (x.target = .focus → s.lens.focus.state = .homing → goal = s.track s.lens.zoom.position s.focus.d →
      ∃ t, exec (.homed line) s = .next t ∧ RoundGoesOn s t ∧ t.partState = .running ∧ t.lens.zoomHomed = false ∧
        t.lens.focus =
          { s.lens.focus with
            position := 0, target := goal, aim := goal, overshoot := false, stillSince := s.partTime
            state := if goal = 0 then .idle else .moving } ∧
        (s.lens.zoomHomed = true → s.lens.zoom.state = .idle →
          t.lens.zoom =
            { s.lens.zoom with
              target := park, aim := park, overshoot := false, speed := 8
              state := if park = s.lens.zoom.position then .idle else .moving }) ∧
        (s.lens.zoomHomed = false ∨ s.lens.zoom.state ≠ .idle → t.lens.zoom = s.lens.zoom) ∧
        (s.focus.state.isSearching = false → t.focus = s.focus) ∧ t.link.failFocus = 0 ∧ t.exposure = s.exposure ∧
        t.stats = s.stats ∧ t.steady = s.steady ∧ t.frames = s.frames) ∧
    (x.target = .zoom → s.lens.zoom.state = .homing →
      ∃ t, exec (.homed line) s = .next t ∧ RoundGoesOn s t ∧ t.lens.zoom.position = 0 ∧ t.lens.zoom.stillSince = s.partTime ∧
        (s.lens.focus.state = .unhomed →
          t.partState = s.partState ∧ t.lens.zoomHomed = true ∧
          t.lens.zoom =
            { s.lens.zoom with
              position := 0, target := 0, aim := 0, overshoot := false, state := .idle, stillSince := s.partTime } ∧
          t.lens.focus =
            { s.lens.focus with
              state := .homing, travel := 0, refSeen := false, uncertain := false, fault := .none
              zoomToPending := false }) ∧
        (s.lens.focus.state = .faulted →
          t.partState = .running ∧ t.lens.zoomHomed = false ∧ t.lens.focus = s.lens.focus ∧
          t.lens.zoom =
            { s.lens.zoom with
              position := 0, target := park, aim := park, overshoot := false, stillSince := s.partTime, speed := 8
              state := if park = 0 then .idle else .moving }) ∧
        t.focus.state =
          (if s.focus.state = .locked then .tracking
           else if s.focus.state.isSearching = true then .failed .cancelled else s.focus.state) ∧
        t.link.failZoom = 0 ∧ t.exposure = s.exposure ∧ t.stats = s.stats ∧ t.steady = s.steady ∧
        t.frames = s.frames)

/-- A SETTLING motor whose settle time has run out is IDLE with still-since now, and a pending ZOOM_TO ends with
ZOOM_DONE. The focus motor, standing so at the sample position, takes a search from TRAVEL to SAMPLE, and at its target
one in FINAL to LOCKED. In PARKING with no motor under way any more the part enters CONFIG, its exchange abandoned with
no count or counter changed, its link quiet and its map rebuilt; else the link is as before. A row that comes before the
time has run out, or for a motor in another state, does nothing (notes/assumptions/3.md and notes/assumptions/1.md,
DESIGN CHOICE). -/
def Obligations.SettleTimeoutMakesIdle : Prop :=
  ∀ (s : State) (id : MotorId), s.resetN = true →
    ((s.motor id).state = .settling → s.settleTime id ≤ (s.partTime - (s.motor id).settleStart).toNat →
      ∃ t, exec (.settleTimeout id) s = .next t ∧
        t.motor id = { s.motor id with state := .idle, stillSince := s.partTime, zoomToPending := false } ∧
        (∀ j, j ≠ id → t.motor j = s.motor j) ∧
        (id = .zoom → (s.motor id).zoomToPending = true →
          t.status.latched.getLsbD LatchedBit.zoomDone.index = true) ∧
        (id = .focus → SearchArrives s t) ∧ (id = .zoom → t.focus = s.focus) ∧ LensParks s t ∧
        (t.partState = s.partState → t.link = s.link) ∧
        (t.partState ≠ s.partState →
          t.link =
            { s.link with exchange := none, turn := .done, lselN := true, lclk := false, lmosi := false }) ∧
        t.settled =
          { s with
            partState := t.partState, frames := t.frames, focus := t.focus, link := t.link
            lens := { s.lens with zoom := t.lens.zoom, focus := t.lens.focus }
            status := { s.status with latched := t.status.latched } }.settled) ∧
    ((s.motor id).state ≠ .settling ∨ (s.partTime - (s.motor id).settleStart).toNat < s.settleTime id →
      ∃ t, exec (.settleTimeout id) s = .next t ∧ t.settled = s.settled)

/-! ### Orders: taking, refusing, holding

A row named for an order takes the order at the head of the order queue (notes/assumptions/9.md, DEDUCED). -/

/-- An order whose code is not in the catalogue gets UNKNOWN, its code echoed. An order of the catalogue in a part state
that does not allow it gets WRONG_STATE. Both only leave the queue. NOP replies OK with the
present part time in its values, and changes nothing else. -/
def Obligations.NopAndRefusedOrdersOnlyReply : Prop :=
  ∀ (s : State) (p : Posted) (rest : List Posted), s.resetN = true → s.orders.queue = p :: rest →
    (Order.ofCode p.code.toNat = none →
      ∃ t, exec .unknownOrder s = .next t ∧
        t.settled =
          { s with
            orders :=
              { s.orders with
                queue := rest
                image :=
                  s.orders.image.set p.slot
                    ([byteAt p.bytes 60, byteAt p.bytes 61, 0x10#8, 0x00#8] ++ zeros 12) } }.settled) ∧
    (∀ (c : Instr) (o : Order), orderRow c = some o → Order.ofCode p.code.toNat = some o →
      o.allowed s.partState s.frames.geometry.isSome = false →
      ∃ t, exec c s = .next t ∧
        t.settled =
          { s with
            orders :=
              { s.orders with
                queue := rest
                image :=
                  s.orders.image.set p.slot
                    ([byteAt p.bytes 60, byteAt p.bytes 61, 0x04#8, 0x00#8] ++ zeros 12) } }.settled) ∧
    (AtHead s .nop p rest →
      ∃ t, exec .nop s = .next t ∧
        t.settled =
          { s with
            orders :=
              { s.orders with
                queue := rest
                image :=
                  s.orders.image.set p.slot
                    ([byteAt p.bytes 60, byteAt p.bytes 61, 0x00#8, if p.aligned then 0x01#8 else 0x00#8] ++
                      le s.partTime.toNat 4 ++ zeros 8) } }.settled)

/-- A holdable order posted with FRAME_ALIGNED joins the tail of the hold list without a reply while the list holds fewer
than 8 entries, and is refused with NO_ROOM when it holds 8. -/
def Obligations.AlignedOrdersAreHeld : Prop :=
  ∀ (s : State) (c : Instr) (o : Order) (p : Posted) (rest : List Posted), orderRow c = some o → o.holdable = true →
    AtHead s o p rest → p.aligned = true →
    (s.orders.hold.length < 8 →
      ∃ t, exec c s = .next t ∧
        t.settled =
          { s with
            orders :=
              { s.orders with
                queue := rest, hold := s.orders.hold ++ [({ order := p, shoot := false } : Held)] } }.settled) ∧
    (8 ≤ s.orders.hold.length →
      ∃ t, exec c s = .next t ∧
        t.settled = (makeReply p (plainAnswer .noRoom) false false (s.dequeued rest)).settled)

/-! ### Setup, START and STOP -/

/-- SETUP_FRAMES with a geometry in range and windows that fit: the three windows are set up, the map is identity, the
free list L..P − 1, every record EMPTY, the counter 0, LAT at most 65,535 (CLAMPED above that), WAITING banks FREE and the
recent completions forgotten. Otherwise BAD_RANGE, and nothing is applied. In range, and the windows fit, mean what R20 and
R5 list; BUFSZ is stride × (H + 1) rounded up to 4 KiB, VL is 2(W − 2·MX), VSZ is VL × (H − 2·MY). -/
def Obligations.SetupFramesTakesTheGeometry : Prop :=
  (∀ (s : State) (p : Posted) (rest : List Posted) (g : Geometry), AtHead s .setupFrames p rest → g = p.geometry →
    (g.ok = true → framesFit s.windows (g.raw p.bases.1) (g.view p.bases.2.1) (g.pool p.bases.2.2) = true →
      ∃ t, exec .setupFrames s = .next t ∧
        t.settled =
          (State.replied p (if 65535 < g.lat then .clamped else .ok)
            { s.dequeued rest with
              windows :=
                { s.windows with
                  raw := some (g.raw p.bases.1), view := some (g.view p.bases.2.1),
                  pool := some (g.pool p.bases.2.2) }
              frames :=
                { geometry := some { g with lat := min 65535 g.lat }
                  map := (List.range g.l).map fun k => { phys := k, ox := 0, oy := 0 }
                  free := (List.range g.s).map (g.l + ·), table := List.replicate (g.l + g.s) FrameRecord.empty
                  number := 0 }
              stats :=
                { s.stats with
                  bank0 := if s.stats.bank0.state = .waiting then Bank.released else s.stats.bank0
                  bank1 := if s.stats.bank1.state = .waiting then Bank.released else s.stats.bank1 }
              store := { s.store with recent := [] } }).settled) ∧
    (g.ok = false ∨ framesFit s.windows (g.raw p.bases.1) (g.view p.bases.2.1) (g.pool p.bases.2.2) = false →
      ∃ t, exec .setupFrames s = .next t ∧ t.settled = (State.replied p .badRange (s.dequeued rest)).settled)) ∧
  ∀ (g : Geometry) (w : Windows) (a b c vl vsz : Nat) (x y z : Nat × Nat), vl = 2 * (g.w - 2 * g.mx) →
    vsz = vl * (g.h - 2 * g.my) → x = (a, g.l * g.bufsz) → y = (b, g.l * vsz) → z = (c, (g.l + g.s) * g.bufsz) →
    (g.ok = true ↔
      (64 ≤ g.w ∧ g.w ≤ 8192 ∧ g.w % 2 = 0) ∧ (64 ≤ g.h ∧ g.h ≤ 6144 ∧ g.h % 2 = 0) ∧
      (2 * g.w ≤ g.stride ∧ g.stride ≤ 32768 ∧ g.stride % 64 = 0) ∧
      (g.mx ≤ 256 ∧ g.mx % 2 = 0 ∧ 2 * g.mx < g.w) ∧ (g.my ≤ 256 ∧ g.my % 2 = 0 ∧ 2 * g.my < g.h) ∧
      (2 ≤ g.l ∧ g.l ≤ 6) ∧ g.s ≤ 4 ∧ g.l + g.s ≤ 8 ∧ g.gp ≤ 1) ∧
    (g.bufsz % 4096 = 0 ∧ g.stride * (g.h + 1) ≤ g.bufsz ∧ g.bufsz < g.stride * (g.h + 1) + 4096) ∧
    g.raw a = { base := a, size := x.2, bufsz := g.bufsz } ∧
    g.view b =
      { base := b, size := y.2, vl := vl, vsz := vsz, mx := g.mx, my := g.my, stride := g.stride, bufsz := g.bufsz } ∧
    g.pool c = { base := c, size := z.2, bufsz := g.bufsz } ∧
    (framesFit w (g.raw a) (g.view b) (g.pool c) = true ↔
      (∀ q ∈ [x, y, z], q.1 % 4096 = 0 ∧ q.1 + q.2 ≤ 2 ^ 32 ∧ Apart q (w.control, 0x4000) ∧
        ∀ v, w.picture = some v → Apart q (v.base, v.size)) ∧
      Apart x y ∧ Apart x z ∧ Apart y z)

/-- SETUP_LENS takes its settings clamped, Δ before the park position, and LOAD_TRACKING its knots clamped from its start
index on, refused with BAD_RANGE for a count or index out of range. Both motors become UNHOMED at position 0, and a zoom
position changed this way makes a LOCKED focus TRACKING and ends a search. -/
def Obligations.LensSetupUnhomesTheMotors : Prop :=
  ∀ (s : State) (p : Posted) (rest : List Posted),
    (AtHead s .setupLens p rest → ∀ v c : LensSettings, v = p.lensSettings →
      c = { delta := max 8 (min 128 v.delta), fmax := min 4095 v.fmax, backlash := min 64 v.backlash,
            zoomSettle := min 20000 v.zoomSettle, focusSettle := min 20000 v.focusSettle,
            park := min (32 * max 8 (min 128 v.delta)) v.park, period := max 500 (min 4000 v.period) } →
      ∀ u : State,
        u = { s.dequeued rest with
              lens :=
                { s.lens with settings := c, zoom := Motor.unhomed, focus := Motor.unhomed, zoomHomed := false } } →
        ∃ t, exec .setupLens s = .next t ∧
          t.settled =
            (State.replied p (if c = v then .ok else .clamped)
              (if s.lens.zoom.position = 0 then u else focusOnZoomChange u)).settled) ∧
    (AtHead s .loadTracking p rest →
      (1 ≤ p.field 1 1 → p.field 1 1 ≤ 6 → p.field 0 1 + p.field 1 1 ≤ 33 →
        ∃ t, exec .loadTracking s = .next t ∧ t.lens.zoom = Motor.unhomed ∧ t.lens.focus = Motor.unhomed ∧
          t.lens.knots.length = s.lens.knots.length ∧ t.lens.settings = s.lens.settings ∧
          t.lens.supply = s.lens.supply ∧
          (∀ i, i < s.lens.knots.length →
            t.knot i =
              if p.field 0 1 ≤ i ∧ i < p.field 0 1 + p.field 1 1 then clampKnot (p.knot (i - p.field 0 1))
              else s.knot i) ∧
          t.focus.state =
            (if s.lens.zoom.position ≠ 0 ∧ s.focus.state = .locked then .tracking
             else if s.lens.zoom.position ≠ 0 ∧ s.focus.state.isSearching = true then .failed .cancelled
             else s.focus.state) ∧
          t.exposure = s.exposure ∧ t.stats = s.stats ∧ t.frames = s.frames ∧ t.link = s.link ∧
          t.steady = s.steady ∧ t.orders.queue = rest) ∧
      (p.field 1 1 = 0 ∨ 6 < p.field 1 1 ∨ 33 < p.field 0 1 + p.field 1 1 →
        ∃ t, exec .loadTracking s = .next t ∧ t.settled = (State.replied p .badRange (s.dequeued rest)).settled))

/-- START: HOMING, the Frames block as after SETUP_FRAMES, WAITING banks FREE and an EVALUATING one stale, the initial
plan with its live conditions false, the zoom HOMING and the focus UNHOMED, the stall count and the link's counts 0, the
sensing-faulted mark clear, angles and quiet run 0, no recent completions, the first round begun, and the reply TAKEN. -/
def Obligations.StartBeginsHoming : Prop :=
  ∀ (s : State) (p : Posted) (rest : List Posted) (g : Geometry), AtHead s .start p rest →
    s.frames.geometry = some g →
    ∃ t, exec .start s = .next t ∧
      t.settled =
        (State.replied p .taken
          { s.dequeued rest with
            partState := .homing
            frames :=
              { geometry := some g, map := (List.range g.l).map fun k => { phys := k, ox := 0, oy := 0 }
                free := (List.range g.s).map (g.l + ·), table := List.replicate (g.l + g.s) FrameRecord.empty
                number := 0 }
            stats := t.stats
            exposure :=
              { s.exposure with
                plan := { t := 10000, gain := 0, code := none, origin := 0 }
                converged := false, underLive := false, overLive := false }
            lens :=
              { s.lens with
                zoom :=
                  { s.lens.zoom with
                    state := .homing, travel := 0, refSeen := false, uncertain := false, fault := .none
                    zoomToPending := false }
                focus :=
                  { s.lens.focus with
                    state := .unhomed, travel := 0, refSeen := false, uncertain := false, fault := .none
                    zoomToPending := false }
                zoomHomed := false, supply := { s.lens.supply with stallCount := 0 } }
            link :=
              { roundStart := s.partTime, period := s.lens.settings.period, seq := s.link.seq + 1, turn := .sensing
                exchange := some
                  { target := .sensing, request := .sense, state := .sending, seq := s.link.seq + 1
                    bytes := [0x08#8, 0x00#8, s.link.seq + 1, headerCheck 0x08#8 0x00#8 (s.link.seq + 1)]
                    pollBase := s.partTime, headerIn := false }
                failSensing := 0, failZoom := 0, failFocus := 0, sensingFaulted := false, lselN := false
                lclk := t.link.lclk, lmosi := t.link.lmosi }
            steady :=
              if s.steady.state = .faulted then
                { s.steady with
                  state := if s.steady.settings.on then .active else .off
                  view := false, ax := 0, ay := 0, lastRx := 0, lastRy := 0, quietRun := 0, quiet := false }
              else { s.steady with ax := 0, ay := 0, quietRun := 0, quiet := false }
            store := { s.store with recent := [] } }).settled ∧
      (∀ id, t.bank id =
        if (s.bank id).state = .waiting then Bank.released
        else if (s.bank id).state = .evaluating then { s.bank id with stale := true } else s.bank id) ∧
      t.stats.nextEntry = s.stats.nextEntry ∧ t.stats.seq = s.stats.seq ∧ t.stats.newest = s.stats.newest ∧
      t.stats.writer = s.stats.writer

/-- STOP: PARKING, or CONFIG when no motor is then under way, its link quiet with no count or counter changed; the hold
list ended, every shot ended, the filling frame cut, a search CANCELLED, an idle, moving or settling zoom sent to 0, and
the reply TAKEN last. -/
def Obligations.StopParks : Prop :=
  ∀ (s : State) (p : Posted) (rest : List Posted), AtHead s .stop p rest → s.store.shots.length = 4 →
    (s.store.inflight = none → ∀ h ∈ s.orders.hold, h.shoot = false) →
    ∃ t, exec .stop s = .next t ∧ t.orders.hold = [] ∧ t.orders.queue = rest ∧ t.store.inflight = none ∧
      (∀ e, e < 4 → t.store.shots.getD e none = none) ∧ t.store.closeQueue = s.store.closeQueue ∧
      (∀ b, s.filling? = some b → (t.record b).state = .complete ∧ (t.record b).cut = true ∧
        t.status.latched.getLsbD LatchedBit.frameCut.index = true) ∧
      t.focus.state = (if s.focus.state.isSearching then .failed .cancelled else s.focus.state) ∧
      (((s.lens.zoom.state = .idle ∨ s.lens.zoom.state = .moving ∨ s.lens.zoom.state = .settling) →
          t.lens.zoom.target = 0 ∧ t.lens.zoom.zoomToPending = false)) ∧
      (s.lens.zoom.state = .homing → t.lens.zoom.state = .unhomed) ∧
      t.lens.zoom.position = s.lens.zoom.position ∧ t.lens.focus.position = s.lens.focus.position ∧
      (((t.lens.zoom.underWay = true ∨ t.lens.focus.underWay = true) ∧ t.partState = .parking ∧ t.link = s.link) ∨
        (t.lens.zoom.underWay = false ∧ t.lens.focus.underWay = false ∧ t.partState = .config ∧
          t.link =
            { s.link with exchange := none, turn := .done, lselN := true, lclk := false, lmosi := false })) ∧
      t.status.counters.correctedHeader = s.status.counters.correctedHeader ∧
      t.status.counters.discardedReply = s.status.counters.discardedReply ∧
      t.status.counters.missingReply = s.status.counters.missingReply ∧
      (p.slot < s.orders.image.length →
        t.orders.image.getD p.slot [] = replyBytes p (plainAnswer .taken) p.aligned false) ∧
      t.exposure = s.exposure ∧ t.steady = s.steady ∧ t.hostOut = s.hostOut

/-- SETUP_STORE: BUSY slots refuse it with STORE_BUSY, a geometry that cannot hold with BAD_RANGE; otherwise the PICTURE
window stands, all slots FREE, low water at most N (CLAMPED above), and STORE_LOW is latched if it holds after and did
not before (notes/assumptions/35.md, DEDUCED). A geometry can hold when the slot size is a power of two from 64 KiB to
16 MiB, the slots are 4 to 64, and the window passes the checks of R5. -/
def Obligations.SetupStoreMakesTheSlots : Prop :=
  (∀ (s : State) (p : Posted) (rest : List Posted) (v : PictureWindow), AtHead s .setupStore p rest → v = p.picture →
    ((∀ x ∈ s.store.slots, x.state = .free) → pictureOk s.windows v = true →
      ∃ t, exec .setupStore s = .next t ∧
        t.settled =
          (State.replied p (if v.slots < p.field 9 1 then .clamped else .ok)
            { s.dequeued rest with
              windows := { s.windows with picture := some v }
              store :=
                { s.store with slots := List.replicate v.slots Slot.freed, lowWater := min v.slots (p.field 9 1) }
              status :=
                { s.status with
                  latched :=
                    if v.slots ≤ p.field 9 1 ∧ s.storeLow = false then
                      s.status.latched ||| LatchedBit.storeLow.mask
                    else s.status.latched } }).settled) ∧
    ((∃ x ∈ s.store.slots, x.state ≠ .free) →
      ∃ t, exec .setupStore s = .next t ∧ t.settled = (State.replied p .storeBusy (s.dequeued rest)).settled) ∧
    ((∀ x ∈ s.store.slots, x.state = .free) → pictureOk s.windows v = false →
      ∃ t, exec .setupStore s = .next t ∧ t.settled = (State.replied p .badRange (s.dequeued rest)).settled)) ∧
  (∀ p : Posted, p.picture =
    { base := p.field 0 4, size := p.field 8 1 * p.field 4 4, slots := p.field 8 1, slotSize := p.field 4 4 }) ∧
  ∀ (w : Windows) (v : PictureWindow) (q : Nat × Nat), q = (v.base, v.size) →
    (pictureOk w v = true ↔
      (∃ n, n ≤ 8 ∧ v.slotSize = 2 ^ (16 + n)) ∧ 4 ≤ v.slots ∧ v.slots ≤ 64 ∧ v.base % v.slotSize = 0 ∧
      q.1 + q.2 ≤ 2 ^ 32 ∧ Apart q (w.control, 0x4000) ∧
      (∀ r, w.raw = some r → Apart q (r.base, r.size)) ∧ (∀ r, w.view = some r → Apart q (r.base, r.size)) ∧
      ∀ r, w.pool = some r → Apart q (r.base, r.size))

/-! ### Settings -/

/-- LOAD_WEIGHTS takes the 64 weights; METER_MODE takes its nine settings clamped, S_min before S_max_cfg, CLAMPED when
one changed; EXPOSURE_LOCK takes its choice. Nothing else changes. -/
def Obligations.ExposureOrdersTakeEffect : Prop :=
  ∀ (s : State) (p : Posted) (rest : List Posted), p.aligned = false →
    (AtHead s .loadWeights p rest →
      ∃ t, exec .loadWeights s = .next t ∧
        t.settled =
          (State.replied p .ok { s.dequeued rest with exposure := { s.exposure with weights := p.weights } }).settled) ∧
    (AtHead s .meterMode p rest → ∀ v c : Metering, v = p.metering →
      c = { tgt := max 1 (min 4095 v.tgt), c := max (-96) (min 96 v.c), db := min 16 v.db, sMin := min 669 v.sMin,
            sMaxCfg := max (min 669 v.sMin) (min 669 v.sMaxCfg), gMax := min 255 v.gMax, boost := min 96 v.boost,
            blk := min 1023 v.blk, white := max 1 (min 4096 v.white) } →
      ∃ t, exec .meterMode s = .next t ∧
        t.settled =
          (State.replied p (if c = v then .ok else .clamped)
            { s.dequeued rest with exposure := { s.exposure with settings := c } }).settled) ∧
    (AtHead s .exposureLock p rest →
      ∃ t, exec .exposureLock s = .next t ∧
        t.settled =
          (State.replied p .ok
            { s.dequeued rest with
              exposure := { s.exposure with lock := decide (byteAt p.bytes 0 ≠ 0#8) } }).settled)

/-- FOCUS_AREA takes its rectangle clamped to the image (8,192 × 6,144 with no frames set up), CORE at most 255 and MINC
as carried. Nothing else changes. -/
def Obligations.FocusAreaClampsToTheImage : Prop :=
  ∀ (s : State) (p : Posted) (rest : List Posted) (w h : Nat) (v c : FocusSettings), p.aligned = false →
    AtHead s .focusArea p rest →
    (w, h) = (match s.frames.geometry with
      | some g => (g.w, g.h)
      | none => (8192, 6144)) →
    v = p.focusSettings →
    c = { fx := min (w - 1) v.fx, fy := min (h - 1) v.fy, fw := min (w - min (w - 1) v.fx) v.fw,
          fh := min (h - min (h - 1) v.fy) v.fh, core := min 255 v.core, minc := v.minc } →
    ∃ t, exec .focusArea s = .next t ∧
      t.settled =
        (State.replied p (if c = v then .ok else .clamped)
          { s.dequeued rest with focus := { s.focus with settings := c } }).settled

/-- STEADY_MODE takes its settings clamped, KQ against K; OFF becomes ACTIVE when switched on without a sensing fault
known, ACTIVE becomes OFF when switched off, both with angles 0; FAULTED keeps its state. The quiet run and whether
quiet holds stay as they are until the next sample, whatever the new QN. -/
def Obligations.SteadyModeSwitchesTheUnit : Prop :=
  ∀ (s : State) (p : Posted) (rest : List Posted) (v c : SteadySettings), p.aligned = false →
    AtHead s .steadyMode p rest → v = p.steadySettings →
    c = { v with
          k := max 6 (min 14 v.k), kq := max 2 (min (max 6 (min 14 v.k)) v.kq), qr := min 4095 v.qr
          qn := min 127 v.qn } →
    ∃ t, exec .steadyMode s = .next t ∧
      t.settled =
        (State.replied p (if c = v then .ok else .clamped)
          { s.dequeued rest with
            steady :=
              if s.steady.state = .off ∧ v.on = true ∧ s.steady.view = false then
                { s.steady with settings := c, state := .active, ax := 0, ay := 0 }
              else if s.steady.state = .active ∧ v.on = false then
                { s.steady with settings := c, state := .off, ax := 0, ay := 0 }
              else { s.steady with settings := c } }).settled

/-- SUPPLY_LIMITS takes its limits with the hystereses clamped and zeroes the stall count, leaving the conditions;
CLEAR_SUPPLY zeroes the energy, its rollovers, the sample count and the peaks, and nothing else. -/
def Obligations.SupplyOrdersTakeEffect : Prop :=
  ∀ (s : State) (p : Posted) (rest : List Posted),
    (AtHead s .supplyLimits p rest → ∀ iHyst vHyst, iHyst = min (p.field 0 2) (p.field 2 2) →
      vHyst = min (65535 - p.field 6 2) (p.field 8 2) →
      ∃ t, exec .supplyLimits s = .next t ∧
        t.settled =
          (State.replied p (if iHyst = p.field 2 2 ∧ vHyst = p.field 8 2 then .ok else .clamped)
            { s.dequeued rest with
              lens :=
                { s.lens with
                  supply :=
                    { s.lens.supply with
                      iWarn := p.field 0 2, iHyst := iHyst, iStall := p.field 4 2, vLow := p.field 6 2,
                      vHyst := vHyst, stallCount := 0 } } }).settled) ∧
    (AtHead s .clearSupply p rest →
      ∃ t, exec .clearSupply s = .next t ∧
        t.settled =
          (State.replied p .ok
            { s.dequeued rest with
              lens :=
                { s.lens with
                  supply :=
                    { s.lens.supply with
                      energy := 0, rollover := 0, samples := 0, peakI := 0, peakP := 0 } } }).settled)

/-- CLEAR_STATUS clears the latched bits its mask selects, but for condition bits whose condition holds, and the counters
if chosen; ALERT_MASK replaces the alert mask. ATTN and the published copy are unchanged by both. -/
def Obligations.StatusOrdersTakeEffect : Prop :=
  ∀ (s : State) (p : Posted) (rest : List Posted),
    (AtHead s .clearStatus p rest →
      ∃ t, exec .clearStatus s = .next t ∧
        (∀ b : LatchedBit, t.status.latched.getLsbD b.index =
          (s.status.latched.getLsbD b.index &&
            (!p.mask28.getLsbD b.index || decide (condition s b = some true)))) ∧
        t.settled =
          (State.replied p .ok
            { s.dequeued rest with
              status :=
                { s.status with
                  latched := t.status.latched
                  counters := if byteAt p.bytes 4 = 0#8 then s.status.counters else Counters.zero } }).settled) ∧
    (AtHead s .alertMask p rest →
      ∃ t, exec .alertMask s = .next t ∧
        t.settled =
          (State.replied p .ok
            { s.dequeued rest with
              status := { s.status with mask := BitVec.ofNat 28 (p.field 0 4) } }).settled)

/-! ### Focus and zoom orders -/

/-- Giving a target: clamped to the motor's range; not taken when UNHOMED, HOMING or FAULTED, nor when STALLED unless the
source clears it; otherwise taken with the aim of R106, and the state of the table: IDLE or SETTLING stay at the same
position, a MOVING or cleared STALLED one whose position is certain settles there, and elsewhere the motor is MOVING. That a
cleared STALLED motor whose position is uncertain is MOVING too is the model's reading (notes/assumptions/40.md, DEDUCED). -/
def Obligations.GivingATargetFollowsTheTable : Prop :=
  ∀ (s : State) (id : MotorId) (clears : Bool) (asked goal : Nat) (m n : Motor), m = s.motor id →
    n = (giveTarget id clears asked s).motor id → goal = min (s.topPosition id) asked →
    ((m.state = .unhomed ∨ m.state = .homing ∨ m.state = .faulted ∨ (m.state = .stalled ∧ clears = false)) →
      giveTarget id clears asked s = s) ∧
    (m.state ≠ .unhomed → m.state ≠ .homing → m.state ≠ .faulted → (m.state = .stalled → clears = true) →
      n.target = goal ∧ n.position = m.position ∧
      (if id = .focus ∧ 0 < s.lens.settings.backlash ∧ goal < m.position ∧ s.lens.settings.backlash ≤ goal then
        n.aim = goal - s.lens.settings.backlash ∧ n.overshoot = true
       else n.aim = goal ∧ n.overshoot = false) ∧
      (goal ≠ m.position → n.state = .moving) ∧
      (goal = m.position → m.state = .idle → n.state = .idle ∧ n.stillSince = m.stillSince) ∧
      (goal = m.position → m.state = .settling → n.state = .settling ∧ n.settleStart = m.settleStart) ∧
      (goal = m.position → m.state = .moving ∨ m.state = .stalled → m.uncertain = true → n.state = .moving) ∧
      (goal = m.position → m.state = .moving ∨ m.state = .stalled → m.uncertain = false →
        if s.settleTime id = 0 then n.state = .idle ∧ n.stillSince = s.partTime
        else n.state = .settling ∧ n.settleStart = s.partTime))

/-- FOCUS_START is refused with LENS_FAULT for a FAULTED focus motor, then with LENS_MOVING while the focus is HOMING or
the zoom not IDLE. Otherwise a search begins: figure mode, trail empty, the search record of R85, phase SAMPLE when the
IDLE motor stands at p_s, else TRAVEL, and the motor given p_s. The record's sample start before SAMPLE is the model's
(notes/assumptions/47.md, DESIGN CHOICE). -/
def Obligations.FocusStartBeginsASearch : Prop :=
  ∀ (s : State) (p : Posted) (rest : List Posted), AtHead s .focusStart p rest →
    (s.lens.focus.state = .faulted →
      ∃ t, exec .focusStart s = .next t ∧ t.settled = (State.replied p .lensFault (s.dequeued rest)).settled) ∧
    (s.lens.focus.state ≠ .faulted → s.lens.focus.state = .homing ∨ s.lens.zoom.state ≠ .idle →
      ∃ t, exec .focusStart s = .next t ∧ t.settled = (State.replied p .lensMoving (s.dequeued rest)).settled) ∧
    (s.lens.focus.state ≠ .faulted → s.lens.focus.state ≠ .homing → s.lens.zoom.state = .idle →
      ∀ (pInf pNear lo hi ps : Nat) (r : SearchRecord),
        pInf = s.interp Knot.pInf s.lens.zoom.position → pNear = s.interp Knot.pNear s.lens.zoom.position →
        lo = min s.lens.settings.fmax (min pInf pNear) → hi = min s.lens.settings.fmax (max pInf pNear) →
        ps = max lo (min hi s.lens.focus.position) →
        r = { zs := s.lens.zoom.position, lo := lo, hi := hi, step := max 8 (min 128 (p.field 1 2)), ps := ps,
              up := decide (ps - lo ≤ hi - ps), reversed := false, best := none, falls := 0, sample := ps,
              resolved := 0, sampleStart := s.partTime } →
        ∃ t, exec .focusStart s = .next t ∧
          t.focus =
            { s.focus with
              mode := if byteAt p.bytes 0 = 0#8 then .wide else .spot
              trail := [], search := some r, state := t.focus.state } ∧
          (t.focus.state = .searching .travel ∨ t.focus.state = .searching .sample) ∧
          (s.lens.focus.state = .idle →
            (s.lens.focus.position = ps → t.focus.state = .searching .sample ∧ t.lens.focus.state = .idle) ∧
            (s.lens.focus.position ≠ ps → t.focus.state = .searching .travel ∧ t.lens.focus.state = .moving)) ∧
          (s.lens.focus.state = .unhomed → t.focus.state = .searching .travel ∧ t.lens.focus = s.lens.focus) ∧
          (s.lens.focus.state ≠ .unhomed → t.lens.focus.target = ps) ∧
          t.settled =
            (State.replied p (if p.field 1 2 = max 8 (min 128 (p.field 1 2)) then .taken else .clamped)
              { s.dequeued rest with
                focus := t.focus, lens := { s.lens with focus := t.lens.focus } }).settled)

/-- A frame the search takes at its sample position p with figure NF joins the front of the trail, the newest 8 kept. A
figure above the best becomes the best with no falls; one more than an eighth below it counts one fall; another one ends
the falls. The second fall in a row goes to the fine step. Before the end of the range the search otherwise goes one step C
on within lo..hi. At the end it reverses once, to the first position beyond the start, when the best is the start and the
start is not the other end; else it fails for LOW_CONTRAST below MINC, with the focus going back to track(z_s, d), and takes
the fine step at or above it. The fine step makes d the fraction of p*, gives the focus track(z_s, d), and is FINAL, or
LOCKED when the motor stands there IDLE. EVALUATION_DONE in SAMPLE: with F of the figure mode and NF of the mean level, a
frame that has data, a trusted header, a motor that stood still and the positions of the search is taken and marked USED; any
other one that completed at or after the sample start is counted, and the eighth ends the search for NO_FRAMES
(notes/assumptions/42.md, DEDUCED). A frame without a bank is counted at its completion. In no other phase does either change
the focus. -/
def Obligations.SearchClimbsStepByStep : Prop :=
  (∀ (s : State) (id : BankId) (copy : RecordCopy) (f level nf : Nat), Evaluating s id copy →
    f = (match s.focus.mode with
      | .wide => min (2 ^ 32 - 1) (s.bank id).cells.sum
      | .spot => (s.bank id).cells.getD 4 0) →
    level = (meanLevel s.exposure.weights (s.bank id)).getD 0 → nf = min (2 ^ 32 - 1) (f * 256 / max level 1) →
    ∃ t w, exec .evaluationDone s = .next t ∧ t.stats.writer = some w ∧ readLe w.bytes 80 4 = f % 2 ^ 32 ∧
      readLe w.bytes 84 4 = nf ∧
      (s.focus.state ≠ .searching .sample →
        t.focus = s.focus ∧ t.lens = s.lens ∧ (byteAt w.bytes 30).getLsbD 5 = false) ∧
      ∀ (r : SearchRecord) (usable : Prop), s.focus.state = .searching .sample → s.focus.search = some r →
        (usable ↔ meanLevel s.exposure.weights (s.bank id) ≠ none ∧ copy.record.badExposure = false ∧
          copy.record.focusStill = true ∧ copy.record.focusPos = r.sample ∧ copy.record.zoomPos = r.zs) →
        ((byteAt w.bytes 30).getLsbD 5 = true ↔ usable) ∧
        (usable → t.focus = (takeFrame nf r s).focus ∧ t.lens = (takeFrame nf r s).lens ∧
          ∀ i, (takeFrame nf r s).status.latched.getLsbD i = true → t.status.latched.getLsbD i = true) ∧
        (¬usable → ∀ c, copy.record.completion = some c → FrameCounted s t r c)) ∧
  (∀ s : State,
    (s.focus.state ≠ .searching .sample → resolveUnmetered s = s) ∧
    ∀ r, s.focus.state = .searching .sample → s.focus.search = some r →
      FrameCounted s (resolveUnmetered s) r s.partTime) ∧
  ∀ (s t : State) (nf : Nat) (r : SearchRecord), s.focus.search = some r → r.lo ≤ r.hi → r.falls < 2 →
    t = takeFrame nf r s →
    t.focus.trail = ({ pos := r.sample, nf := nf } :: s.focus.trail).take 8 ∧
    ∀ (best : TrailEntry) (falls next back far edge d : Nat) (raw p pInf span : Int),
      best = (match r.best with
        | none => { pos := r.sample, nf := nf }
        | some b => if b.nf < nf then { pos := r.sample, nf := nf } else b) →
      falls = (match r.best with
        | none => 0
        | some b => if ¬ b.nf < nf ∧ nf < b.nf - b.nf / 8 then r.falls + 1 else 0) →
      next = (if r.up then max r.lo (min r.hi (r.sample + r.step)) else max r.lo (min r.hi (r.sample - r.step))) →
      back = (if r.up then max r.lo (min r.hi (r.ps - r.step)) else max r.lo (min r.hi (r.ps + r.step))) →
      edge = (if r.up then r.hi else r.lo) → far = (if r.up then r.lo else r.hi) →
      raw = (match t.focus.trail.find? (fun e => (e.pos : Int) == best.pos - r.step),
          t.focus.trail.find? (fun e => (e.pos : Int) == best.pos + r.step) with
        | some l, some h =>
          if (l.nf : Int) - 2 * best.nf + h.nf < 0 then
            best.pos + roundDiv (r.step * ((h.nf : Int) - l.nf)) (2 * (2 * best.nf - l.nf - h.nf))
          else best.pos
        | _, _ => best.pos) →
      p = max (r.lo : Int) (min r.hi (max ((best.pos : Int) - r.step) (min (best.pos + r.step) raw))) →
      pInf = s.interp Knot.pInf r.zs → span = (s.interp Knot.pNear r.zs : Int) - pInf →
      d = (if span = 0 then 0
           else (max 0 (min 4096 (roundDiv (if 0 < span then (p - pInf) * 4096 else (pInf - p) * 4096)
            span.natAbs))).toNat) →
      (falls = 2 ∨ (r.sample = edge ∧ ¬(best.pos = r.ps ∧ r.reversed = false ∧ r.ps ≠ far) ∧
          s.focus.settings.minc ≤ best.nf) →
        t.focus.d = d ∧ t.focus.search = some { r with best := some best, falls := falls } ∧
        t.focus.state =
          (if t.lens.focus.state = .idle ∧ t.lens.focus.position = t.lens.focus.target then .locked
           else .searching .final) ∧
        t.lens = (giveTarget .focus false (s.track r.zs d) s).lens) ∧
      (falls < 2 → r.sample = edge → ¬(best.pos = r.ps ∧ r.reversed = false ∧ r.ps ≠ far) →
        best.nf < s.focus.settings.minc →
        t.focus.state = .failed .lowContrast ∧ t.focus.d = s.focus.d ∧
        t.status.latched.getLsbD LatchedBit.focusFailed.index = true ∧
        t.lens = (giveTarget .focus false (s.track r.zs s.focus.d) s).lens) ∧
      (falls < 2 → r.sample = edge → best.pos = r.ps → r.reversed = false → r.ps ≠ far →
        ∃ q, t.focus.search = some q ∧ q.sample = back ∧ q.best = some best ∧ q.falls = 0 ∧ q.up = !r.up ∧
          q.reversed = true ∧ q.lo = r.lo ∧ q.hi = r.hi ∧ q.step = r.step ∧ t.focus.d = s.focus.d ∧
          (t.focus.state = .searching .travel ∨ t.focus.state = .searching .sample) ∧
          t.lens = (giveTarget .focus false back s).lens) ∧
      (falls < 2 → r.sample ≠ edge →
        ∃ q, t.focus.search = some q ∧ q.sample = next ∧ q.best = some best ∧ q.falls = falls ∧ q.up = r.up ∧
          q.reversed = r.reversed ∧ q.lo = r.lo ∧ q.hi = r.hi ∧ q.step = r.step ∧ t.focus.d = s.focus.d ∧
          (t.focus.state = .searching .travel ∨ t.focus.state = .searching .sample) ∧
          t.lens = (giveTarget .focus false next s).lens)

/-- FOCUS_CANCEL makes the focus state IDLE and gives the focus motor track(zoom position, d). FOCUS_SET takes d clamped
to 4,096, makes the state LOCKED and gives it track there, or is refused with LENS_FAULT for a FAULTED focus motor. -/
def Obligations.FocusCancelAndSetGiveTheTrack : Prop :=
  ∀ (s : State) (p : Posted) (rest : List Posted),
    (AtHead s .focusCancel p rest →
      ∃ t, exec .focusCancel s = .next t ∧
        t.settled =
          (State.replied p .ok
            (giveTarget .focus false (s.track s.lens.zoom.position s.focus.d)
              { s.dequeued rest with focus := { s.focus with state := .idle } })).settled) ∧
    (AtHead s .focusSet p rest → p.aligned = false → s.lens.focus.state ≠ .faulted →
      ∃ t, exec .focusSet s = .next t ∧
        t.settled =
          (State.replied p (if p.field 0 2 ≤ 4096 then .ok else .clamped)
            (giveTarget .focus false (s.track s.lens.zoom.position (min 4096 (p.field 0 2)))
              { s.dequeued rest with
                focus := { s.focus with d := min 4096 (p.field 0 2), state := .locked } })).settled) ∧
    (AtHead s .focusSet p rest → p.aligned = false → s.lens.focus.state = .faulted →
      ∃ t, exec .focusSet s = .next t ∧ t.settled = (State.replied p .lensFault (s.dequeued rest)).settled)

/-- ZOOM_TO, past LENS_FAULT and LENS_MOVING: the zoom takes the target clamped to ZMAX and the speed class; away from it
it is MOVING with ZOOM_TO pending, IDLE at it ZOOM_DONE is latched at once; a search ends CANCELLED. ZOOM_STOP takes the
present position as target and clears the pending ZOOM_TO without ZOOM_DONE (notes/assumptions/19.md, DESIGN CHOICE). -/
def Obligations.ZoomOrdersGiveTheTarget : Prop :=
  ∀ (s : State) (p : Posted) (rest : List Posted),
    (AtHead s .zoomTo p rest → p.aligned = false →
      (s.lens.zoom.state = .faulted →
        ∃ t, exec .zoomTo s = .next t ∧ t.settled = (State.replied p .lensFault (s.dequeued rest)).settled) ∧
      (s.lens.zoom.state = .unhomed ∨ s.lens.zoom.state = .homing →
        ∃ t, exec .zoomTo s = .next t ∧ t.settled = (State.replied p .lensMoving (s.dequeued rest)).settled) ∧
      (s.lens.zoom.state ≠ .faulted → s.lens.zoom.state ≠ .unhomed → s.lens.zoom.state ≠ .homing →
        ∀ goal speed : Nat, goal = min s.zmax (p.field 0 2) →
          speed = (if 8 ≤ p.field 2 1 then 8 else if 4 ≤ p.field 2 1 then 4 else if 2 ≤ p.field 2 1 then 2 else 1) →
          ∃ t, exec .zoomTo s = .next t ∧ t.lens.zoom.target = goal ∧ t.lens.zoom.aim = goal ∧
            t.lens.zoom.speed = speed ∧ t.lens.zoom.position = s.lens.zoom.position ∧
            (s.lens.zoom.position ≠ goal → t.lens.zoom.state = .moving ∧ t.lens.zoom.zoomToPending = true) ∧
            (s.lens.zoom.position = goal → s.lens.zoom.state = .idle →
              t.lens.zoom.state = .idle ∧ t.lens.zoom.zoomToPending = false ∧
              t.status.latched.getLsbD LatchedBit.zoomDone.index = true) ∧
            (s.focus.state.isSearching = false → t.focus = s.focus ∧ t.lens.focus = s.lens.focus) ∧
            (s.focus.state.isSearching = true → t.focus.state = .failed .cancelled ∧
              t.status.latched.getLsbD LatchedBit.focusFailed.index = true) ∧
            t.settled =
              (State.replied p (if p.field 0 2 ≤ s.zmax ∧ p.field 2 1 = speed then .ok else .clamped)
                { s.dequeued rest with
                  focus := t.focus, lens := { s.lens with zoom := t.lens.zoom, focus := t.lens.focus }
                  status := { s.status with latched := t.status.latched } }).settled)) ∧
    (AtHead s .zoomStop p rest →
      (s.lens.zoom.state = .faulted →
        ∃ t, exec .zoomStop s = .next t ∧ t.settled = (State.replied p .lensFault (s.dequeued rest)).settled) ∧
      (s.lens.zoom.state = .unhomed ∨ s.lens.zoom.state = .homing →
        ∃ t, exec .zoomStop s = .next t ∧ t.settled = (State.replied p .lensMoving (s.dequeued rest)).settled) ∧
      (s.lens.zoom.state ≠ .faulted → s.lens.zoom.state ≠ .unhomed → s.lens.zoom.state ≠ .homing →
        ∃ t, exec .zoomStop s = .next t ∧
          t.settled =
            (State.replied p .ok
              (giveTarget .zoom false s.lens.zoom.position
                { s.dequeued rest with
                  lens := { s.lens with zoom := { s.lens.zoom with zoomToPending := false } } })).settled))

/-! ### Shots and slots -/

/-- SHOOT is refused, in this order, with NO_ROOM for a full hold list, BUSY, NO_ROOM for no spare buffer, STORE_FULL.
Otherwise with no look-back it goes into flight without a reply, or with no look-ahead either ends with NO_FRAME; and a
look-back of one that finds a quiet qualifying frame pins it, reserves the first FREE slot, fills the first empty entry
with the next id and replies with them, SHOT_DONE latched. At a completion of the look-ahead a quiet qualifying frame is
chosen, another qualifying one joins the candidates; at the last of them the candidate with the least M, the newest among
equals, is chosen if it still qualifies, else the SHOOT ends with NO_FRAME. A frame that is replaced leaves the candidates.
HOLD_IGNORED in the replies of a SHOOT is the model's reading (notes/assumptions/34.md, DEDUCED), and NO_ROOM where more
shots are live than there are spare buffers its choice (notes/assumptions/31.md, DESIGN CHOICE). -/
def Obligations.ShootChoosesOrWaits : Prop :=
  (∀ (s : State) (p : Posted) (rest : List Posted) (g : Geometry), AtHead s .shoot p rest →
    s.frames.geometry = some g →
    (∀ r : Result,
      r = (if 8 ≤ s.orders.hold.length then .noRoom else if s.store.inflight.isSome then .busy
           else if g.s ≤ s.store.liveShots then .noRoom else .storeFull) →
      (8 ≤ s.orders.hold.length ∨ s.store.inflight.isSome = true ∨ g.s ≤ s.store.liveShots ∨
        s.store.freeSlots = 0) →
      ∃ t, exec .shoot s = .next t ∧ t.settled = (State.replied p r (s.dequeued rest)).settled) ∧
    (s.orders.hold.length < 8 → s.store.inflight = none → s.store.liveShots < g.s → 0 < s.store.freeSlots →
      (∀ h ∈ s.orders.hold, h.shoot = false) →
      (p.field 0 1 = 0 → 0 < p.field 1 1 →
        ∃ t, exec .shoot s = .next t ∧
          t.settled =
            { s with
              orders :=
                { s.orders with queue := rest, hold := s.orders.hold ++ [({ order := p, shoot := true } : Held)] }
              store :=
                { s.store with
                  inflight := some
                    { b := 0, f := min 15 (p.field 1 1), q := p.field 2 1
                      needFocus := decide (byteAt p.bytes 3 ≠ 0#8), ahead := 0, candidates := []
                      clamped := decide (15 < p.field 1 1) } } }.settled) ∧
      (p.field 0 1 = 0 → p.field 1 1 = 0 →
        ∃ t, exec .shoot s = .next t ∧ t.settled = (State.replied p .noFrame (s.dequeued rest)).settled) ∧
      (∀ (c : Recent) (older : List Recent) (f : FrameRecord) (j e : Nat), p.field 0 1 = 1 →
        s.store.recent = c :: older → f = s.record c.buffer → f.qualifies c.number (decide (byteAt p.bytes 3 ≠ 0#8)) = true →
        f.m ≤ p.field 2 1 → c.buffer < s.frames.table.length → s.store.shots.findIdx? Option.isNone = some e →
        s.store.slots.findIdx? (fun x => x.state == .free) = some j →
        ∃ t sh, exec .shoot s = .next t ∧ (t.record c.buffer).state = .pinned ∧ c.buffer ∉ t.frames.free ∧
          t.frames.map = s.frames.map ∧ t.store.shots = s.store.shots.set e (some sh) ∧
          t.store.slots = s.store.slots.set j { Slot.freed with state := .reserved, shotId := some sh.id } ∧
          sh.id = s.store.nextId ∧ sh.buffer = c.buffer ∧ sh.slot = j ∧ sh.snapshot.number = c.number ∧
          sh.snapshot.m = f.m ∧ t.store.lastId = sh.id ∧ t.store.inflight = none ∧ t.orders.hold = s.orders.hold ∧
          t.status.latched.getLsbD LatchedBit.shotDone.index = true ∧
          (p.slot < s.orders.image.length →
            t.orders.image.getD p.slot [] =
              [byteAt p.bytes 60, byteAt p.bytes 61, if 15 < p.field 1 1 then 0x02#8 else 0x00#8,
                if p.aligned then 0x01#8 else 0x00#8] ++
              le sh.id 1 ++ le c.buffer 1 ++ le j 1 ++ le f.m 1 ++ le c.number 4 ++ zeros 4)))) ∧
  ∀ (s t : State) (number b : Nat), t = reportCompletion number b s →
    t.store.recent = ({ number := number, buffer := b } :: s.store.recent).take 7 ∧
    (s.store.inflight = none → t = { s with store := { s.store with recent := t.store.recent } }) ∧
    ∀ (x : Inflight) (new : List Candidate), s.store.inflight = some x →
      (Qualifies (s.record b) number x.needFocus →
        new = x.candidates ++ [{ number := number, buffer := b, m := (s.record b).m }]) →
      (¬Qualifies (s.record b) number x.needFocus → new = x.candidates) →
      (∀ e j, s.store.shots.findIdx? Option.isNone = some e →
        s.store.slots.findIdx? (fun y => y.state == .free) = some j →
        (Qualifies (s.record b) number x.needFocus → (s.record b).m ≤ x.q → FrameChosen s t number b e j) ∧
        (¬(Qualifies (s.record b) number x.needFocus ∧ (s.record b).m ≤ x.q) → x.f ≤ x.ahead + 1 →
          ∀ pre c post, new = pre ++ c :: post → (∀ y ∈ pre, c.m ≤ y.m) → (∀ y ∈ post, c.m < y.m) →
            (Qualifies (s.record c.buffer) c.number x.needFocus → FrameChosen s t c.number c.buffer e j) ∧
            (¬Qualifies (s.record c.buffer) c.number x.needFocus → NoFrameChosen s t))) ∧
      (¬(Qualifies (s.record b) number x.needFocus ∧ (s.record b).m ≤ x.q) →
        (x.ahead + 1 < x.f →
          t =
            { s with
              store :=
                { s.store with
                  recent := t.store.recent
                  inflight := some { x with ahead := x.ahead + 1, candidates := new } } }) ∧
        (x.f ≤ x.ahead + 1 → new = [] → NoFrameChosen s t)) ∧
      reportReplaced number b s =
        { s with
          store :=
            { s.store with
              inflight := some
                { x with
                  candidates := x.candidates.filter (fun c => decide (c.number ≠ number ∨ c.buffer ≠ b)) } } }

/-- RELEASE_SHOT of an id no shot holds is refused with BAD_SHOT. Otherwise the shot's buffer is released, its slot takes
its FREE values and its entry is empty, with the reply OK. -/
def Obligations.ReleaseShotEndsTheShot : Prop :=
  ∀ (s : State) (p : Posted) (rest : List Posted), AtHead s .releaseShot p rest →
    (s.store.shotById (p.field 0 1) = none →
      ∃ t, exec .releaseShot s = .next t ∧ t.settled = (State.replied p .badShot (s.dequeued rest)).settled) ∧
    (∀ e sh, s.store.shotById (p.field 0 1) = some (e, sh) →
      ∃ t, exec .releaseShot s = .next t ∧ t.store.shots = s.store.shots.set e none ∧
        t.store.slots = s.store.slots.set sh.slot Slot.freed ∧ t.frames.map = s.frames.map ∧
        ((s.record sh.buffer).state = .pinned →
          t.frames.table = s.frames.table.set sh.buffer { s.record sh.buffer with state := .complete } ∧
          t.frames.free =
            (if (∃ x ∈ s.frames.map, x.phys = sh.buffer) then s.frames.free
             else insertFree sh.buffer s.frames.free)) ∧
        ((s.record sh.buffer).state ≠ .pinned → t.frames = s.frames) ∧
        t.settled =
          (State.replied p .ok
            { s.dequeued rest with
              frames := t.frames
              store := { s.store with shots := t.store.shots, slots := t.store.slots } }).settled)

/-- CLOSE_SLOT is refused, in this order, with BAD_SLOT, BAD_SHOT and TOO_LONG; else the shot ends, the slot is CLOSING
with its length, its close work joins the queue, and the reply is TAKEN. BAD_SHOT for an id that is the slot's but that
no shot holds, which no run meets, is the model's choice (notes/assumptions/31.md, DESIGN CHOICE). FREE_SLOT frees a
DRAINED slot, a CLOSED or DRAINING one with force, and a FREE one; else NOT_DRAINED, BUSY while CLOSING, and BAD_SLOT.
-/
def Obligations.SlotOrdersFollowTheSlotState : Prop :=
  ∀ (s : State) (p : Posted) (rest : List Posted) (j : Nat), j = p.field 0 1 →
    (AtHead s .closeSlot p rest → ∀ id length : Nat, id = p.field 1 1 → length = p.field 4 4 →
      ((∀ x, s.slot? j = some x → x.state ≠ .reserved ∧ x.state ≠ .filling) →
        ∃ t, exec .closeSlot s = .next t ∧ t.settled = (State.replied p .badSlot (s.dequeued rest)).settled) ∧
      (∀ x, s.slot? j = some x → (x.state = .reserved ∨ x.state = .filling) →
        (s.store.shotById id = none ∨ x.shotId ≠ some id →
          ∃ t, exec .closeSlot s = .next t ∧ t.settled = (State.replied p .badShot (s.dequeued rest)).settled) ∧
        (∀ e sh, s.store.shotById id = some (e, sh) → x.shotId = some id →
          (length = 0 ∨ s.slotSize - 64 < length →
            ∃ t, exec .closeSlot s = .next t ∧ t.settled = (State.replied p .tooLong (s.dequeued rest)).settled) ∧
          (1 ≤ length → length ≤ s.slotSize - 64 →
            ∃ t, exec .closeSlot s = .next t ∧ t.frames = (release sh.buffer s).frames ∧
              t.settled =
                (State.replied p .taken
                  { s.dequeued rest with
                    frames := t.frames
                    store :=
                      { s.store with
                        shots := s.store.shots.set e none
                        slots :=
                          s.store.slots.set j { x with length := length, checkValid := false, state := .closing }
                        closeQueue :=
                          s.store.closeQueue ++
                            [({ slot := j, id := sh.id, length := length, snapshot := sh.snapshot, ppd16 := sh.ppd16
                                piece := 0, crc := 0xFFFFFFFF#32, trailer := none, written := 0 } : CloseWork)] } }).settled)))) ∧
    (AtHead s .freeSlot p rest →
      (s.slot? j = none →
        ∃ t, exec .freeSlot s = .next t ∧ t.settled = (State.replied p .badSlot (s.dequeued rest)).settled) ∧
      (∀ x, s.slot? j = some x →
        (x.state = .drained ∨ ((x.state = .closed ∨ x.state = .draining) ∧ byteAt p.bytes 1 ≠ 0#8) →
          ∃ t, exec .freeSlot s = .next t ∧
            t.settled =
              (State.replied p .ok
                { s.dequeued rest with
                  store := { s.store with slots := s.store.slots.set j Slot.freed } }).settled) ∧
        ((x.state = .free ∨ x.state = .reserved ∨ x.state = .filling ∨ x.state = .closing ∨
            ((x.state = .closed ∨ x.state = .draining) ∧ byteAt p.bytes 1 = 0#8)) →
          ∃ t, exec .freeSlot s = .next t ∧
            t.settled =
              (State.replied p
                (if x.state = .free then .ok else if x.state = .closing then .busy
                 else if x.state = .reserved ∨ x.state = .filling then .badSlot else .notDrained)
                (s.dequeued rest)).settled)))

/-- What a reported read of a slot makes of its drain. At offset 0 of a CLOSED, DRAINED or DRAINING slot it starts one,
verified and with a fresh CRC; elsewhere in a DRAINING slot it goes on, unverified from then on when it is off the cursor or
failed. Its data below length + 60 are fed into the CRC while verified, and the cursor is its end. A read that covers the
last trailer byte ends the drain: DRAINED when it is verified and the CRC-32 equals the valid check value, else CLOSED with
CHECK_MISMATCH, or DRAIN_UNVERIFIED when there was nothing to compare. Any other read has no effect. The record is marked
dirty exactly when its state, its cursor or its flag changed on the way. -/
def Obligations.DrainChecksTheSlot : Prop :=
  ∀ (s t : State) (j o n : Nat) (x : Slot) (data : Option (List Byte)), s.slot? j = some x →
    t = reportRead j o n data s →
    (x.state ≠ .draining → (0 < o ∨ (x.state ≠ .closed ∧ x.state ≠ .drained)) → t = s) ∧
    ∀ (starts : Prop) (verified : Bool) (cursor : Nat) (crc0 crc : BitVec 32) (y : Slot),
      (starts ↔ o = 0 ∧ (x.state = .closed ∨ x.state = .drained ∨ x.state = .draining)) →
      starts ∨ x.state = .draining →
      (verified = true ↔ data ≠ none ∧ (starts ∨ (x.drainVerified = true ∧ x.cursor = o))) →
      (starts → crc0 = 0xFFFFFFFF#32) → (¬starts → crc0 = x.drainCrc) →
      cursor = (if data = none then x.cursor else o + n) →
      crc = (match data with
        | some bytes => if verified then (bytes.take (x.length + 60 - o)).foldl crc32Byte crc0 else crc0
        | none => crc0) →
      y = { x with state := .draining, drainVerified := verified, cursor := cursor, drainCrc := crc } →
      (∀ i, i ≠ j → t.slot? i = s.slot? i) ∧
      (¬(o ≤ x.length + 63 ∧ x.length + 63 < o + n) →
        t.slot? j = some y ∧ t.status = s.status ∧
        ((x.state ≠ .draining ∨ cursor ≠ x.cursor ∨ verified ≠ x.drainVerified ∨ (starts ∧ x.drainVerified = false)) →
          t.store.slotDirty = s.store.slotDirty.set j true) ∧
        (x.state = .draining → cursor = x.cursor → verified = x.drainVerified →
          ¬(starts ∧ x.drainVerified = false) → t.store.slotDirty = s.store.slotDirty)) ∧
      (o ≤ x.length + 63 → x.length + 63 < o + n →
        t.store.slotDirty = s.store.slotDirty.set j true ∧
        (verified = true → x.checkValid = true → crc ^^^ 0xFFFFFFFF#32 = x.check →
          t.slot? j = some { y with state := .drained } ∧ t.status = s.status) ∧
        (verified = true → x.checkValid = true → crc ^^^ 0xFFFFFFFF#32 ≠ x.check →
          t.slot? j = some { y with state := .closed } ∧
          t.status = { s.status with latched := s.status.latched ||| LatchedBit.checkMismatch.mask }) ∧
        (verified = false ∨ x.checkValid = false →
          t.slot? j = some { y with state := .closed } ∧
          t.status = { s.status with latched := s.status.latched ||| LatchedBit.drainUnverified.mask }))

/-- LENS_RESTART zeroes the failure counts and clears the sensing-faulted mark; a FAULTED Steadying unit takes the state
of its mode; in RUNNING a FAULTED zoom begins HOMING, and a FAULTED focus does, or waits UNHOMED behind a HOMING zoom. -/
def Obligations.LensRestartRehomesFaultedMotors : Prop :=
  ∀ (s : State) (p : Posted) (rest : List Posted), AtHead s .lensRestart p rest →
    ∃ t, exec .lensRestart s = .next t ∧
      t.link =
        { s.link with failSensing := 0, failZoom := 0, failFocus := 0, sensingFaulted := false } ∧
      (s.steady.state = .faulted →
        t.steady =
          { s.steady with
            state := if s.steady.settings.on then .active else .off
            view := false, ax := 0, ay := 0, lastRx := 0, lastRy := 0, quietRun := 0, quiet := false }) ∧
      (s.steady.state ≠ .faulted → t.steady = s.steady) ∧
      (s.partState = .running → s.lens.zoom.state = .faulted →
        t.lens.zoom =
          { s.lens.zoom with
            state := .homing, travel := 0, refSeen := false, uncertain := false, fault := .none
            zoomToPending := false }) ∧
      (s.partState ≠ .running ∨ s.lens.zoom.state ≠ .faulted → t.lens.zoom = s.lens.zoom) ∧
      (s.partState = .running → s.lens.focus.state = .faulted →
        t.lens.focus =
          { s.lens.focus with
            state := if s.lens.zoom.state = .faulted ∨ s.lens.zoom.state = .homing then .unhomed else .homing
            travel := 0, refSeen := false, uncertain := false, fault := .none, zoomToPending := false }) ∧
      (s.partState ≠ .running ∨ s.lens.focus.state ≠ .faulted → t.lens.focus = s.lens.focus) ∧
      t.settled =
        (State.replied p .ok
          { s.dequeued rest with
            link := t.link, steady := t.steady
            lens := { s.lens with zoom := t.lens.zoom, focus := t.lens.focus, zoomHomed := t.lens.zoomHomed } }).settled

/-! ### Pieces of a VIEW read, the header check -/

/-- The address a host transaction in a window goes out at. RAW: pool base + phys(k) × BUFSZ + o, for a read as it stands,
for a write the Frames block lets pass with the map as its verdict left it. VIEW: a read goes out in pieces, a byte's address
that of pixel line y + MY + oy and column x + MX + ox of phys(k), and beyond the window its own; joined together the pieces
are the addresses of the read's bytes in host order, each has a byte, and none crosses a 256-byte boundary. POOL: a write
into a PINNED buffer is dropped, LATE_WRITE latched and counted; every other transaction goes out unchanged. PICTURE: the
slot and the offset in it are the quotient and remainder by the slot size; a write goes out unchanged where its slot takes it
with its end, a read always, and at its end, by a completion or the timer, it is reported to its slot with its data, or
without when it failed, before the host's completion. CONTROL: every transaction goes out unchanged; a write below offset
0x400 is shown to the Order unit with that offset. -/
def Obligations.ViewPiecesCoverTheRead : Prop :=
  (∀ (s : State) (v : ViewWindow) (a n : Nat),
    (s.viewPieces v a n).flatMap (fun q => (List.range q.len).map (q.addr + ·)) =
        (List.range n).map (fun i => (s.viewByte v (a + i)).2) ∧
      ∀ q ∈ s.viewPieces v a n, 1 ≤ q.len ∧ q.addr % 256 + q.len ≤ 256) ∧
  (∀ (s : State) (p : PoolWindow) (t : HostTransaction) (a : Nat), s.windows.pool = some p → a = t.addr.toNat →
    (∀ (w : RawWindow) (k o : Nat), s.decodeAddress a = .raw w → k = (a - w.base) / w.bufsz →
      o = (a - w.base) % w.bufsz →
      (t.dir = .read → arrive t s = (s, .forward (p.base + s.phys k * p.bufsz + o) none)) ∧
      ∀ g u, t.dir = .write → s.frames.geometry = some g →
        (offerRawWrite g k o t s = (u, true) →
          arrive t s = (u, .forward (p.base + u.phys k * p.bufsz + o) none)) ∧
        (offerRawWrite g k o t s = (u, false) → arrive t s = (u, .drop))) ∧
    (∀ v : ViewWindow, s.decodeAddress a = .view v → t.dir = .read →
      arrive t s = (s, .pieces (s.viewPieces v a t.len))) ∧
    (∀ (v : ViewWindow) (k q x y : Nat), v.base ≤ a → a < v.base + v.size → k = (a - v.base) / v.vsz →
      q = (a - v.base) % v.vsz → (x : Int) = (q % v.vl / 2 : Nat) + v.mx + (s.entry k).ox →
      (y : Int) = (q / v.vl : Nat) + v.my + (s.entry k).oy →
      (s.viewByte v a).2 = p.base + s.phys k * p.bufsz + (y + 1) * v.stride + 2 * x + q % v.vl % 2) ∧
    (∀ v : ViewWindow, a < v.base ∨ v.base + v.size ≤ a → (s.viewByte v a).2 = a) ∧
    ∀ w : PoolWindow, s.decodeAddress a = .pool w →
      (t.dir = .write → (s.record ((a - w.base) / w.bufsz)).state = .pinned →
        arrive t s =
          ({ s with
              status :=
                { s.status with
                  latched := s.status.latched ||| LatchedBit.lateWrite.mask
                  counters :=
                    { s.status.counters with lateWrite := min 65535 (s.status.counters.lateWrite + 1) } } }, .drop)) ∧
      (t.dir = .read ∨ (s.record ((a - w.base) / w.bufsz)).state ≠ .pinned →
        arrive t s = (s, .forward a none))) ∧
  (∀ (s : State) (t : HostTransaction) (a : Nat), a = t.addr.toNat →
    (s.decodeAddress a = .control →
      (t.dir = .write → a - s.windows.control < 0x400 →
        arrive t s = (showOrderWrite (a - s.windows.control) t s, .forward a none)) ∧
      (t.dir = .read ∨ 0x400 ≤ a - s.windows.control → arrive t s = (s, .forward a none))) ∧
    ∀ (w : PictureWindow) (j o : Nat), s.decodeAddress a = .picture w → j = (a - w.base) / w.slotSize →
      o = (a - w.base) % w.slotSize →
      (t.dir = .read → arrive t s = (s, .forward a (some (j, o)))) ∧
      ∀ u, t.dir = .write →
        (slotWrite j (o + t.len) s = (u, true) → arrive t s = (u, .forward a none)) ∧
        (slotWrite j (o + t.len) s = (u, false) → arrive t s = (u, .drop))) ∧
  (∀ (s : State) (x : Flight) (picture : Option (Nat × Nat)) (t : HostTransaction) (rest : List HostTransaction)
      (seen : Option (List Byte) → State), s.resetN = true → s.port.flight = some x → x.kind = .host picture →
    s.port.inbound = t :: rest → (∀ y ∈ rest, isMalformed y = false) →
    (∀ data, seen data =
      match picture with
      | some (j, o) => reportRead j o x.len data s
      | none => s) →
    (∀ (st : Status) (data : List Byte) (v : State), v = seen (if st = .ok then some data else none) →
      ∃ u, exec (.memoryCompletion x.tag st data) s = exec .arbiterTurn u ∧
        u.settled =
          { v with
            hostOut :=
              s.hostOut ++
                [({ tag := t.tag, status := st
                    data := if x.dir = Direction.read ∧ st = Status.ok then data else [] } : HostCompletion)]
            port := { s.port with flight := none, view := none, inbound := rest } }.settled) ∧
    ∀ v : State, v = seen none → 100 ≤ (s.partTime - x.issued).toNat →
      ∃ u, exec .memoryTimeout s = exec .arbiterTurn u ∧
        u.settled =
          { v with
            hostOut := s.hostOut ++ [({ tag := t.tag, status := .error, data := [] } : HostCompletion)]
            port := { s.port with flight := none, view := none, inbound := rest }
            status := { v.status with latched := v.status.latched ||| LatchedBit.memTimeout.mask } }.settled) ∧
  ∀ (s : State) (t : HostTransaction) (addr : Nat) (picture : Option (Nat × Nat)),
    carryOut t (.forward addr picture) s =
      (issued s s.port (.host picture) addr t.dir t.len t.data t.mask, false)

/-- The header check of header bytes 0 to 2: as received it is good, a header with one of the 24 data bits inverted is
taken corrected, and one with a check bit C0..C4 inverted is taken as it was sent. A reply is accepted exactly when its header
is taken and, as taken, carries the request's target, the reply kind of the request, the request's sequence and the length
of that kind, at most 24, and the CRC-16 over its payload is the two bytes after it, high byte first; a payload of length 0
has none. Its correction is told either way. A byte that no target drives reads 0xFF
(notes/assumptions/24.md, DEDUCED). The CRC over "123456789" is 0x29B1. -/
def Obligations.HeaderCheckCorrectsOneBit : Prop :=
  (∀ b0 b1 b2 : Byte,
    judgeHeader b0 b1 b2 (headerCheck b0 b1 b2) = some ((b0, b1, b2), false) ∧
      (∀ i, i < 8 →
        judgeHeader (b0 ^^^ (1#8 <<< i)) b1 b2 (headerCheck b0 b1 b2) = some ((b0, b1, b2), true) ∧
        judgeHeader b0 (b1 ^^^ (1#8 <<< i)) b2 (headerCheck b0 b1 b2) = some ((b0, b1, b2), true) ∧
        judgeHeader b0 b1 (b2 ^^^ (1#8 <<< i)) (headerCheck b0 b1 b2) = some ((b0, b1, b2), true)) ∧
      ∀ i, i < 5 → judgeHeader b0 b1 b2 (headerCheck b0 b1 b2 ^^^ (1#8 <<< i)) = some ((b0, b1, b2), true)) ∧
  crc16 [0x31#8, 0x32#8, 0x33#8, 0x34#8, 0x35#8, 0x36#8, 0x37#8, 0x38#8, 0x39#8] = 0x29B1#16 ∧
  ∀ (x : Exchange) (h : ReplyHeader) (line : List Byte) (target kind length : Nat),
    target = (match x.target with
      | .sensing => 0
      | .zoom => 1
      | .focus => 2) →
    (kind, length) = (match x.request with
      | .sense => (2, 8)
      | .move _ _ => (4, 5)
      | .home => (6, 0)) →
    (headerCorrected h = true ↔ ∃ b, judgeHeader h.b0 h.b1 h.b2 h.b3 = some (b, true)) ∧
    ∀ pl : List Byte,
      judgeReply x h line = some pl ↔
        ∃ (b0 b1 b2 : Byte) (c : Bool),
          judgeHeader h.b0 h.b1 h.b2 h.b3 = some ((b0, b1, b2), c) ∧
          b0.toNat % 8 = target ∧ b0.toNat / 8 = kind ∧ b2 = x.seq ∧ b1.toNat ≤ 24 ∧ b1.toNat = length ∧
          pl = (List.range length).map (fun i => line.getD i 0xFF#8) ∧
          (length = 0 ∨
            (crc16 pl).toNat = 256 * (line.getD length 0xFF#8).toNat + (line.getD (length + 1) 0xFF#8).toNat)

/-! ### Invariants -/

/-- Every step keeps the motors' positions, targets and aims within their ranges. -/
def Obligations.StepKeepsMotorsInRange : Prop :=
  ∀ s t : State, MotorsInRange s → step s = .next t → MotorsInRange t

/-- Every step keeps it that at most one bank is EVALUATING or WRITING and that a WAITING bank waits for such a one. -/
def Obligations.StepKeepsBanksTakingTurns : Prop :=
  ∀ s t : State, BanksTakeTurns s → step s = .next t → BanksTakeTurns t

/-- Every step keeps the sizes of the queues, the hold list, the history, the trail and the fixed tables; and it keeps it
that each owner has at most one own transaction, so that the own queue holds at most four. -/
def Obligations.StepKeepsSizes : Prop :=
  (∀ s t : State, SizesHold s → step s = .next t → SizesHold t) ∧
    (∀ s t : State, OwnersWait s → step s = .next t → OwnersWait t) ∧
    ∀ s : State, OwnersWait s → s.port.own.length ≤ 4

/-- Every step keeps the metering settings and a published plan within their ranges, the steadying values within theirs,
and the crop offsets of the map even and within the margins. -/
def Obligations.StepKeepsExposureAndSteadyInRange : Prop :=
  (∀ s t : State, ExposureInRange s.exposure → step s = .next t → ExposureInRange t.exposure) ∧
    (∀ s t : State, SteadyInRange s.steady → step s = .next t → SteadyInRange t.steady) ∧
    ∀ s t : State, OffsetsInMargins s → step s = .next t → OffsetsInMargins t

/-- Every step keeps the pool divided: in HOMING and RUNNING each physical buffer is mapped, pinned, or on the rising
free list, and no two logical buffers share one. -/
def Obligations.StepKeepsThePoolDivided : Prop :=
  ∀ s t : State, PoolHolds s → step s = .next t → PoolHolds t

/-- The invariants hold of the machine right after reset. -/
def Obligations.InvariantsHoldAtReset : Prop :=
  MotorsInRange State.reset ∧ BanksTakeTurns State.reset ∧ SizesHold State.reset ∧ OwnersWait State.reset ∧
    ExposureInRange State.reset.exposure ∧ SteadyInRange State.reset.steady ∧ OffsetsInMargins State.reset ∧
    PoolHolds State.reset
end

