-- ==== Sys2Proof/Laws/State.lean ====
section
/-! SUPPORT. One lemma per field of the state for each update: what it sets, and that it leaves the rest. -/

namespace Sys2Proof.Machine

variable (s : State)

/-! ### setMotor -/

@[simp] theorem setMotor_pending (id : MotorId) (m : Motor) : (setMotor id m s).pending = s.pending :=
  by cases id <;> rfl
@[simp] theorem setMotor_hostOut (id : MotorId) (m : Motor) : (setMotor id m s).hostOut = s.hostOut :=
  by cases id <;> rfl
@[simp] theorem setMotor_freeCount (id : MotorId) (m : Motor) : (setMotor id m s).freeCount = s.freeCount :=
  by cases id <;> rfl
@[simp] theorem setMotor_resetN (id : MotorId) (m : Motor) : (setMotor id m s).resetN = s.resetN :=
  by cases id <;> rfl
@[simp] theorem setMotor_partTime (id : MotorId) (m : Motor) : (setMotor id m s).partTime = s.partTime :=
  by cases id <;> rfl
@[simp] theorem setMotor_partState (id : MotorId) (m : Motor) : (setMotor id m s).partState = s.partState :=
  by cases id <;> rfl
@[simp] theorem setMotor_attn (id : MotorId) (m : Motor) : (setMotor id m s).attn = s.attn := by cases id <;> rfl
@[simp] theorem setMotor_windows (id : MotorId) (m : Motor) : (setMotor id m s).windows = s.windows :=
  by cases id <;> rfl
@[simp] theorem setMotor_port (id : MotorId) (m : Motor) : (setMotor id m s).port = s.port := by cases id <;> rfl
@[simp] theorem setMotor_frames (id : MotorId) (m : Motor) : (setMotor id m s).frames = s.frames :=
  by cases id <;> rfl
@[simp] theorem setMotor_stats (id : MotorId) (m : Motor) : (setMotor id m s).stats = s.stats := by cases id <;> rfl
@[simp] theorem setMotor_exposure (id : MotorId) (m : Motor) : (setMotor id m s).exposure = s.exposure :=
  by cases id <;> rfl
@[simp] theorem setMotor_focus (id : MotorId) (m : Motor) : (setMotor id m s).focus = s.focus := by cases id <;> rfl
@[simp] theorem setMotor_link (id : MotorId) (m : Motor) : (setMotor id m s).link = s.link := by cases id <;> rfl
@[simp] theorem setMotor_steady (id : MotorId) (m : Motor) : (setMotor id m s).steady = s.steady :=
  by cases id <;> rfl
@[simp] theorem setMotor_store (id : MotorId) (m : Motor) : (setMotor id m s).store = s.store := by cases id <;> rfl
@[simp] theorem setMotor_orders (id : MotorId) (m : Motor) : (setMotor id m s).orders = s.orders :=
  by cases id <;> rfl
@[simp] theorem setMotor_status (id : MotorId) (m : Motor) : (setMotor id m s).status = s.status :=
  by cases id <;> rfl

/-! ### setRecord -/

@[simp] theorem setRecord_pending (b : Nat) (f : FrameRecord) : (setRecord b f s).pending = s.pending := rfl
@[simp] theorem setRecord_hostOut (b : Nat) (f : FrameRecord) : (setRecord b f s).hostOut = s.hostOut := rfl
@[simp] theorem setRecord_freeCount (b : Nat) (f : FrameRecord) : (setRecord b f s).freeCount = s.freeCount := rfl
@[simp] theorem setRecord_resetN (b : Nat) (f : FrameRecord) : (setRecord b f s).resetN = s.resetN := rfl
@[simp] theorem setRecord_partTime (b : Nat) (f : FrameRecord) : (setRecord b f s).partTime = s.partTime := rfl
@[simp] theorem setRecord_partState (b : Nat) (f : FrameRecord) : (setRecord b f s).partState = s.partState := rfl
@[simp] theorem setRecord_attn (b : Nat) (f : FrameRecord) : (setRecord b f s).attn = s.attn := rfl
@[simp] theorem setRecord_windows (b : Nat) (f : FrameRecord) : (setRecord b f s).windows = s.windows := rfl
@[simp] theorem setRecord_port (b : Nat) (f : FrameRecord) : (setRecord b f s).port = s.port := rfl
@[simp] theorem setRecord_frames (b : Nat) (f : FrameRecord) : (setRecord b f s).frames = { s.frames with table := s.frames.table.set b f } :=
  rfl
@[simp] theorem setRecord_stats (b : Nat) (f : FrameRecord) : (setRecord b f s).stats = s.stats := rfl
@[simp] theorem setRecord_exposure (b : Nat) (f : FrameRecord) : (setRecord b f s).exposure = s.exposure := rfl
@[simp] theorem setRecord_focus (b : Nat) (f : FrameRecord) : (setRecord b f s).focus = s.focus := rfl
@[simp] theorem setRecord_lens (b : Nat) (f : FrameRecord) : (setRecord b f s).lens = s.lens := rfl
@[simp] theorem setRecord_link (b : Nat) (f : FrameRecord) : (setRecord b f s).link = s.link := rfl
@[simp] theorem setRecord_steady (b : Nat) (f : FrameRecord) : (setRecord b f s).steady = s.steady := rfl
@[simp] theorem setRecord_store (b : Nat) (f : FrameRecord) : (setRecord b f s).store = s.store := rfl
@[simp] theorem setRecord_orders (b : Nat) (f : FrameRecord) : (setRecord b f s).orders = s.orders := rfl
@[simp] theorem setRecord_status (b : Nat) (f : FrameRecord) : (setRecord b f s).status = s.status := rfl

/-! ### setEntry -/

@[simp] theorem setEntry_pending (k : Nat) (e : MapEntry) : (setEntry k e s).pending = s.pending := rfl
@[simp] theorem setEntry_hostOut (k : Nat) (e : MapEntry) : (setEntry k e s).hostOut = s.hostOut := rfl
@[simp] theorem setEntry_freeCount (k : Nat) (e : MapEntry) : (setEntry k e s).freeCount = s.freeCount := rfl
@[simp] theorem setEntry_resetN (k : Nat) (e : MapEntry) : (setEntry k e s).resetN = s.resetN := rfl
@[simp] theorem setEntry_partTime (k : Nat) (e : MapEntry) : (setEntry k e s).partTime = s.partTime := rfl
@[simp] theorem setEntry_partState (k : Nat) (e : MapEntry) : (setEntry k e s).partState = s.partState := rfl
@[simp] theorem setEntry_attn (k : Nat) (e : MapEntry) : (setEntry k e s).attn = s.attn := rfl
@[simp] theorem setEntry_windows (k : Nat) (e : MapEntry) : (setEntry k e s).windows = s.windows := rfl
@[simp] theorem setEntry_port (k : Nat) (e : MapEntry) : (setEntry k e s).port = s.port := rfl
@[simp] theorem setEntry_frames (k : Nat) (e : MapEntry) : (setEntry k e s).frames = { s.frames with map := s.frames.map.set k e } :=
  rfl
@[simp] theorem setEntry_stats (k : Nat) (e : MapEntry) : (setEntry k e s).stats = s.stats := rfl
@[simp] theorem setEntry_exposure (k : Nat) (e : MapEntry) : (setEntry k e s).exposure = s.exposure := rfl
@[simp] theorem setEntry_focus (k : Nat) (e : MapEntry) : (setEntry k e s).focus = s.focus := rfl
@[simp] theorem setEntry_lens (k : Nat) (e : MapEntry) : (setEntry k e s).lens = s.lens := rfl
@[simp] theorem setEntry_link (k : Nat) (e : MapEntry) : (setEntry k e s).link = s.link := rfl
@[simp] theorem setEntry_steady (k : Nat) (e : MapEntry) : (setEntry k e s).steady = s.steady := rfl
@[simp] theorem setEntry_store (k : Nat) (e : MapEntry) : (setEntry k e s).store = s.store := rfl
@[simp] theorem setEntry_orders (k : Nat) (e : MapEntry) : (setEntry k e s).orders = s.orders := rfl
@[simp] theorem setEntry_status (k : Nat) (e : MapEntry) : (setEntry k e s).status = s.status := rfl

/-! ### setFree -/

@[simp] theorem setFree_pending (l : List Nat) : (setFree l s).pending = s.pending := rfl
@[simp] theorem setFree_hostOut (l : List Nat) : (setFree l s).hostOut = s.hostOut := rfl
@[simp] theorem setFree_freeCount (l : List Nat) : (setFree l s).freeCount = s.freeCount := rfl
@[simp] theorem setFree_resetN (l : List Nat) : (setFree l s).resetN = s.resetN := rfl
@[simp] theorem setFree_partTime (l : List Nat) : (setFree l s).partTime = s.partTime := rfl
@[simp] theorem setFree_partState (l : List Nat) : (setFree l s).partState = s.partState := rfl
@[simp] theorem setFree_attn (l : List Nat) : (setFree l s).attn = s.attn := rfl
@[simp] theorem setFree_windows (l : List Nat) : (setFree l s).windows = s.windows := rfl
@[simp] theorem setFree_port (l : List Nat) : (setFree l s).port = s.port := rfl
@[simp] theorem setFree_frames (l : List Nat) : (setFree l s).frames = { s.frames with free := l } := rfl
@[simp] theorem setFree_stats (l : List Nat) : (setFree l s).stats = s.stats := rfl
@[simp] theorem setFree_exposure (l : List Nat) : (setFree l s).exposure = s.exposure := rfl
@[simp] theorem setFree_focus (l : List Nat) : (setFree l s).focus = s.focus := rfl
@[simp] theorem setFree_lens (l : List Nat) : (setFree l s).lens = s.lens := rfl
@[simp] theorem setFree_link (l : List Nat) : (setFree l s).link = s.link := rfl
@[simp] theorem setFree_steady (l : List Nat) : (setFree l s).steady = s.steady := rfl
@[simp] theorem setFree_store (l : List Nat) : (setFree l s).store = s.store := rfl
@[simp] theorem setFree_orders (l : List Nat) : (setFree l s).orders = s.orders := rfl
@[simp] theorem setFree_status (l : List Nat) : (setFree l s).status = s.status := rfl

/-! ### setBank -/

@[simp] theorem setBank_pending (id : BankId) (b : Bank) : (setBank id b s).pending = s.pending := by cases id <;> rfl
@[simp] theorem setBank_hostOut (id : BankId) (b : Bank) : (setBank id b s).hostOut = s.hostOut := by cases id <;> rfl
@[simp] theorem setBank_freeCount (id : BankId) (b : Bank) : (setBank id b s).freeCount = s.freeCount :=
  by cases id <;> rfl
@[simp] theorem setBank_resetN (id : BankId) (b : Bank) : (setBank id b s).resetN = s.resetN := by cases id <;> rfl
@[simp] theorem setBank_partTime (id : BankId) (b : Bank) : (setBank id b s).partTime = s.partTime :=
  by cases id <;> rfl
@[simp] theorem setBank_partState (id : BankId) (b : Bank) : (setBank id b s).partState = s.partState :=
  by cases id <;> rfl
@[simp] theorem setBank_attn (id : BankId) (b : Bank) : (setBank id b s).attn = s.attn := by cases id <;> rfl
@[simp] theorem setBank_windows (id : BankId) (b : Bank) : (setBank id b s).windows = s.windows := by cases id <;> rfl
@[simp] theorem setBank_port (id : BankId) (b : Bank) : (setBank id b s).port = s.port := by cases id <;> rfl
@[simp] theorem setBank_frames (id : BankId) (b : Bank) : (setBank id b s).frames = s.frames := by cases id <;> rfl
@[simp] theorem setBank_exposure (id : BankId) (b : Bank) : (setBank id b s).exposure = s.exposure :=
  by cases id <;> rfl
@[simp] theorem setBank_focus (id : BankId) (b : Bank) : (setBank id b s).focus = s.focus := by cases id <;> rfl
@[simp] theorem setBank_lens (id : BankId) (b : Bank) : (setBank id b s).lens = s.lens := by cases id <;> rfl
@[simp] theorem setBank_link (id : BankId) (b : Bank) : (setBank id b s).link = s.link := by cases id <;> rfl
@[simp] theorem setBank_steady (id : BankId) (b : Bank) : (setBank id b s).steady = s.steady := by cases id <;> rfl
@[simp] theorem setBank_store (id : BankId) (b : Bank) : (setBank id b s).store = s.store := by cases id <;> rfl
@[simp] theorem setBank_orders (id : BankId) (b : Bank) : (setBank id b s).orders = s.orders := by cases id <;> rfl
@[simp] theorem setBank_status (id : BankId) (b : Bank) : (setBank id b s).status = s.status := by cases id <;> rfl

/-! ### setSlot -/

@[simp] theorem setSlot_pending (j : Nat) (x : Slot) : (setSlot j x s).pending = s.pending := rfl
@[simp] theorem setSlot_hostOut (j : Nat) (x : Slot) : (setSlot j x s).hostOut = s.hostOut := rfl
@[simp] theorem setSlot_freeCount (j : Nat) (x : Slot) : (setSlot j x s).freeCount = s.freeCount := rfl
@[simp] theorem setSlot_resetN (j : Nat) (x : Slot) : (setSlot j x s).resetN = s.resetN := rfl
@[simp] theorem setSlot_partTime (j : Nat) (x : Slot) : (setSlot j x s).partTime = s.partTime := rfl
@[simp] theorem setSlot_partState (j : Nat) (x : Slot) : (setSlot j x s).partState = s.partState := rfl
@[simp] theorem setSlot_attn (j : Nat) (x : Slot) : (setSlot j x s).attn = s.attn := rfl
@[simp] theorem setSlot_windows (j : Nat) (x : Slot) : (setSlot j x s).windows = s.windows := rfl
@[simp] theorem setSlot_port (j : Nat) (x : Slot) : (setSlot j x s).port = s.port := rfl
@[simp] theorem setSlot_frames (j : Nat) (x : Slot) : (setSlot j x s).frames = s.frames := rfl
@[simp] theorem setSlot_stats (j : Nat) (x : Slot) : (setSlot j x s).stats = s.stats := rfl
@[simp] theorem setSlot_exposure (j : Nat) (x : Slot) : (setSlot j x s).exposure = s.exposure := rfl
@[simp] theorem setSlot_focus (j : Nat) (x : Slot) : (setSlot j x s).focus = s.focus := rfl
@[simp] theorem setSlot_lens (j : Nat) (x : Slot) : (setSlot j x s).lens = s.lens := rfl
@[simp] theorem setSlot_link (j : Nat) (x : Slot) : (setSlot j x s).link = s.link := rfl
@[simp] theorem setSlot_steady (j : Nat) (x : Slot) : (setSlot j x s).steady = s.steady := rfl
@[simp] theorem setSlot_store (j : Nat) (x : Slot) : (setSlot j x s).store = { s.store with slots := s.store.slots.set j x, slotDirty := s.store.slotDirty.set j true } :=
  rfl
@[simp] theorem setSlot_orders (j : Nat) (x : Slot) : (setSlot j x s).orders = s.orders := rfl
@[simp] theorem setSlot_status (j : Nat) (x : Slot) : (setSlot j x s).status = s.status := rfl

/-! ### setShot -/

@[simp] theorem setShot_pending (e : Nat) (x : Option Shot) : (setShot e x s).pending = s.pending := rfl
@[simp] theorem setShot_hostOut (e : Nat) (x : Option Shot) : (setShot e x s).hostOut = s.hostOut := rfl
@[simp] theorem setShot_freeCount (e : Nat) (x : Option Shot) : (setShot e x s).freeCount = s.freeCount := rfl
@[simp] theorem setShot_resetN (e : Nat) (x : Option Shot) : (setShot e x s).resetN = s.resetN := rfl
@[simp] theorem setShot_partTime (e : Nat) (x : Option Shot) : (setShot e x s).partTime = s.partTime := rfl
@[simp] theorem setShot_partState (e : Nat) (x : Option Shot) : (setShot e x s).partState = s.partState := rfl
@[simp] theorem setShot_attn (e : Nat) (x : Option Shot) : (setShot e x s).attn = s.attn := rfl
@[simp] theorem setShot_windows (e : Nat) (x : Option Shot) : (setShot e x s).windows = s.windows := rfl
@[simp] theorem setShot_port (e : Nat) (x : Option Shot) : (setShot e x s).port = s.port := rfl
@[simp] theorem setShot_frames (e : Nat) (x : Option Shot) : (setShot e x s).frames = s.frames := rfl
@[simp] theorem setShot_stats (e : Nat) (x : Option Shot) : (setShot e x s).stats = s.stats := rfl
@[simp] theorem setShot_exposure (e : Nat) (x : Option Shot) : (setShot e x s).exposure = s.exposure := rfl
@[simp] theorem setShot_focus (e : Nat) (x : Option Shot) : (setShot e x s).focus = s.focus := rfl
@[simp] theorem setShot_lens (e : Nat) (x : Option Shot) : (setShot e x s).lens = s.lens := rfl
@[simp] theorem setShot_link (e : Nat) (x : Option Shot) : (setShot e x s).link = s.link := rfl
@[simp] theorem setShot_steady (e : Nat) (x : Option Shot) : (setShot e x s).steady = s.steady := rfl
@[simp] theorem setShot_store (e : Nat) (x : Option Shot) : (setShot e x s).store = { s.store with shots := s.store.shots.set e x, shotDirty := s.store.shotDirty.set e true } :=
  rfl
@[simp] theorem setShot_orders (e : Nat) (x : Option Shot) : (setShot e x s).orders = s.orders := rfl
@[simp] theorem setShot_status (e : Nat) (x : Option Shot) : (setShot e x s).status = s.status := rfl

/-! ### requestOwn -/

@[simp] theorem requestOwn_pending (o : Owner) (a : Nat) (d : Direction) (n : Nat) (bs : List Byte) (ms : List Bool) : (requestOwn o a d n bs ms s).pending = s.pending :=
  rfl
@[simp] theorem requestOwn_hostOut (o : Owner) (a : Nat) (d : Direction) (n : Nat) (bs : List Byte) (ms : List Bool) : (requestOwn o a d n bs ms s).hostOut = s.hostOut :=
  rfl
@[simp] theorem requestOwn_freeCount (o : Owner) (a : Nat) (d : Direction) (n : Nat) (bs : List Byte) (ms : List Bool) : (requestOwn o a d n bs ms s).freeCount = s.freeCount :=
  rfl
@[simp] theorem requestOwn_resetN (o : Owner) (a : Nat) (d : Direction) (n : Nat) (bs : List Byte) (ms : List Bool) : (requestOwn o a d n bs ms s).resetN = s.resetN :=
  rfl
@[simp] theorem requestOwn_partTime (o : Owner) (a : Nat) (d : Direction) (n : Nat) (bs : List Byte) (ms : List Bool) : (requestOwn o a d n bs ms s).partTime = s.partTime :=
  rfl
@[simp] theorem requestOwn_partState (o : Owner) (a : Nat) (d : Direction) (n : Nat) (bs : List Byte) (ms : List Bool) : (requestOwn o a d n bs ms s).partState = s.partState :=
  rfl
@[simp] theorem requestOwn_attn (o : Owner) (a : Nat) (d : Direction) (n : Nat) (bs : List Byte) (ms : List Bool) : (requestOwn o a d n bs ms s).attn = s.attn :=
  rfl
@[simp] theorem requestOwn_windows (o : Owner) (a : Nat) (d : Direction) (n : Nat) (bs : List Byte) (ms : List Bool) : (requestOwn o a d n bs ms s).windows = s.windows :=
  rfl
@[simp] theorem requestOwn_frames (o : Owner) (a : Nat) (d : Direction) (n : Nat) (bs : List Byte) (ms : List Bool) : (requestOwn o a d n bs ms s).frames = s.frames :=
  rfl
@[simp] theorem requestOwn_stats (o : Owner) (a : Nat) (d : Direction) (n : Nat) (bs : List Byte) (ms : List Bool) : (requestOwn o a d n bs ms s).stats = s.stats :=
  rfl
@[simp] theorem requestOwn_exposure (o : Owner) (a : Nat) (d : Direction) (n : Nat) (bs : List Byte) (ms : List Bool) : (requestOwn o a d n bs ms s).exposure = s.exposure :=
  rfl
@[simp] theorem requestOwn_focus (o : Owner) (a : Nat) (d : Direction) (n : Nat) (bs : List Byte) (ms : List Bool) : (requestOwn o a d n bs ms s).focus = s.focus :=
  rfl
@[simp] theorem requestOwn_lens (o : Owner) (a : Nat) (d : Direction) (n : Nat) (bs : List Byte) (ms : List Bool) : (requestOwn o a d n bs ms s).lens = s.lens :=
  rfl
@[simp] theorem requestOwn_link (o : Owner) (a : Nat) (d : Direction) (n : Nat) (bs : List Byte) (ms : List Bool) : (requestOwn o a d n bs ms s).link = s.link :=
  rfl
@[simp] theorem requestOwn_steady (o : Owner) (a : Nat) (d : Direction) (n : Nat) (bs : List Byte) (ms : List Bool) : (requestOwn o a d n bs ms s).steady = s.steady :=
  rfl
@[simp] theorem requestOwn_store (o : Owner) (a : Nat) (d : Direction) (n : Nat) (bs : List Byte) (ms : List Bool) : (requestOwn o a d n bs ms s).store = s.store :=
  rfl
@[simp] theorem requestOwn_orders (o : Owner) (a : Nat) (d : Direction) (n : Nat) (bs : List Byte) (ms : List Bool) : (requestOwn o a d n bs ms s).orders = s.orders :=
  rfl
@[simp] theorem requestOwn_status (o : Owner) (a : Nat) (d : Direction) (n : Nat) (bs : List Byte) (ms : List Bool) : (requestOwn o a d n bs ms s).status = s.status :=
  rfl

/-! ### requestOwnWrite -/

@[simp] theorem requestOwnWrite_pending (o : Owner) (a : Nat) (bs : List Byte) : (requestOwnWrite o a bs s).pending = s.pending :=
  rfl
@[simp] theorem requestOwnWrite_hostOut (o : Owner) (a : Nat) (bs : List Byte) : (requestOwnWrite o a bs s).hostOut = s.hostOut :=
  rfl
@[simp] theorem requestOwnWrite_freeCount (o : Owner) (a : Nat) (bs : List Byte) : (requestOwnWrite o a bs s).freeCount = s.freeCount :=
  rfl
@[simp] theorem requestOwnWrite_resetN (o : Owner) (a : Nat) (bs : List Byte) : (requestOwnWrite o a bs s).resetN = s.resetN :=
  rfl
@[simp] theorem requestOwnWrite_partTime (o : Owner) (a : Nat) (bs : List Byte) : (requestOwnWrite o a bs s).partTime = s.partTime :=
  rfl
@[simp] theorem requestOwnWrite_partState (o : Owner) (a : Nat) (bs : List Byte) : (requestOwnWrite o a bs s).partState = s.partState :=
  rfl
@[simp] theorem requestOwnWrite_attn (o : Owner) (a : Nat) (bs : List Byte) : (requestOwnWrite o a bs s).attn = s.attn :=
  rfl
@[simp] theorem requestOwnWrite_windows (o : Owner) (a : Nat) (bs : List Byte) : (requestOwnWrite o a bs s).windows = s.windows :=
  rfl
@[simp] theorem requestOwnWrite_frames (o : Owner) (a : Nat) (bs : List Byte) : (requestOwnWrite o a bs s).frames = s.frames :=
  rfl
@[simp] theorem requestOwnWrite_stats (o : Owner) (a : Nat) (bs : List Byte) : (requestOwnWrite o a bs s).stats = s.stats :=
  rfl
@[simp] theorem requestOwnWrite_exposure (o : Owner) (a : Nat) (bs : List Byte) : (requestOwnWrite o a bs s).exposure = s.exposure :=
  rfl
@[simp] theorem requestOwnWrite_focus (o : Owner) (a : Nat) (bs : List Byte) : (requestOwnWrite o a bs s).focus = s.focus :=
  rfl
@[simp] theorem requestOwnWrite_lens (o : Owner) (a : Nat) (bs : List Byte) : (requestOwnWrite o a bs s).lens = s.lens :=
  rfl
@[simp] theorem requestOwnWrite_link (o : Owner) (a : Nat) (bs : List Byte) : (requestOwnWrite o a bs s).link = s.link :=
  rfl
@[simp] theorem requestOwnWrite_steady (o : Owner) (a : Nat) (bs : List Byte) : (requestOwnWrite o a bs s).steady = s.steady :=
  rfl
@[simp] theorem requestOwnWrite_store (o : Owner) (a : Nat) (bs : List Byte) : (requestOwnWrite o a bs s).store = s.store :=
  rfl
@[simp] theorem requestOwnWrite_orders (o : Owner) (a : Nat) (bs : List Byte) : (requestOwnWrite o a bs s).orders = s.orders :=
  rfl
@[simp] theorem requestOwnWrite_status (o : Owner) (a : Nat) (bs : List Byte) : (requestOwnWrite o a bs s).status = s.status :=
  rfl

/-! ### sendCompletion -/

@[simp] theorem sendCompletion_pending (c : HostCompletion) : (sendCompletion c s).pending = s.pending := rfl
@[simp] theorem sendCompletion_hostOut (c : HostCompletion) : (sendCompletion c s).hostOut = s.hostOut ++ [c] := rfl
@[simp] theorem sendCompletion_freeCount (c : HostCompletion) : (sendCompletion c s).freeCount = s.freeCount := rfl
@[simp] theorem sendCompletion_resetN (c : HostCompletion) : (sendCompletion c s).resetN = s.resetN := rfl
@[simp] theorem sendCompletion_partTime (c : HostCompletion) : (sendCompletion c s).partTime = s.partTime := rfl
@[simp] theorem sendCompletion_partState (c : HostCompletion) : (sendCompletion c s).partState = s.partState := rfl
@[simp] theorem sendCompletion_attn (c : HostCompletion) : (sendCompletion c s).attn = s.attn := rfl
@[simp] theorem sendCompletion_windows (c : HostCompletion) : (sendCompletion c s).windows = s.windows := rfl
@[simp] theorem sendCompletion_port (c : HostCompletion) : (sendCompletion c s).port = s.port := rfl
@[simp] theorem sendCompletion_frames (c : HostCompletion) : (sendCompletion c s).frames = s.frames := rfl
@[simp] theorem sendCompletion_stats (c : HostCompletion) : (sendCompletion c s).stats = s.stats := rfl
@[simp] theorem sendCompletion_exposure (c : HostCompletion) : (sendCompletion c s).exposure = s.exposure := rfl
@[simp] theorem sendCompletion_focus (c : HostCompletion) : (sendCompletion c s).focus = s.focus := rfl
@[simp] theorem sendCompletion_lens (c : HostCompletion) : (sendCompletion c s).lens = s.lens := rfl
@[simp] theorem sendCompletion_link (c : HostCompletion) : (sendCompletion c s).link = s.link := rfl
@[simp] theorem sendCompletion_steady (c : HostCompletion) : (sendCompletion c s).steady = s.steady := rfl
@[simp] theorem sendCompletion_store (c : HostCompletion) : (sendCompletion c s).store = s.store := rfl
@[simp] theorem sendCompletion_orders (c : HostCompletion) : (sendCompletion c s).orders = s.orders := rfl
@[simp] theorem sendCompletion_status (c : HostCompletion) : (sendCompletion c s).status = s.status := rfl

/-! ### latch -/

@[simp] theorem latch_pending (b : LatchedBit) : (latch b s).pending = s.pending := rfl
@[simp] theorem latch_hostOut (b : LatchedBit) : (latch b s).hostOut = s.hostOut := rfl
@[simp] theorem latch_freeCount (b : LatchedBit) : (latch b s).freeCount = s.freeCount := rfl
@[simp] theorem latch_resetN (b : LatchedBit) : (latch b s).resetN = s.resetN := rfl
@[simp] theorem latch_partTime (b : LatchedBit) : (latch b s).partTime = s.partTime := rfl
@[simp] theorem latch_partState (b : LatchedBit) : (latch b s).partState = s.partState := rfl
@[simp] theorem latch_attn (b : LatchedBit) : (latch b s).attn = s.attn := rfl
@[simp] theorem latch_windows (b : LatchedBit) : (latch b s).windows = s.windows := rfl
@[simp] theorem latch_port (b : LatchedBit) : (latch b s).port = s.port := rfl
@[simp] theorem latch_frames (b : LatchedBit) : (latch b s).frames = s.frames := rfl
@[simp] theorem latch_stats (b : LatchedBit) : (latch b s).stats = s.stats := rfl
@[simp] theorem latch_exposure (b : LatchedBit) : (latch b s).exposure = s.exposure := rfl
@[simp] theorem latch_focus (b : LatchedBit) : (latch b s).focus = s.focus := rfl
@[simp] theorem latch_lens (b : LatchedBit) : (latch b s).lens = s.lens := rfl
@[simp] theorem latch_link (b : LatchedBit) : (latch b s).link = s.link := rfl
@[simp] theorem latch_steady (b : LatchedBit) : (latch b s).steady = s.steady := rfl
@[simp] theorem latch_store (b : LatchedBit) : (latch b s).store = s.store := rfl
@[simp] theorem latch_orders (b : LatchedBit) : (latch b s).orders = s.orders := rfl
@[simp] theorem latch_status (b : LatchedBit) : (latch b s).status = { s.status with latched := s.status.latched ||| b.mask } :=
  rfl

/-! ### latchIf -/

@[simp] theorem latchIf_pending (c : Bool) (b : LatchedBit) : (latchIf c b s).pending = s.pending :=
  by unfold latchIf; split <;> rfl
@[simp] theorem latchIf_hostOut (c : Bool) (b : LatchedBit) : (latchIf c b s).hostOut = s.hostOut :=
  by unfold latchIf; split <;> rfl
@[simp] theorem latchIf_freeCount (c : Bool) (b : LatchedBit) : (latchIf c b s).freeCount = s.freeCount :=
  by unfold latchIf; split <;> rfl
@[simp] theorem latchIf_resetN (c : Bool) (b : LatchedBit) : (latchIf c b s).resetN = s.resetN :=
  by unfold latchIf; split <;> rfl
@[simp] theorem latchIf_partTime (c : Bool) (b : LatchedBit) : (latchIf c b s).partTime = s.partTime :=
  by unfold latchIf; split <;> rfl
@[simp] theorem latchIf_partState (c : Bool) (b : LatchedBit) : (latchIf c b s).partState = s.partState :=
  by unfold latchIf; split <;> rfl
@[simp] theorem latchIf_attn (c : Bool) (b : LatchedBit) : (latchIf c b s).attn = s.attn :=
  by unfold latchIf; split <;> rfl
@[simp] theorem latchIf_windows (c : Bool) (b : LatchedBit) : (latchIf c b s).windows = s.windows :=
  by unfold latchIf; split <;> rfl
@[simp] theorem latchIf_port (c : Bool) (b : LatchedBit) : (latchIf c b s).port = s.port :=
  by unfold latchIf; split <;> rfl
@[simp] theorem latchIf_frames (c : Bool) (b : LatchedBit) : (latchIf c b s).frames = s.frames :=
  by unfold latchIf; split <;> rfl
@[simp] theorem latchIf_stats (c : Bool) (b : LatchedBit) : (latchIf c b s).stats = s.stats :=
  by unfold latchIf; split <;> rfl
@[simp] theorem latchIf_exposure (c : Bool) (b : LatchedBit) : (latchIf c b s).exposure = s.exposure :=
  by unfold latchIf; split <;> rfl
@[simp] theorem latchIf_focus (c : Bool) (b : LatchedBit) : (latchIf c b s).focus = s.focus :=
  by unfold latchIf; split <;> rfl
@[simp] theorem latchIf_lens (c : Bool) (b : LatchedBit) : (latchIf c b s).lens = s.lens :=
  by unfold latchIf; split <;> rfl
@[simp] theorem latchIf_link (c : Bool) (b : LatchedBit) : (latchIf c b s).link = s.link :=
  by unfold latchIf; split <;> rfl
@[simp] theorem latchIf_steady (c : Bool) (b : LatchedBit) : (latchIf c b s).steady = s.steady :=
  by unfold latchIf; split <;> rfl
@[simp] theorem latchIf_store (c : Bool) (b : LatchedBit) : (latchIf c b s).store = s.store :=
  by unfold latchIf; split <;> rfl
@[simp] theorem latchIf_orders (c : Bool) (b : LatchedBit) : (latchIf c b s).orders = s.orders :=
  by unfold latchIf; split <;> rfl

/-! ### setCounters -/

@[simp] theorem setCounters_pending (f : Counters → Counters) : (setCounters f s).pending = s.pending := rfl
@[simp] theorem setCounters_hostOut (f : Counters → Counters) : (setCounters f s).hostOut = s.hostOut := rfl
@[simp] theorem setCounters_freeCount (f : Counters → Counters) : (setCounters f s).freeCount = s.freeCount := rfl
@[simp] theorem setCounters_resetN (f : Counters → Counters) : (setCounters f s).resetN = s.resetN := rfl
@[simp] theorem setCounters_partTime (f : Counters → Counters) : (setCounters f s).partTime = s.partTime := rfl
@[simp] theorem setCounters_partState (f : Counters → Counters) : (setCounters f s).partState = s.partState := rfl
@[simp] theorem setCounters_attn (f : Counters → Counters) : (setCounters f s).attn = s.attn := rfl
@[simp] theorem setCounters_windows (f : Counters → Counters) : (setCounters f s).windows = s.windows := rfl
@[simp] theorem setCounters_port (f : Counters → Counters) : (setCounters f s).port = s.port := rfl
@[simp] theorem setCounters_frames (f : Counters → Counters) : (setCounters f s).frames = s.frames := rfl
@[simp] theorem setCounters_stats (f : Counters → Counters) : (setCounters f s).stats = s.stats := rfl
@[simp] theorem setCounters_exposure (f : Counters → Counters) : (setCounters f s).exposure = s.exposure := rfl
@[simp] theorem setCounters_focus (f : Counters → Counters) : (setCounters f s).focus = s.focus := rfl
@[simp] theorem setCounters_lens (f : Counters → Counters) : (setCounters f s).lens = s.lens := rfl
@[simp] theorem setCounters_link (f : Counters → Counters) : (setCounters f s).link = s.link := rfl
@[simp] theorem setCounters_steady (f : Counters → Counters) : (setCounters f s).steady = s.steady := rfl
@[simp] theorem setCounters_store (f : Counters → Counters) : (setCounters f s).store = s.store := rfl
@[simp] theorem setCounters_orders (f : Counters → Counters) : (setCounters f s).orders = s.orders := rfl
@[simp] theorem setCounters_status (f : Counters → Counters) : (setCounters f s).status = { s.status with counters := f s.status.counters } :=
  rfl

/-! ### setFocusState -/

@[simp] theorem setFocusState_pending (st : FocusState) : (setFocusState st s).pending = s.pending := rfl
@[simp] theorem setFocusState_hostOut (st : FocusState) : (setFocusState st s).hostOut = s.hostOut := rfl
@[simp] theorem setFocusState_freeCount (st : FocusState) : (setFocusState st s).freeCount = s.freeCount := rfl
@[simp] theorem setFocusState_resetN (st : FocusState) : (setFocusState st s).resetN = s.resetN := rfl
@[simp] theorem setFocusState_partTime (st : FocusState) : (setFocusState st s).partTime = s.partTime := rfl
@[simp] theorem setFocusState_partState (st : FocusState) : (setFocusState st s).partState = s.partState := rfl
@[simp] theorem setFocusState_attn (st : FocusState) : (setFocusState st s).attn = s.attn := rfl
@[simp] theorem setFocusState_windows (st : FocusState) : (setFocusState st s).windows = s.windows := rfl
@[simp] theorem setFocusState_port (st : FocusState) : (setFocusState st s).port = s.port := rfl
@[simp] theorem setFocusState_frames (st : FocusState) : (setFocusState st s).frames = s.frames := rfl
@[simp] theorem setFocusState_stats (st : FocusState) : (setFocusState st s).stats = s.stats := rfl
@[simp] theorem setFocusState_exposure (st : FocusState) : (setFocusState st s).exposure = s.exposure := rfl
@[simp] theorem setFocusState_focus (st : FocusState) : (setFocusState st s).focus = { s.focus with state := st } :=
  rfl
@[simp] theorem setFocusState_lens (st : FocusState) : (setFocusState st s).lens = s.lens := rfl
@[simp] theorem setFocusState_link (st : FocusState) : (setFocusState st s).link = s.link := rfl
@[simp] theorem setFocusState_steady (st : FocusState) : (setFocusState st s).steady = s.steady := rfl
@[simp] theorem setFocusState_store (st : FocusState) : (setFocusState st s).store = s.store := rfl
@[simp] theorem setFocusState_orders (st : FocusState) : (setFocusState st s).orders = s.orders := rfl
@[simp] theorem setFocusState_status (st : FocusState) : (setFocusState st s).status = s.status := rfl

/-! ### setSearch -/

@[simp] theorem setSearch_pending (r : SearchRecord) : (setSearch r s).pending = s.pending := rfl
@[simp] theorem setSearch_hostOut (r : SearchRecord) : (setSearch r s).hostOut = s.hostOut := rfl
@[simp] theorem setSearch_freeCount (r : SearchRecord) : (setSearch r s).freeCount = s.freeCount := rfl
@[simp] theorem setSearch_resetN (r : SearchRecord) : (setSearch r s).resetN = s.resetN := rfl
@[simp] theorem setSearch_partTime (r : SearchRecord) : (setSearch r s).partTime = s.partTime := rfl
@[simp] theorem setSearch_partState (r : SearchRecord) : (setSearch r s).partState = s.partState := rfl
@[simp] theorem setSearch_attn (r : SearchRecord) : (setSearch r s).attn = s.attn := rfl
@[simp] theorem setSearch_windows (r : SearchRecord) : (setSearch r s).windows = s.windows := rfl
@[simp] theorem setSearch_port (r : SearchRecord) : (setSearch r s).port = s.port := rfl
@[simp] theorem setSearch_frames (r : SearchRecord) : (setSearch r s).frames = s.frames := rfl
@[simp] theorem setSearch_stats (r : SearchRecord) : (setSearch r s).stats = s.stats := rfl
@[simp] theorem setSearch_exposure (r : SearchRecord) : (setSearch r s).exposure = s.exposure := rfl
@[simp] theorem setSearch_focus (r : SearchRecord) : (setSearch r s).focus = { s.focus with search := some r } := rfl
@[simp] theorem setSearch_lens (r : SearchRecord) : (setSearch r s).lens = s.lens := rfl
@[simp] theorem setSearch_link (r : SearchRecord) : (setSearch r s).link = s.link := rfl
@[simp] theorem setSearch_steady (r : SearchRecord) : (setSearch r s).steady = s.steady := rfl
@[simp] theorem setSearch_store (r : SearchRecord) : (setSearch r s).store = s.store := rfl
@[simp] theorem setSearch_orders (r : SearchRecord) : (setSearch r s).orders = s.orders := rfl
@[simp] theorem setSearch_status (r : SearchRecord) : (setSearch r s).status = s.status := rfl

/-! ### setExposure -/

@[simp] theorem setExposure_pending (u : Exposure) : (setExposure u s).pending = s.pending := rfl
@[simp] theorem setExposure_hostOut (u : Exposure) : (setExposure u s).hostOut = s.hostOut := rfl
@[simp] theorem setExposure_freeCount (u : Exposure) : (setExposure u s).freeCount = s.freeCount := rfl
@[simp] theorem setExposure_resetN (u : Exposure) : (setExposure u s).resetN = s.resetN := rfl
@[simp] theorem setExposure_partTime (u : Exposure) : (setExposure u s).partTime = s.partTime := rfl
@[simp] theorem setExposure_partState (u : Exposure) : (setExposure u s).partState = s.partState := rfl
@[simp] theorem setExposure_attn (u : Exposure) : (setExposure u s).attn = s.attn := rfl
@[simp] theorem setExposure_windows (u : Exposure) : (setExposure u s).windows = s.windows := rfl
@[simp] theorem setExposure_port (u : Exposure) : (setExposure u s).port = s.port := rfl
@[simp] theorem setExposure_frames (u : Exposure) : (setExposure u s).frames = s.frames := rfl
@[simp] theorem setExposure_stats (u : Exposure) : (setExposure u s).stats = s.stats := rfl
@[simp] theorem setExposure_exposure (u : Exposure) : (setExposure u s).exposure = u := rfl
@[simp] theorem setExposure_focus (u : Exposure) : (setExposure u s).focus = s.focus := rfl
@[simp] theorem setExposure_lens (u : Exposure) : (setExposure u s).lens = s.lens := rfl
@[simp] theorem setExposure_link (u : Exposure) : (setExposure u s).link = s.link := rfl
@[simp] theorem setExposure_steady (u : Exposure) : (setExposure u s).steady = s.steady := rfl
@[simp] theorem setExposure_store (u : Exposure) : (setExposure u s).store = s.store := rfl
@[simp] theorem setExposure_orders (u : Exposure) : (setExposure u s).orders = s.orders := rfl
@[simp] theorem setExposure_status (u : Exposure) : (setExposure u s).status = s.status := rfl

/-! ### setSteady -/

@[simp] theorem setSteady_pending (u : Steady) : (setSteady u s).pending = s.pending := rfl
@[simp] theorem setSteady_hostOut (u : Steady) : (setSteady u s).hostOut = s.hostOut := rfl
@[simp] theorem setSteady_freeCount (u : Steady) : (setSteady u s).freeCount = s.freeCount := rfl
@[simp] theorem setSteady_resetN (u : Steady) : (setSteady u s).resetN = s.resetN := rfl
@[simp] theorem setSteady_partTime (u : Steady) : (setSteady u s).partTime = s.partTime := rfl
@[simp] theorem setSteady_partState (u : Steady) : (setSteady u s).partState = s.partState := rfl
@[simp] theorem setSteady_attn (u : Steady) : (setSteady u s).attn = s.attn := rfl
@[simp] theorem setSteady_windows (u : Steady) : (setSteady u s).windows = s.windows := rfl
@[simp] theorem setSteady_port (u : Steady) : (setSteady u s).port = s.port := rfl
@[simp] theorem setSteady_frames (u : Steady) : (setSteady u s).frames = s.frames := rfl
@[simp] theorem setSteady_stats (u : Steady) : (setSteady u s).stats = s.stats := rfl
@[simp] theorem setSteady_exposure (u : Steady) : (setSteady u s).exposure = s.exposure := rfl
@[simp] theorem setSteady_focus (u : Steady) : (setSteady u s).focus = s.focus := rfl
@[simp] theorem setSteady_lens (u : Steady) : (setSteady u s).lens = s.lens := rfl
@[simp] theorem setSteady_link (u : Steady) : (setSteady u s).link = s.link := rfl
@[simp] theorem setSteady_steady (u : Steady) : (setSteady u s).steady = u := rfl
@[simp] theorem setSteady_store (u : Steady) : (setSteady u s).store = s.store := rfl
@[simp] theorem setSteady_orders (u : Steady) : (setSteady u s).orders = s.orders := rfl
@[simp] theorem setSteady_status (u : Steady) : (setSteady u s).status = s.status := rfl

/-! ### setLens -/

@[simp] theorem setLens_pending (l : Lens) : (setLens l s).pending = s.pending := rfl
@[simp] theorem setLens_hostOut (l : Lens) : (setLens l s).hostOut = s.hostOut := rfl
@[simp] theorem setLens_freeCount (l : Lens) : (setLens l s).freeCount = s.freeCount := rfl
@[simp] theorem setLens_resetN (l : Lens) : (setLens l s).resetN = s.resetN := rfl
@[simp] theorem setLens_partTime (l : Lens) : (setLens l s).partTime = s.partTime := rfl
@[simp] theorem setLens_partState (l : Lens) : (setLens l s).partState = s.partState := rfl
@[simp] theorem setLens_attn (l : Lens) : (setLens l s).attn = s.attn := rfl
@[simp] theorem setLens_windows (l : Lens) : (setLens l s).windows = s.windows := rfl
@[simp] theorem setLens_port (l : Lens) : (setLens l s).port = s.port := rfl
@[simp] theorem setLens_frames (l : Lens) : (setLens l s).frames = s.frames := rfl
@[simp] theorem setLens_stats (l : Lens) : (setLens l s).stats = s.stats := rfl
@[simp] theorem setLens_exposure (l : Lens) : (setLens l s).exposure = s.exposure := rfl
@[simp] theorem setLens_focus (l : Lens) : (setLens l s).focus = s.focus := rfl
@[simp] theorem setLens_lens (l : Lens) : (setLens l s).lens = l := rfl
@[simp] theorem setLens_link (l : Lens) : (setLens l s).link = s.link := rfl
@[simp] theorem setLens_steady (l : Lens) : (setLens l s).steady = s.steady := rfl
@[simp] theorem setLens_store (l : Lens) : (setLens l s).store = s.store := rfl
@[simp] theorem setLens_orders (l : Lens) : (setLens l s).orders = s.orders := rfl
@[simp] theorem setLens_status (l : Lens) : (setLens l s).status = s.status := rfl

/-! ### setSupply -/

@[simp] theorem setSupply_pending (p : Supply) : (setSupply p s).pending = s.pending := rfl
@[simp] theorem setSupply_hostOut (p : Supply) : (setSupply p s).hostOut = s.hostOut := rfl
@[simp] theorem setSupply_freeCount (p : Supply) : (setSupply p s).freeCount = s.freeCount := rfl
@[simp] theorem setSupply_resetN (p : Supply) : (setSupply p s).resetN = s.resetN := rfl
@[simp] theorem setSupply_partTime (p : Supply) : (setSupply p s).partTime = s.partTime := rfl
@[simp] theorem setSupply_partState (p : Supply) : (setSupply p s).partState = s.partState := rfl
@[simp] theorem setSupply_attn (p : Supply) : (setSupply p s).attn = s.attn := rfl
@[simp] theorem setSupply_windows (p : Supply) : (setSupply p s).windows = s.windows := rfl
@[simp] theorem setSupply_port (p : Supply) : (setSupply p s).port = s.port := rfl
@[simp] theorem setSupply_frames (p : Supply) : (setSupply p s).frames = s.frames := rfl
@[simp] theorem setSupply_stats (p : Supply) : (setSupply p s).stats = s.stats := rfl
@[simp] theorem setSupply_exposure (p : Supply) : (setSupply p s).exposure = s.exposure := rfl
@[simp] theorem setSupply_focus (p : Supply) : (setSupply p s).focus = s.focus := rfl
@[simp] theorem setSupply_lens (p : Supply) : (setSupply p s).lens = { s.lens with supply := p } := rfl
@[simp] theorem setSupply_link (p : Supply) : (setSupply p s).link = s.link := rfl
@[simp] theorem setSupply_steady (p : Supply) : (setSupply p s).steady = s.steady := rfl
@[simp] theorem setSupply_store (p : Supply) : (setSupply p s).store = s.store := rfl
@[simp] theorem setSupply_orders (p : Supply) : (setSupply p s).orders = s.orders := rfl
@[simp] theorem setSupply_status (p : Supply) : (setSupply p s).status = s.status := rfl

/-! ### setZoomHomed -/

@[simp] theorem setZoomHomed_pending (b : Bool) : (setZoomHomed b s).pending = s.pending := rfl
@[simp] theorem setZoomHomed_hostOut (b : Bool) : (setZoomHomed b s).hostOut = s.hostOut := rfl
@[simp] theorem setZoomHomed_freeCount (b : Bool) : (setZoomHomed b s).freeCount = s.freeCount := rfl
@[simp] theorem setZoomHomed_resetN (b : Bool) : (setZoomHomed b s).resetN = s.resetN := rfl
@[simp] theorem setZoomHomed_partTime (b : Bool) : (setZoomHomed b s).partTime = s.partTime := rfl
@[simp] theorem setZoomHomed_partState (b : Bool) : (setZoomHomed b s).partState = s.partState := rfl
@[simp] theorem setZoomHomed_attn (b : Bool) : (setZoomHomed b s).attn = s.attn := rfl
@[simp] theorem setZoomHomed_windows (b : Bool) : (setZoomHomed b s).windows = s.windows := rfl
@[simp] theorem setZoomHomed_port (b : Bool) : (setZoomHomed b s).port = s.port := rfl
@[simp] theorem setZoomHomed_frames (b : Bool) : (setZoomHomed b s).frames = s.frames := rfl
@[simp] theorem setZoomHomed_stats (b : Bool) : (setZoomHomed b s).stats = s.stats := rfl
@[simp] theorem setZoomHomed_exposure (b : Bool) : (setZoomHomed b s).exposure = s.exposure := rfl
@[simp] theorem setZoomHomed_focus (b : Bool) : (setZoomHomed b s).focus = s.focus := rfl
@[simp] theorem setZoomHomed_lens (b : Bool) : (setZoomHomed b s).lens = { s.lens with zoomHomed := b } := rfl
@[simp] theorem setZoomHomed_link (b : Bool) : (setZoomHomed b s).link = s.link := rfl
@[simp] theorem setZoomHomed_steady (b : Bool) : (setZoomHomed b s).steady = s.steady := rfl
@[simp] theorem setZoomHomed_store (b : Bool) : (setZoomHomed b s).store = s.store := rfl
@[simp] theorem setZoomHomed_orders (b : Bool) : (setZoomHomed b s).orders = s.orders := rfl
@[simp] theorem setZoomHomed_status (b : Bool) : (setZoomHomed b s).status = s.status := rfl

/-! ### setLink -/

@[simp] theorem setLink_pending (l : Link) : (setLink l s).pending = s.pending := rfl
@[simp] theorem setLink_hostOut (l : Link) : (setLink l s).hostOut = s.hostOut := rfl
@[simp] theorem setLink_freeCount (l : Link) : (setLink l s).freeCount = s.freeCount := rfl
@[simp] theorem setLink_resetN (l : Link) : (setLink l s).resetN = s.resetN := rfl
@[simp] theorem setLink_partTime (l : Link) : (setLink l s).partTime = s.partTime := rfl
@[simp] theorem setLink_partState (l : Link) : (setLink l s).partState = s.partState := rfl
@[simp] theorem setLink_attn (l : Link) : (setLink l s).attn = s.attn := rfl
@[simp] theorem setLink_windows (l : Link) : (setLink l s).windows = s.windows := rfl
@[simp] theorem setLink_port (l : Link) : (setLink l s).port = s.port := rfl
@[simp] theorem setLink_frames (l : Link) : (setLink l s).frames = s.frames := rfl
@[simp] theorem setLink_stats (l : Link) : (setLink l s).stats = s.stats := rfl
@[simp] theorem setLink_exposure (l : Link) : (setLink l s).exposure = s.exposure := rfl
@[simp] theorem setLink_focus (l : Link) : (setLink l s).focus = s.focus := rfl
@[simp] theorem setLink_lens (l : Link) : (setLink l s).lens = s.lens := rfl
@[simp] theorem setLink_link (l : Link) : (setLink l s).link = l := rfl
@[simp] theorem setLink_steady (l : Link) : (setLink l s).steady = s.steady := rfl
@[simp] theorem setLink_store (l : Link) : (setLink l s).store = s.store := rfl
@[simp] theorem setLink_orders (l : Link) : (setLink l s).orders = s.orders := rfl
@[simp] theorem setLink_status (l : Link) : (setLink l s).status = s.status := rfl

/-! ### setFails -/

@[simp] theorem setFails_pending (t : Target) (n : Nat) : (setFails t n s).pending = s.pending := by cases t <;> rfl
@[simp] theorem setFails_hostOut (t : Target) (n : Nat) : (setFails t n s).hostOut = s.hostOut := by cases t <;> rfl
@[simp] theorem setFails_freeCount (t : Target) (n : Nat) : (setFails t n s).freeCount = s.freeCount :=
  by cases t <;> rfl
@[simp] theorem setFails_resetN (t : Target) (n : Nat) : (setFails t n s).resetN = s.resetN := by cases t <;> rfl
@[simp] theorem setFails_partTime (t : Target) (n : Nat) : (setFails t n s).partTime = s.partTime :=
  by cases t <;> rfl
@[simp] theorem setFails_partState (t : Target) (n : Nat) : (setFails t n s).partState = s.partState :=
  by cases t <;> rfl
@[simp] theorem setFails_attn (t : Target) (n : Nat) : (setFails t n s).attn = s.attn := by cases t <;> rfl
@[simp] theorem setFails_windows (t : Target) (n : Nat) : (setFails t n s).windows = s.windows := by cases t <;> rfl
@[simp] theorem setFails_port (t : Target) (n : Nat) : (setFails t n s).port = s.port := by cases t <;> rfl
@[simp] theorem setFails_frames (t : Target) (n : Nat) : (setFails t n s).frames = s.frames := by cases t <;> rfl
@[simp] theorem setFails_stats (t : Target) (n : Nat) : (setFails t n s).stats = s.stats := by cases t <;> rfl
@[simp] theorem setFails_exposure (t : Target) (n : Nat) : (setFails t n s).exposure = s.exposure :=
  by cases t <;> rfl
@[simp] theorem setFails_focus (t : Target) (n : Nat) : (setFails t n s).focus = s.focus := by cases t <;> rfl
@[simp] theorem setFails_lens (t : Target) (n : Nat) : (setFails t n s).lens = s.lens := by cases t <;> rfl
@[simp] theorem setFails_steady (t : Target) (n : Nat) : (setFails t n s).steady = s.steady := by cases t <;> rfl
@[simp] theorem setFails_store (t : Target) (n : Nat) : (setFails t n s).store = s.store := by cases t <;> rfl
@[simp] theorem setFails_orders (t : Target) (n : Nat) : (setFails t n s).orders = s.orders := by cases t <;> rfl
@[simp] theorem setFails_status (t : Target) (n : Nat) : (setFails t n s).status = s.status := by cases t <;> rfl

/-! ### setStore -/

@[simp] theorem setStore_pending (st : Store) : (setStore st s).pending = s.pending := rfl
@[simp] theorem setStore_hostOut (st : Store) : (setStore st s).hostOut = s.hostOut := rfl
@[simp] theorem setStore_freeCount (st : Store) : (setStore st s).freeCount = s.freeCount := rfl
@[simp] theorem setStore_resetN (st : Store) : (setStore st s).resetN = s.resetN := rfl
@[simp] theorem setStore_partTime (st : Store) : (setStore st s).partTime = s.partTime := rfl
@[simp] theorem setStore_partState (st : Store) : (setStore st s).partState = s.partState := rfl
@[simp] theorem setStore_attn (st : Store) : (setStore st s).attn = s.attn := rfl
@[simp] theorem setStore_windows (st : Store) : (setStore st s).windows = s.windows := rfl
@[simp] theorem setStore_port (st : Store) : (setStore st s).port = s.port := rfl
@[simp] theorem setStore_frames (st : Store) : (setStore st s).frames = s.frames := rfl
@[simp] theorem setStore_stats (st : Store) : (setStore st s).stats = s.stats := rfl
@[simp] theorem setStore_exposure (st : Store) : (setStore st s).exposure = s.exposure := rfl
@[simp] theorem setStore_focus (st : Store) : (setStore st s).focus = s.focus := rfl
@[simp] theorem setStore_lens (st : Store) : (setStore st s).lens = s.lens := rfl
@[simp] theorem setStore_link (st : Store) : (setStore st s).link = s.link := rfl
@[simp] theorem setStore_steady (st : Store) : (setStore st s).steady = s.steady := rfl
@[simp] theorem setStore_store (st : Store) : (setStore st s).store = st := rfl
@[simp] theorem setStore_orders (st : Store) : (setStore st s).orders = s.orders := rfl
@[simp] theorem setStore_status (st : Store) : (setStore st s).status = s.status := rfl

/-! ### setCloseQueue -/

@[simp] theorem setCloseQueue_pending (q : List CloseWork) : (setCloseQueue q s).pending = s.pending := rfl
@[simp] theorem setCloseQueue_hostOut (q : List CloseWork) : (setCloseQueue q s).hostOut = s.hostOut := rfl
@[simp] theorem setCloseQueue_freeCount (q : List CloseWork) : (setCloseQueue q s).freeCount = s.freeCount := rfl
@[simp] theorem setCloseQueue_resetN (q : List CloseWork) : (setCloseQueue q s).resetN = s.resetN := rfl
@[simp] theorem setCloseQueue_partTime (q : List CloseWork) : (setCloseQueue q s).partTime = s.partTime := rfl
@[simp] theorem setCloseQueue_partState (q : List CloseWork) : (setCloseQueue q s).partState = s.partState := rfl
@[simp] theorem setCloseQueue_attn (q : List CloseWork) : (setCloseQueue q s).attn = s.attn := rfl
@[simp] theorem setCloseQueue_windows (q : List CloseWork) : (setCloseQueue q s).windows = s.windows := rfl
@[simp] theorem setCloseQueue_port (q : List CloseWork) : (setCloseQueue q s).port = s.port := rfl
@[simp] theorem setCloseQueue_frames (q : List CloseWork) : (setCloseQueue q s).frames = s.frames := rfl
@[simp] theorem setCloseQueue_stats (q : List CloseWork) : (setCloseQueue q s).stats = s.stats := rfl
@[simp] theorem setCloseQueue_exposure (q : List CloseWork) : (setCloseQueue q s).exposure = s.exposure := rfl
@[simp] theorem setCloseQueue_focus (q : List CloseWork) : (setCloseQueue q s).focus = s.focus := rfl
@[simp] theorem setCloseQueue_lens (q : List CloseWork) : (setCloseQueue q s).lens = s.lens := rfl
@[simp] theorem setCloseQueue_link (q : List CloseWork) : (setCloseQueue q s).link = s.link := rfl
@[simp] theorem setCloseQueue_steady (q : List CloseWork) : (setCloseQueue q s).steady = s.steady := rfl
@[simp] theorem setCloseQueue_store (q : List CloseWork) : (setCloseQueue q s).store = { s.store with closeQueue := q } :=
  rfl
@[simp] theorem setCloseQueue_orders (q : List CloseWork) : (setCloseQueue q s).orders = s.orders := rfl
@[simp] theorem setCloseQueue_status (q : List CloseWork) : (setCloseQueue q s).status = s.status := rfl

/-! ### clearStoreRequest -/

@[simp] theorem clearStoreRequest_pending : (clearStoreRequest s).pending = s.pending := rfl
@[simp] theorem clearStoreRequest_hostOut : (clearStoreRequest s).hostOut = s.hostOut := rfl
@[simp] theorem clearStoreRequest_freeCount : (clearStoreRequest s).freeCount = s.freeCount := rfl
@[simp] theorem clearStoreRequest_resetN : (clearStoreRequest s).resetN = s.resetN := rfl
@[simp] theorem clearStoreRequest_partTime : (clearStoreRequest s).partTime = s.partTime := rfl
@[simp] theorem clearStoreRequest_partState : (clearStoreRequest s).partState = s.partState := rfl
@[simp] theorem clearStoreRequest_attn : (clearStoreRequest s).attn = s.attn := rfl
@[simp] theorem clearStoreRequest_windows : (clearStoreRequest s).windows = s.windows := rfl
@[simp] theorem clearStoreRequest_port : (clearStoreRequest s).port = s.port := rfl
@[simp] theorem clearStoreRequest_frames : (clearStoreRequest s).frames = s.frames := rfl
@[simp] theorem clearStoreRequest_stats : (clearStoreRequest s).stats = s.stats := rfl
@[simp] theorem clearStoreRequest_exposure : (clearStoreRequest s).exposure = s.exposure := rfl
@[simp] theorem clearStoreRequest_focus : (clearStoreRequest s).focus = s.focus := rfl
@[simp] theorem clearStoreRequest_lens : (clearStoreRequest s).lens = s.lens := rfl
@[simp] theorem clearStoreRequest_link : (clearStoreRequest s).link = s.link := rfl
@[simp] theorem clearStoreRequest_steady : (clearStoreRequest s).steady = s.steady := rfl
@[simp] theorem clearStoreRequest_store : (clearStoreRequest s).store = { s.store with request := none } := rfl
@[simp] theorem clearStoreRequest_orders : (clearStoreRequest s).orders = s.orders := rfl
@[simp] theorem clearStoreRequest_status : (clearStoreRequest s).status = s.status := rfl

/-! ### setOrders -/

@[simp] theorem setOrders_pending (o : Orders) : (setOrders o s).pending = s.pending := rfl
@[simp] theorem setOrders_hostOut (o : Orders) : (setOrders o s).hostOut = s.hostOut := rfl
@[simp] theorem setOrders_freeCount (o : Orders) : (setOrders o s).freeCount = s.freeCount := rfl
@[simp] theorem setOrders_resetN (o : Orders) : (setOrders o s).resetN = s.resetN := rfl
@[simp] theorem setOrders_partTime (o : Orders) : (setOrders o s).partTime = s.partTime := rfl
@[simp] theorem setOrders_partState (o : Orders) : (setOrders o s).partState = s.partState := rfl
@[simp] theorem setOrders_attn (o : Orders) : (setOrders o s).attn = s.attn := rfl
@[simp] theorem setOrders_windows (o : Orders) : (setOrders o s).windows = s.windows := rfl
@[simp] theorem setOrders_port (o : Orders) : (setOrders o s).port = s.port := rfl
@[simp] theorem setOrders_frames (o : Orders) : (setOrders o s).frames = s.frames := rfl
@[simp] theorem setOrders_stats (o : Orders) : (setOrders o s).stats = s.stats := rfl
@[simp] theorem setOrders_exposure (o : Orders) : (setOrders o s).exposure = s.exposure := rfl
@[simp] theorem setOrders_focus (o : Orders) : (setOrders o s).focus = s.focus := rfl
@[simp] theorem setOrders_lens (o : Orders) : (setOrders o s).lens = s.lens := rfl
@[simp] theorem setOrders_link (o : Orders) : (setOrders o s).link = s.link := rfl
@[simp] theorem setOrders_steady (o : Orders) : (setOrders o s).steady = s.steady := rfl
@[simp] theorem setOrders_store (o : Orders) : (setOrders o s).store = s.store := rfl
@[simp] theorem setOrders_orders (o : Orders) : (setOrders o s).orders = o := rfl
@[simp] theorem setOrders_status (o : Orders) : (setOrders o s).status = s.status := rfl

/-! ### setPort -/

@[simp] theorem setPort_pending (p : Port) : (setPort p s).pending = s.pending := rfl
@[simp] theorem setPort_hostOut (p : Port) : (setPort p s).hostOut = s.hostOut := rfl
@[simp] theorem setPort_freeCount (p : Port) : (setPort p s).freeCount = s.freeCount := rfl
@[simp] theorem setPort_resetN (p : Port) : (setPort p s).resetN = s.resetN := rfl
@[simp] theorem setPort_partTime (p : Port) : (setPort p s).partTime = s.partTime := rfl
@[simp] theorem setPort_partState (p : Port) : (setPort p s).partState = s.partState := rfl
@[simp] theorem setPort_attn (p : Port) : (setPort p s).attn = s.attn := rfl
@[simp] theorem setPort_windows (p : Port) : (setPort p s).windows = s.windows := rfl
@[simp] theorem setPort_port (p : Port) : (setPort p s).port = p := rfl
@[simp] theorem setPort_frames (p : Port) : (setPort p s).frames = s.frames := rfl
@[simp] theorem setPort_stats (p : Port) : (setPort p s).stats = s.stats := rfl
@[simp] theorem setPort_exposure (p : Port) : (setPort p s).exposure = s.exposure := rfl
@[simp] theorem setPort_focus (p : Port) : (setPort p s).focus = s.focus := rfl
@[simp] theorem setPort_lens (p : Port) : (setPort p s).lens = s.lens := rfl
@[simp] theorem setPort_link (p : Port) : (setPort p s).link = s.link := rfl
@[simp] theorem setPort_steady (p : Port) : (setPort p s).steady = s.steady := rfl
@[simp] theorem setPort_store (p : Port) : (setPort p s).store = s.store := rfl
@[simp] theorem setPort_orders (p : Port) : (setPort p s).orders = s.orders := rfl
@[simp] theorem setPort_status (p : Port) : (setPort p s).status = s.status := rfl

/-! ### makeReply -/

@[simp] theorem makeReply_pending (p : Posted) (a : Answer) (i d : Bool) : (makeReply p a i d s).pending = s.pending :=
  rfl
@[simp] theorem makeReply_hostOut (p : Posted) (a : Answer) (i d : Bool) : (makeReply p a i d s).hostOut = s.hostOut :=
  rfl
@[simp] theorem makeReply_freeCount (p : Posted) (a : Answer) (i d : Bool) : (makeReply p a i d s).freeCount = s.freeCount :=
  rfl
@[simp] theorem makeReply_resetN (p : Posted) (a : Answer) (i d : Bool) : (makeReply p a i d s).resetN = s.resetN :=
  rfl
@[simp] theorem makeReply_partTime (p : Posted) (a : Answer) (i d : Bool) : (makeReply p a i d s).partTime = s.partTime :=
  rfl
@[simp] theorem makeReply_partState (p : Posted) (a : Answer) (i d : Bool) : (makeReply p a i d s).partState = s.partState :=
  rfl
@[simp] theorem makeReply_attn (p : Posted) (a : Answer) (i d : Bool) : (makeReply p a i d s).attn = s.attn := rfl
@[simp] theorem makeReply_windows (p : Posted) (a : Answer) (i d : Bool) : (makeReply p a i d s).windows = s.windows :=
  rfl
@[simp] theorem makeReply_port (p : Posted) (a : Answer) (i d : Bool) : (makeReply p a i d s).port = s.port := rfl
@[simp] theorem makeReply_frames (p : Posted) (a : Answer) (i d : Bool) : (makeReply p a i d s).frames = s.frames :=
  rfl
@[simp] theorem makeReply_stats (p : Posted) (a : Answer) (i d : Bool) : (makeReply p a i d s).stats = s.stats := rfl
@[simp] theorem makeReply_exposure (p : Posted) (a : Answer) (i d : Bool) : (makeReply p a i d s).exposure = s.exposure :=
  rfl
@[simp] theorem makeReply_focus (p : Posted) (a : Answer) (i d : Bool) : (makeReply p a i d s).focus = s.focus := rfl
@[simp] theorem makeReply_lens (p : Posted) (a : Answer) (i d : Bool) : (makeReply p a i d s).lens = s.lens := rfl
@[simp] theorem makeReply_link (p : Posted) (a : Answer) (i d : Bool) : (makeReply p a i d s).link = s.link := rfl
@[simp] theorem makeReply_steady (p : Posted) (a : Answer) (i d : Bool) : (makeReply p a i d s).steady = s.steady :=
  rfl
@[simp] theorem makeReply_store (p : Posted) (a : Answer) (i d : Bool) : (makeReply p a i d s).store = s.store := rfl
@[simp] theorem makeReply_status (p : Posted) (a : Answer) (i d : Bool) : (makeReply p a i d s).status = s.status :=
  rfl

/-! ### Reading back what was set -/

@[simp] theorem motor_setMotor (id : MotorId) (m : Motor) : (setMotor id m s).motor id = m := by cases id <;> rfl

theorem motor_setMotor_of_ne {id j : MotorId} (h : j ≠ id) (m : Motor) : (setMotor id m s).motor j = s.motor j := by
  cases id <;> cases j <;> first | rfl | exact absurd rfl h

@[simp] theorem setMotor_settings (id : MotorId) (m : Motor) : (setMotor id m s).lens.settings = s.lens.settings := by
  cases id <;> rfl

@[simp] theorem setMotor_supply (id : MotorId) (m : Motor) : (setMotor id m s).lens.supply = s.lens.supply := by
  cases id <;> rfl

@[simp] theorem setMotor_knots (id : MotorId) (m : Motor) : (setMotor id m s).lens.knots = s.lens.knots := by
  cases id <;> rfl

@[simp] theorem topPosition_setMotor (id j : MotorId) (m : Motor) : (setMotor id m s).topPosition j = s.topPosition j := by
  cases id <;> cases j <;> rfl

@[simp] theorem bank_setBank (id : BankId) (b : Bank) : (setBank id b s).bank id = b := by cases id <;> rfl

@[simp] theorem bank_setBank_other (id : BankId) (b : Bank) : (setBank id b s).bank id.other = s.bank id.other := by
  cases id <;> rfl

theorem record_setRecord {b : Nat} (h : b < s.frames.table.length) (f : FrameRecord) :
    (setRecord b f s).record b = f := by simp [State.record, List.getD, h]

theorem record_setRecord_of_ne {b c : Nat} (h : c ≠ b) (f : FrameRecord) : (setRecord b f s).record c = s.record c := by
  simp [State.record, List.getD, List.getElem?_set_ne (Ne.symm h)]

/-- A byte of the reply image after a reply is made: the slot's own entry, or as before (R184). -/
theorem makeReply_image (p : Posted) (a : Answer) (i d : Bool) :
    (makeReply p a i d s).orders.image = s.orders.image.set p.slot (replyBytes p a i d) := rfl

@[simp] theorem makeReply_queue (p : Posted) (a : Answer) (i d : Bool) :
    (makeReply p a i d s).orders.queue = s.orders.queue := rfl

@[simp] theorem makeReply_hold (p : Posted) (a : Answer) (i d : Bool) :
    (makeReply p a i d s).orders.hold = s.orders.hold := rfl

@[simp] theorem makeReply_shadow (p : Posted) (a : Answer) (i d : Bool) :
    (makeReply p a i d s).orders.shadow = s.orders.shadow := rfl

@[simp] theorem makeReply_carried (p : Posted) (a : Answer) (i d : Bool) :
    (makeReply p a i d s).orders.carried = s.orders.carried := rfl

/-! ### Link.quieted -/

section
variable (l : Link)
@[simp] theorem Link.quieted_exchange : l.quieted.exchange = none := rfl
@[simp] theorem Link.quieted_turn : l.quieted.turn = .done := rfl
@[simp] theorem Link.quieted_lselN : l.quieted.lselN = true := rfl
@[simp] theorem Link.quieted_lclk : l.quieted.lclk = false := rfl
@[simp] theorem Link.quieted_lmosi : l.quieted.lmosi = false := rfl
@[simp] theorem Link.quieted_roundStart : l.quieted.roundStart = l.roundStart := rfl
@[simp] theorem Link.quieted_period : l.quieted.period = l.period := rfl
@[simp] theorem Link.quieted_seq : l.quieted.seq = l.seq := rfl
@[simp] theorem Link.quieted_failSensing : l.quieted.failSensing = l.failSensing := rfl
@[simp] theorem Link.quieted_failZoom : l.quieted.failZoom = l.failZoom := rfl
@[simp] theorem Link.quieted_failFocus : l.quieted.failFocus = l.failFocus := rfl
@[simp] theorem Link.quieted_sensingFaulted : l.quieted.sensingFaulted = l.sensingFaulted := rfl
end

end Sys2Proof.Machine
end

