-- ==== Sys2Proof/Laws/Lens.lean ====
section
/-! SUPPORT. What the motor and focus operations can change: the Lens drive, the focus state and the latched bits; with
the homing operations the part state as well. -/

namespace Sys2Proof.Machine

variable (s t : State)

/-! ### Motor records -/

theorem motor_setMotor_ne {i j : MotorId} (h : i ≠ j) (m : Motor) : (setMotor i m s).motor j = s.motor j := by
  cases i <;> cases j <;> first | rfl | exact absurd rfl h

@[simp] theorem setMotor_setMotor (id : MotorId) (m n : Motor) : setMotor id n (setMotor id m s) = setMotor id n s := by
  cases id <;> rfl

@[simp] theorem setMotor_lens_settings (id : MotorId) (m : Motor) :
    (setMotor id m s).lens.settings = s.lens.settings := by cases id <;> rfl

@[simp] theorem setMotor_settleTime (i j : MotorId) (m : Motor) : (setMotor i m s).settleTime j = s.settleTime j := by
  cases i <;> cases j <;> rfl

@[simp] theorem setMotor_topPosition (i j : MotorId) (m : Motor) :
    (setMotor i m s).topPosition j = s.topPosition j := by cases i <;> cases j <;> rfl

@[simp] theorem latch_motor (b : LatchedBit) (id : MotorId) : (latch b s).motor id = s.motor id := by cases id <;> rfl

@[simp] theorem latchIf_motor (c : Bool) (b : LatchedBit) (id : MotorId) : (latchIf c b s).motor id = s.motor id := by
  unfold latchIf; split <;> simp

/-- Clamped below by 0 is the least of the two. -/
theorem clampNat_zero (hi x : Nat) : clampNat 0 hi x = min hi x := by
  unfold clampNat; split <;> (try split) <;> omega

/-- A clamp between two bounds in order. -/
theorem clampNat_eq {lo hi : Nat} (h : lo ≤ hi) (x : Nat) : clampNat lo hi x = max lo (min hi x) := by
  unfold clampNat; split <;> (try split) <;> omega

/-- A clamp of integers between two bounds in order. -/
theorem clampInt_eq {lo hi : Int} (h : lo ≤ hi) (x : Int) : clampInt lo hi x = max lo (min hi x) := by
  unfold clampInt; split <;> (try split) <;> omega

/-- The record a motor has after it entered SETTLING (R105). -/
theorem enterSettling_motor (id : MotorId) :
    (enterSettling id s).motor id =
      if s.settleTime id = 0 then
        { s.motor id with
          state := .idle, settleStart := s.partTime, stillSince := s.partTime, zoomToPending := false }
      else { s.motor id with state := .settling, settleStart := s.partTime } := by
  unfold enterSettling becomeIdle
  simp only [motor_setMotor, setMotor_partTime]
  split <;> simp

/-- What a taken target leaves of a record: all but target, aim and phase (R106). -/
theorem Motor.aimed_spec (m : Motor) (id : MotorId) (b goal : Nat) :
    (m.aimed id b goal).target = goal ∧ (m.aimed id b goal).position = m.position ∧
      (m.aimed id b goal).state = m.state ∧ (m.aimed id b goal).stillSince = m.stillSince ∧
      (m.aimed id b goal).settleStart = m.settleStart ∧ (m.aimed id b goal).uncertain = m.uncertain ∧
      (m.aimed id b goal).speed = m.speed ∧ (m.aimed id b goal).zoomToPending = m.zoomToPending ∧
      (m.aimed id b goal).fault = m.fault ∧ (m.aimed id b goal).lastSteps = m.lastSteps ∧
      (m.aimed id b goal).travel = m.travel ∧ (m.aimed id b goal).refSeen = m.refSeen := by
  unfold Motor.aimed; split <;> simp

/-- The record a motor has after it was given a target, by its state (R105). -/
theorem giveTarget_motor (id : MotorId) (clears : Bool) (asked : Nat) :
    (giveTarget id clears asked s).motor id =
      let m := s.motor id
      let goal := min (s.topPosition id) asked
      let k := m.aimed id s.lens.settings.backlash goal
      let settled : Motor :=
        if s.settleTime id = 0 then
          { k with state := .idle, settleStart := s.partTime, stillSince := s.partTime, zoomToPending := false }
        else { k with state := .settling, settleStart := s.partTime }
      match m.state with
      | .unhomed | .homing | .faulted => m
      | .stalled =>
        if clears then
          (if goal = m.position ∧ m.uncertain = false then settled else { k with state := .moving })
        else m
      | .idle | .settling => if goal = m.position then k else { k with state := .moving }
      | .moving => if goal = m.position ∧ m.uncertain = false then settled else { k with state := .moving } := by
  simp only [giveTarget, clampNat_zero]
  cases h : (s.motor id).state <;> simp only [] <;> (repeat' split) <;>
    simp_all only [motor_setMotor, enterSettling_motor, setMotor_settleTime, setMotor_partTime, if_true, if_false]

/-! ### Operations that change the Lens drive, the focus state and the latched bits -/

/-- `t` is `s` but for the Lens drive, the Focus unit and the latched bits. -/
def LensOnly : Prop :=
  t = { s with lens := t.lens, focus := t.focus, status := { s.status with latched := t.status.latched } }

namespace LensOnly

variable {s t}

theorem refl : LensOnly s s := rfl

theorem trans {u : State} (h : LensOnly s t) (k : LensOnly t u) : LensOnly s u := by
  unfold LensOnly at *
  rw [k, h]

theorem of_focus {f : Focus} (h : LensOnly { s with focus := f } t) : LensOnly s t :=
  trans (t := { s with focus := f }) rfl h

theorem of_lens {l : Lens} (h : LensOnly { s with lens := l } t) : LensOnly s t :=
  trans (t := { s with lens := l }) rfl h

theorem ite {c : Prop} [Decidable c] {a b : State} (h : LensOnly s a) (k : LensOnly s b) :
    LensOnly s (if c then a else b) := by split <;> assumption

end LensOnly

theorem setMotor_only (id : MotorId) (m : Motor) : LensOnly s (setMotor id m s) := by cases id <;> rfl

theorem latch_only (b : LatchedBit) : LensOnly s (latch b s) := rfl

theorem latchIf_only (c : Bool) (b : LatchedBit) : LensOnly s (latchIf c b s) := by
  unfold latchIf; split <;> rfl

theorem becomeIdle_only (id : MotorId) : LensOnly s (becomeIdle id s) :=
  (setMotor_only s id _).trans (latchIf_only _ _ _)

theorem enterSettling_only (id : MotorId) : LensOnly s (enterSettling id s) := by
  unfold enterSettling
  dsimp only
  split
  · exact (setMotor_only s id _).trans (becomeIdle_only _ id)
  · exact setMotor_only s id _

theorem giveTarget_only (id : MotorId) (clears : Bool) (asked : Nat) : LensOnly s (giveTarget id clears asked s) := by
  unfold giveTarget
  dsimp only
  repeat' split
  all_goals first
    | exact LensOnly.refl
    | exact setMotor_only s id _
    | exact (setMotor_only s id _).trans (enterSettling_only _ id)

theorem setFocusState_only (st : FocusState) : LensOnly s (setFocusState st s) := rfl

theorem setSearch_only (r : SearchRecord) : LensOnly s (setSearch r s) := rfl

theorem focusArrived_only : LensOnly s (focusArrived s) := by
  unfold focusArrived
  dsimp only
  split
  · split <;> rfl
  · split <;> rfl
  · rfl

theorem giveFocus_only (clears : Bool) (asked : Nat) : LensOnly s (giveFocus clears asked s) :=
  (giveTarget_only s .focus clears asked).trans (focusArrived_only _)

theorem failSearch_only (r : FocusFailure) : LensOnly s (failSearch r s) := rfl

theorem focusMotorLost_only : LensOnly s (focusMotorLost s) := by unfold focusMotorLost; split <;> rfl

theorem focusOnZoomChange_only : LensOnly s (focusOnZoomChange s) := by unfold focusOnZoomChange; split <;> rfl

theorem zoomChanged_only : LensOnly s (zoomChanged s) :=
  (focusOnZoomChange_only s).trans (giveFocus_only _ _ _)

theorem goSample_only (pos : Nat) (r : SearchRecord) : LensOnly s (goSample pos r s) :=
  LensOnly.trans (t := setFocusState (.searching .travel) (setSearch { r with sample := pos } s)) rfl
    (giveFocus_only _ _ _)

theorem fineStep_only (r : SearchRecord) (b : TrailEntry) : LensOnly s (fineStep r b s) := by
  unfold fineStep
  exact LensOnly.of_focus (giveFocus_only _ _ _)

theorem failSearchBack_only (why : FocusFailure) (r : SearchRecord) : LensOnly s (failSearchBack why r s) :=
  (failSearch_only s why).trans (giveFocus_only _ _ _)

theorem rangeEnd_only (r : SearchRecord) (b : TrailEntry) : LensOnly s (rangeEnd r b s) := by
  unfold rangeEnd
  exact .ite (goSample_only _ _ _)
    (.ite ((setSearch_only s r).trans (failSearchBack_only _ _ _)) (fineStep_only _ _ _))

theorem takeFrame_only (nf : Nat) (r : SearchRecord) : LensOnly s (takeFrame nf r s) := by
  unfold takeFrame
  dsimp only
  exact .ite (.of_focus (fineStep_only _ _ _))
    (.ite (.of_focus (rangeEnd_only _ _ _)) (.of_focus (goSample_only _ _ _)))

theorem countFrame_only (c : Time) (r : SearchRecord) : LensOnly s (countFrame c r s) := by
  unfold countFrame
  dsimp only
  repeat' split
  · exact (setSearch_only s _).trans (failSearchBack_only _ _ _)
  · rfl
  · rfl

theorem resolveUnmetered_only : LensOnly s (resolveUnmetered s) := by
  unfold resolveUnmetered
  split
  · exact countFrame_only _ _ _
  · rfl

theorem focusEvaluate_only (cells : List Nat) (copy : RecordCopy) (level : Nat) (noData : Bool) :
    LensOnly s (focusEvaluate cells copy level noData s).1 := by
  unfold focusEvaluate
  dsimp only
  repeat' split
  · exact takeFrame_only _ _ _
  · exact countFrame_only _ _ _
  · rfl

theorem compareMotor_only (id : MotorId) : LensOnly s (compareMotor id s) := by
  unfold compareMotor
  dsimp only
  repeat' split
  · exact ((setMotor_only s id _).trans (enterSettling_only _ id)).trans (focusArrived_only _)
  · exact (setMotor_only s id _).trans (focusArrived_only _)
  · exact (setMotor_only s id _).trans (enterSettling_only _ id)
  · exact setMotor_only s id _

theorem zoomMoved_only (id : MotorId) (z : Nat) : LensOnly s (zoomMoved id z s) := by
  unfold zoomMoved
  split
  · exact zoomChanged_only s
  · rfl

theorem movedMissing_only (id : MotorId) (n : Int) : LensOnly s (movedMissing id n s) := by
  unfold movedMissing
  dsimp only
  split <;> exact setMotor_only s id _

theorem motorMissing_only (id : MotorId) (r : Request) : LensOnly s (motorMissing id r s) := by
  unfold motorMissing
  split
  · exact movedMissing_only s id _
  · rfl

theorem parkLens_only : LensOnly s (parkLens s) := by
  have zoom : ∀ (u : State) (m : Motor),
      LensOnly u (if u.lens.zoom.parks then giveTarget .zoom false 0 (setMotor .zoom m u) else u) := fun u m =>
    .ite ((setMotor_only u .zoom m).trans (giveTarget_only _ _ _ _)) .refl
  have focus : ∀ u : State,
      LensOnly u (if u.lens.focus.parks then giveFocus false (u.track 0 u.focus.d) u else u) := fun u =>
    .ite (giveFocus_only _ _ _) .refl
  exact .of_lens (.of_lens ((zoom _ _).trans (focus _)))

theorem cancelSearchForZoom_only : LensOnly s (cancelSearchForZoom s) := by
  unfold cancelSearchForZoom
  dsimp only
  split
  · exact (failSearch_only s _).trans (giveFocus_only _ _ _)
  · rfl

theorem zoomDoneAtOnce_only : LensOnly s (zoomDoneAtOnce s) := by
  unfold zoomDoneAtOnce
  dsimp only
  split <;> rfl

theorem zoomTo_only (target speed : Nat) : LensOnly s (zoomTo target speed s) :=
  (((cancelSearchForZoom_only s).trans (setMotor_only _ .zoom _)).trans (giveTarget_only _ _ _ _)).trans
    (zoomDoneAtOnce_only _)

theorem setZoomHomed_only (b : Bool) : LensOnly s (setZoomHomed b s) := rfl

theorem unhomeMotors_only : LensOnly s (unhomeMotors s) :=
  LensOnly.of_lens (zoomMoved_only _ _ _)

/-! ### Operations of homing: the part state as well -/

/-- `t` is `s` but for the Lens drive, the Focus unit, the latched bits and the part state. -/
def DriveOnly : Prop :=
  t = { s with
        lens := t.lens, focus := t.focus, partState := t.partState
        status := { s.status with latched := t.status.latched } }

theorem LensOnly.drive {s t : State} (h : LensOnly s t) : DriveOnly s t := by
  unfold LensOnly DriveOnly at *
  rw [h]

theorem DriveOnly.trans {s t u : State} (h : DriveOnly s t) (k : DriveOnly t u) : DriveOnly s u := by
  unfold DriveOnly at *
  rw [k, h]

theorem endOfHoming_only : DriveOnly s (endOfHoming s) := by
  have zoom : ∀ u : State, LensOnly u (parkZoom u) := by
    intro u
    unfold parkZoom
    split
    · exact (setMotor_only u .zoom _).trans (giveTarget_only _ _ _ _)
    · rfl
  have focus : ∀ u : State, LensOnly u (parkFocus u) := by
    intro u
    unfold parkFocus
    split
    · exact giveFocus_only _ _ _
    · rfl
  unfold endOfHoming
  exact DriveOnly.trans
    (t := { s with partState := if s.partState = .homing then .running else s.partState }) rfl
    (((zoom _).trans (focus _)).trans (setZoomHomed_only _ false)).drive

theorem leftHoming_only (id : MotorId) : DriveOnly s (leftHoming id s) := by
  cases id
  · unfold leftHoming zoomLeftHoming
    dsimp only
    split
    · exact (setMotor_only s .focus _).drive
    · rfl
    · exact endOfHoming_only s
  · exact endOfHoming_only s

theorem faultMotor_only (id : MotorId) (m : Motor) (why : MotorFault) : DriveOnly s (faultMotor id m why s) := by
  have base : LensOnly s
      (latch .lensFault (setMotor id { m with state := .faulted, fault := why, zoomToPending := false } s)) :=
    (setMotor_only s id _).trans (latch_only _ _)
  unfold faultMotor
  dsimp only
  split
  · split
    · exact (base.trans (focusMotorLost_only _)).drive.trans (leftHoming_only _ id)
    · exact base.drive.trans (leftHoming_only _ id)
  · split
    · exact (base.trans (focusMotorLost_only _)).drive
    · exact base.drive

theorem movedReply_only (id : MotorId) (n a : Int) (ref : Bool) : DriveOnly s (movedReply id n a ref s) := by
  unfold movedReply movedHoming movedAway
  dsimp only
  repeat' split
  · exact (setMotor_only s id _).drive
  · exact faultMotor_only _ _ _ _
  · exact (setMotor_only s id _).drive
  · exact (faultMotor_only _ _ _ _).trans (zoomMoved_only _ _ _).drive
  · exact (((setMotor_only s id _).trans (zoomMoved_only _ _ _)).trans (compareMotor_only _ _)).drive

theorem homedReply_only (id : MotorId) : DriveOnly s (homedReply id s) := by
  unfold homedReply
  dsimp only
  split
  · cases id
    · exact (((setMotor_only s .zoom _).trans (setZoomHomed_only _ true)).trans
        (zoomChanged_only _)).drive.trans (leftHoming_only _ .zoom)
    · exact (setMotor_only s .focus _).drive.trans (leftHoming_only _ .focus)
  · rfl

theorem supplyReading_only (v i period : Nat) : DriveOnly s (supplyReading v i period s) := by
  have high : ∀ u : State, LensOnly u (overCurrentRule i u) := by
    intro u; unfold overCurrentRule; dsimp only; repeat' split
    all_goals rfl
  have low : ∀ u : State, LensOnly u (lensLowRule v u) := by
    intro u; unfold lensLowRule; dsimp only; repeat' split
    all_goals rfl
  have stall : ∀ u : State, DriveOnly u (stallMotors u) := by
    intro u
    unfold stallMotors
    dsimp only
    have base : ∀ l : Lens, ∀ c : Bool, LensOnly u (latch .stall (latchIf c .lensFault (setLens l u))) := by
      intro l c
      exact (LensOnly.of_lens (latchIf_only _ _ _)).trans (latch_only _ _)
    have lost : ∀ (b : MotorState) (w : State), LensOnly w (stalledFocus b w) := by
      intro b w
      unfold stalledFocus
      split
      · exact focusMotorLost_only w
      · rfl
    have homing : ∀ (z f : MotorState) (w : State), DriveOnly w (stalledHoming z f w) := by
      intro z f w
      unfold stalledHoming
      split
      · exact endOfHoming_only _
      · split
        · exact leftHoming_only _ .zoom
        · rfl
    exact ((base _ _).trans (lost _ _)).drive.trans (homing _ _ _)
  have rule : ∀ u : State, DriveOnly u (stallRule i u) := by
    intro u
    unfold stallRule
    dsimp only
    repeat' split
    · exact DriveOnly.trans (t := setSupply _ u) rfl (stall _)
    · rfl
    · rfl
  unfold supplyReading
  exact ((LensOnly.of_lens (high _)).drive.trans (rule _)).trans (low _).drive

end Sys2Proof.Machine
end

