-- ==== Sys2Proof/Laws/Own.lean ====
section
/-! SUPPORT. What the owners' requests and the end of an event can change: nothing but what `State.settled` sets aside
(R175, R185, R198). -/

namespace Sys2Proof.Machine

variable (s t : State)

/-! ### Issue -/

/-- The tag changes with every issue (R3). -/
theorem nextTag_ne (p : Port) : nextTag p ≠ p.tag := by
  simp only [nextTag]
  split
  · generalize p.tag = t
    bv_omega
  · assumption

/-! ### The three writers -/

/-- A status request changes the Status unit's writer and the own queue, or nothing (R198). -/
theorem requestStatus_cases :
    requestStatus s = s ∨
      ∃ c : BlockCopy, c.content = s.content ∧
        requestStatus s =
          requestOwnWrite .status (s.windows.control + 0x0600) c.bytes
            { s with status := { s.status with seq := c.seq, dirty := false, writing := some c } } := by
  simp only [requestStatus]
  split
  · exact .inr ⟨_, rfl, rfl⟩
  · exact .inl rfl

/-- A reply request changes the dirty marks, the carried set and the own queue, or nothing (R185). -/
theorem requestReply_cases :
    requestReply s = s ∨
      ∃ a n bs ms,
        requestReply s =
          requestOwn .orderUnit a .write n bs ms
            { s with
              orders := { s.orders with dirty := List.replicate 16 false, carried := some s.orders.dirty } } := by
  simp only [requestReply]
  split
  · exact .inr ⟨_, _, _, _, rfl⟩
  · exact .inl rfl

/-- A Store request changes its request, a dirty mark, the free-value counter and the own queue, or nothing (R175). -/
theorem requestStore_cases :
    requestStore s = s ∨
      ∃ a d n bs ms fc r sd ld,
        requestStore s =
          requestOwn .store a d n bs ms
            { s with freeCount := fc, store := { s.store with request := r, shotDirty := sd, slotDirty := ld } } := by
  unfold requestStore
  split
  · exact .inl rfl
  · split
    · exact .inr ⟨_, _, _, _, _, _, _, _, _, rfl⟩
    · exact .inr ⟨_, _, _, _, _, _, _, _, _, rfl⟩
    · split
      · unfold requestCloseWork
        split <;> exact .inr ⟨_, _, _, _, _, s.freeCount, _, s.store.shotDirty, s.store.slotDirty, rfl⟩
      · exact .inl rfl

/-! ### Settled -/

@[simp] theorem settled_settled : s.settled.settled = s.settled := rfl

@[simp] theorem settled_requestStatus : (requestStatus s).settled = s.settled := by
  rcases requestStatus_cases s with h | ⟨c, -, h⟩ <;> rw [h]; rfl

@[simp] theorem settled_requestReply : (requestReply s).settled = s.settled := by
  rcases requestReply_cases s with h | ⟨a, n, bs, ms, h⟩ <;> rw [h]; rfl

@[simp] theorem settled_requestStore : (requestStore s).settled = s.settled := by
  rcases requestStore_cases s with h | ⟨a, d, n, bs, ms, fc, r, sd, ld, h⟩ <;> rw [h]; rfl

@[simp] theorem settled_requestAll : (requestAll s).settled = s.settled := by simp [requestAll]

@[simp] theorem settled_finish : (finish s t).settled = t.settled := by
  unfold finish
  split
  · simp
  · rw [settled_requestAll]; rfl

/-- Two states that agree when settled agree in every field `settled` leaves alone. -/
theorem eq_of_settled_eq {u v : State} (h : u.settled = v.settled) :
    u.pending = v.pending ∧ u.hostOut = v.hostOut ∧ u.resetN = v.resetN ∧ u.partTime = v.partTime ∧
      u.partState = v.partState ∧ u.attn = v.attn ∧ u.windows = v.windows ∧ u.frames = v.frames ∧
      u.stats = v.stats ∧ u.exposure = v.exposure ∧ u.focus = v.focus ∧ u.lens = v.lens ∧ u.link = v.link ∧
      u.steady = v.steady := by
  simp only [State.settled, State.mk.injEq] at h
  tauto

/-! ### The end of an event, field by field -/

@[simp] theorem requestAll_pending : (requestAll s).pending = s.pending :=
  (congrArg State.pending (settled_requestAll s) :)

@[simp] theorem requestAll_hostOut : (requestAll s).hostOut = s.hostOut :=
  (congrArg State.hostOut (settled_requestAll s) :)

@[simp] theorem requestAll_resetN : (requestAll s).resetN = s.resetN :=
  (congrArg State.resetN (settled_requestAll s) :)

@[simp] theorem requestAll_partTime : (requestAll s).partTime = s.partTime :=
  (congrArg State.partTime (settled_requestAll s) :)

@[simp] theorem requestAll_partState : (requestAll s).partState = s.partState :=
  (congrArg State.partState (settled_requestAll s) :)

@[simp] theorem requestAll_attn : (requestAll s).attn = s.attn :=
  (congrArg State.attn (settled_requestAll s) :)

@[simp] theorem requestAll_windows : (requestAll s).windows = s.windows :=
  (congrArg State.windows (settled_requestAll s) :)

@[simp] theorem requestAll_frames : (requestAll s).frames = s.frames :=
  (congrArg State.frames (settled_requestAll s) :)

@[simp] theorem requestAll_stats : (requestAll s).stats = s.stats :=
  (congrArg State.stats (settled_requestAll s) :)

@[simp] theorem requestAll_exposure : (requestAll s).exposure = s.exposure :=
  (congrArg State.exposure (settled_requestAll s) :)

@[simp] theorem requestAll_focus : (requestAll s).focus = s.focus :=
  (congrArg State.focus (settled_requestAll s) :)

@[simp] theorem requestAll_lens : (requestAll s).lens = s.lens :=
  (congrArg State.lens (settled_requestAll s) :)

@[simp] theorem requestAll_link : (requestAll s).link = s.link :=
  (congrArg State.link (settled_requestAll s) :)

@[simp] theorem requestAll_steady : (requestAll s).steady = s.steady :=
  (congrArg State.steady (settled_requestAll s) :)

@[simp] theorem finish_pending : (finish s t).pending = t.pending :=
  (congrArg State.pending (settled_finish s t) :)

@[simp] theorem finish_hostOut : (finish s t).hostOut = t.hostOut :=
  (congrArg State.hostOut (settled_finish s t) :)

@[simp] theorem finish_resetN : (finish s t).resetN = t.resetN :=
  (congrArg State.resetN (settled_finish s t) :)

@[simp] theorem finish_partTime : (finish s t).partTime = t.partTime :=
  (congrArg State.partTime (settled_finish s t) :)

@[simp] theorem finish_partState : (finish s t).partState = t.partState :=
  (congrArg State.partState (settled_finish s t) :)

@[simp] theorem finish_attn : (finish s t).attn = t.attn :=
  (congrArg State.attn (settled_finish s t) :)

@[simp] theorem finish_windows : (finish s t).windows = t.windows :=
  (congrArg State.windows (settled_finish s t) :)

@[simp] theorem finish_frames : (finish s t).frames = t.frames :=
  (congrArg State.frames (settled_finish s t) :)

@[simp] theorem finish_stats : (finish s t).stats = t.stats :=
  (congrArg State.stats (settled_finish s t) :)

@[simp] theorem finish_exposure : (finish s t).exposure = t.exposure :=
  (congrArg State.exposure (settled_finish s t) :)

@[simp] theorem finish_focus : (finish s t).focus = t.focus :=
  (congrArg State.focus (settled_finish s t) :)

@[simp] theorem finish_lens : (finish s t).lens = t.lens :=
  (congrArg State.lens (settled_finish s t) :)

@[simp] theorem finish_link : (finish s t).link = t.link :=
  (congrArg State.link (settled_finish s t) :)

@[simp] theorem finish_steady : (finish s t).steady = t.steady :=
  (congrArg State.steady (settled_finish s t) :)

@[simp] theorem finish_port_inbound : (finish s t).port.inbound = t.port.inbound :=
  (congrArg (fun x : State => x.port.inbound) (settled_finish s t) :)

@[simp] theorem requestAll_port_inbound : (requestAll s).port.inbound = s.port.inbound :=
  (congrArg (fun x : State => x.port.inbound) (settled_requestAll s) :)

@[simp] theorem finish_port_view : (finish s t).port.view = t.port.view :=
  (congrArg (fun x : State => x.port.view) (settled_finish s t) :)

@[simp] theorem requestAll_port_view : (requestAll s).port.view = s.port.view :=
  (congrArg (fun x : State => x.port.view) (settled_requestAll s) :)

@[simp] theorem finish_port_flight : (finish s t).port.flight = t.port.flight :=
  (congrArg (fun x : State => x.port.flight) (settled_finish s t) :)

@[simp] theorem requestAll_port_flight : (requestAll s).port.flight = s.port.flight :=
  (congrArg (fun x : State => x.port.flight) (settled_requestAll s) :)

@[simp] theorem finish_port_tag : (finish s t).port.tag = t.port.tag :=
  (congrArg (fun x : State => x.port.tag) (settled_finish s t) :)

@[simp] theorem finish_port_issues : (finish s t).port.issues = t.port.issues :=
  (congrArg (fun x : State => x.port.issues) (settled_finish s t) :)

@[simp] theorem requestAll_port_tag : (requestAll s).port.tag = s.port.tag :=
  (congrArg (fun x : State => x.port.tag) (settled_requestAll s) :)

@[simp] theorem requestAll_port_issues : (requestAll s).port.issues = s.port.issues :=
  (congrArg (fun x : State => x.port.issues) (settled_requestAll s) :)

@[simp] theorem finish_port_told : (finish s t).port.told = t.port.told :=
  (congrArg (fun x : State => x.port.told) (settled_finish s t) :)

@[simp] theorem requestAll_port_told : (requestAll s).port.told = s.port.told :=
  (congrArg (fun x : State => x.port.told) (settled_requestAll s) :)

@[simp] theorem finish_orders_shadow : (finish s t).orders.shadow = t.orders.shadow :=
  (congrArg (fun x : State => x.orders.shadow) (settled_finish s t) :)

@[simp] theorem requestAll_orders_shadow : (requestAll s).orders.shadow = s.orders.shadow :=
  (congrArg (fun x : State => x.orders.shadow) (settled_requestAll s) :)

@[simp] theorem finish_orders_queue : (finish s t).orders.queue = t.orders.queue :=
  (congrArg (fun x : State => x.orders.queue) (settled_finish s t) :)

@[simp] theorem requestAll_orders_queue : (requestAll s).orders.queue = s.orders.queue :=
  (congrArg (fun x : State => x.orders.queue) (settled_requestAll s) :)

@[simp] theorem finish_orders_hold : (finish s t).orders.hold = t.orders.hold :=
  (congrArg (fun x : State => x.orders.hold) (settled_finish s t) :)

@[simp] theorem requestAll_orders_hold : (requestAll s).orders.hold = s.orders.hold :=
  (congrArg (fun x : State => x.orders.hold) (settled_requestAll s) :)

@[simp] theorem finish_orders_image : (finish s t).orders.image = t.orders.image :=
  (congrArg (fun x : State => x.orders.image) (settled_finish s t) :)

@[simp] theorem requestAll_orders_image : (requestAll s).orders.image = s.orders.image :=
  (congrArg (fun x : State => x.orders.image) (settled_requestAll s) :)

@[simp] theorem finish_store_shots : (finish s t).store.shots = t.store.shots :=
  (congrArg (fun x : State => x.store.shots) (settled_finish s t) :)

@[simp] theorem requestAll_store_shots : (requestAll s).store.shots = s.store.shots :=
  (congrArg (fun x : State => x.store.shots) (settled_requestAll s) :)

@[simp] theorem finish_store_lastId : (finish s t).store.lastId = t.store.lastId :=
  (congrArg (fun x : State => x.store.lastId) (settled_finish s t) :)

@[simp] theorem requestAll_store_lastId : (requestAll s).store.lastId = s.store.lastId :=
  (congrArg (fun x : State => x.store.lastId) (settled_requestAll s) :)

@[simp] theorem finish_store_recent : (finish s t).store.recent = t.store.recent :=
  (congrArg (fun x : State => x.store.recent) (settled_finish s t) :)

@[simp] theorem requestAll_store_recent : (requestAll s).store.recent = s.store.recent :=
  (congrArg (fun x : State => x.store.recent) (settled_requestAll s) :)

@[simp] theorem finish_store_inflight : (finish s t).store.inflight = t.store.inflight :=
  (congrArg (fun x : State => x.store.inflight) (settled_finish s t) :)

@[simp] theorem requestAll_store_inflight : (requestAll s).store.inflight = s.store.inflight :=
  (congrArg (fun x : State => x.store.inflight) (settled_requestAll s) :)

@[simp] theorem finish_store_slots : (finish s t).store.slots = t.store.slots :=
  (congrArg (fun x : State => x.store.slots) (settled_finish s t) :)

@[simp] theorem requestAll_store_slots : (requestAll s).store.slots = s.store.slots :=
  (congrArg (fun x : State => x.store.slots) (settled_requestAll s) :)

@[simp] theorem finish_store_lowWater : (finish s t).store.lowWater = t.store.lowWater :=
  (congrArg (fun x : State => x.store.lowWater) (settled_finish s t) :)

@[simp] theorem requestAll_store_lowWater : (requestAll s).store.lowWater = s.store.lowWater :=
  (congrArg (fun x : State => x.store.lowWater) (settled_requestAll s) :)

@[simp] theorem finish_store_closeQueue : (finish s t).store.closeQueue = t.store.closeQueue :=
  (congrArg (fun x : State => x.store.closeQueue) (settled_finish s t) :)

@[simp] theorem requestAll_store_closeQueue : (requestAll s).store.closeQueue = s.store.closeQueue :=
  (congrArg (fun x : State => x.store.closeQueue) (settled_requestAll s) :)

@[simp] theorem finish_status_latched : (finish s t).status.latched = t.status.latched :=
  (congrArg (fun x : State => x.status.latched) (settled_finish s t) :)

@[simp] theorem requestAll_status_latched : (requestAll s).status.latched = s.status.latched :=
  (congrArg (fun x : State => x.status.latched) (settled_requestAll s) :)

@[simp] theorem finish_status_counters : (finish s t).status.counters = t.status.counters :=
  (congrArg (fun x : State => x.status.counters) (settled_finish s t) :)

@[simp] theorem requestAll_status_counters : (requestAll s).status.counters = s.status.counters :=
  (congrArg (fun x : State => x.status.counters) (settled_requestAll s) :)

@[simp] theorem finish_status_mask : (finish s t).status.mask = t.status.mask :=
  (congrArg (fun x : State => x.status.mask) (settled_finish s t) :)

@[simp] theorem requestAll_status_mask : (requestAll s).status.mask = s.status.mask :=
  (congrArg (fun x : State => x.status.mask) (settled_requestAll s) :)

@[simp] theorem finish_status_published : (finish s t).status.published = t.status.published :=
  (congrArg (fun x : State => x.status.published) (settled_finish s t) :)

@[simp] theorem requestAll_status_published : (requestAll s).status.published = s.status.published :=
  (congrArg (fun x : State => x.status.published) (settled_requestAll s) :)

/-! ### Events -/

/-- An event of a part out of reset answers the finished state. -/
theorem event_of_out {f : State → State} (h : s.resetN = true) : event f s = .next (finish s (f s)) := by
  simp [event, h]

/-- An event of a part in reset changes nothing (R19). -/
theorem event_of_reset {f : State → State} (h : s.resetN = false) : event f s = .next s := by simp [event, h]

/-- What an event answers, in every state. -/
theorem event_cases {f : State → State} {t : State} (h : event f s = .next t) :
    (s.resetN = false ∧ t = s) ∨ (s.resetN = true ∧ t = finish s (f s)) := by
  unfold event at h
  cases hr : s.resetN <;> simp [hr] at h <;> simp [h]

/-- The report of a completed own transaction, and the port without it. -/
theorem takeTold_cases {o : Owner} {d : List Byte} {u : State} (h : takeTold o s = some (d, u)) :
    ∃ l, u = { s with port := { s.port with told := l } } := by
  unfold takeTold at h
  split at h
  · cases h
  · simp only [Option.some.injEq, Prod.mk.injEq] at h
    exact ⟨_, h.2.symm⟩

/-! ### Taking an order -/

/-- The row of the order at the head of the queue takes it (R181). -/
theorem takeOrder_of_atHead {o : Order} {p : Posted} {rest : List Posted} (f : Posted → State → State)
    (h : AtHead s o p rest) : takeOrder o f s = f p (s.dequeued rest) := by
  have hc := h.code
  have ha := h.allowed
  simp only [takeOrder, takeHead, h.head, hc, whenAllowed]
  simp [setOrders, State.dequeued, ha]

/-- A row of another order, or of an empty queue, takes nothing (R181). -/
theorem takeHead_of_nil {mine : Option Order → Bool} (f : Posted → State → State) (h : s.orders.queue = []) :
    takeHead mine f s = s := by simp [takeHead, h]

/-- What a take can do: nothing, or remove the head of the queue and go on with it. -/
theorem takeHead_cases (mine : Option Order → Bool) (f : Posted → State → State) :
    takeHead mine f s = s ∨ ∃ p rest, s.orders.queue = p :: rest ∧ takeHead mine f s = f p (s.dequeued rest) := by
  unfold takeHead
  split
  · next p rest hq =>
    split
    · exact .inr ⟨p, rest, hq, rfl⟩
    · exact .inl rfl
  · exact .inl rfl

end Sys2Proof.Machine
end

