-- ==== Sys2Proof/Laws/Path.lean ====
section
/-! SUPPORT. When the port gives a turn and how a transaction ends (R1, R3, R16, R17); the accepted reply of an exchange in
READING; and what a reported read makes of its slot (R171, R172). -/

namespace Sys2Proof.Machine

variable (s : State)

/-! ### Turns and ends -/

/-- Out of reset, the row gives a turn (R16). -/
theorem exec_arbiterTurn (h : s.resetN = true) : exec .arbiterTurn s = .next (giveTurn s) := by
  simp [exec, execArbiterTurn, portEvent, h]

/-- No turn is given while a transaction is in flight or an owner has not acted on its own (R16; notes/assumptions/7.md). -/
theorem giveTurn_of_busy (h : s.port.flight.isSome = true ∨ s.port.told ≠ []) : giveTurn s = s := by
  have : s.port.idle = false := by
    rcases h with h | h
    · simp [Port.idle, Option.isNone_eq_false_iff.mpr h]
    · simp [Port.idle, h]
  simp [giveTurn, this]

/-- A completion with the tag in flight ends the transaction, and the next turn follows (R3). -/
theorem exec_memoryCompletion {x : Flight} (st : Status) (data : List Byte) (h : s.resetN = true)
    (hf : s.port.flight = some x) :
    exec (.memoryCompletion x.tag st data) s = .next (giveTurn (finish s (endFlight x st data s))) := by
  simp [exec, execMemoryCompletion, portEvent, h, memoryCompletion, hf]

/-- The response timer ends the transaction 100 µs after its issue, and the next turn follows (R17). -/
theorem exec_memoryTimeout {x : Flight} (h : s.resetN = true) (hf : s.port.flight = some x)
    (ht : 100 ≤ (s.partTime - x.issued).toNat) :
    exec .memoryTimeout s = .next (giveTurn (finish s (endFlight x .error [] (latch .memTimeout s)))) := by
  have e : 100 ≤ elapsed s.partTime x.issued := ht
  simp only [exec, execMemoryTimeout, portEvent, h, memoryTimeout, hf, e, if_true]

/-- A queue without malformed transactions stays as it is (R1). -/
theorem splitMalformed_of_wellFormed {ts : List HostTransaction} (h : ∀ t ∈ ts, isMalformed t = false) :
    splitMalformed ts = ([], ts) := by
  cases ts with
  | nil => rfl
  | cons t ts => simp [splitMalformed, h t (by simp)]

/-! ### Accepted replies -/

/-- An accepted reply to a request of this sort ends the exchange, and the next turn of the round follows (R130). -/
theorem replyAccepted_of_reading {sort : Request → Bool} {x : Exchange} {h : ReplyHeader} {line pl : List Byte}
    (hx : s.link.exchange = some x) (hr : sort x.request = true) (hs : x.state = .reading h)
    (hp : judgeReply x h line = some pl) :
    replyAccepted sort line s = nextTurn (endAccepted x pl (countHeader x h s)) := by
  simp [replyAccepted, State.reading?, hx, hs, hp, hr]

/-- A turn of the round changes the link and the free-value counter alone (R124). -/
theorem nextTurn_only : ∃ l n, nextTurn s = { s with link := l, freeCount := n } := by
  unfold nextTurn
  split
  · exact ⟨_, _, rfl⟩
  · split
    · unfold focusTurn
      split
      · exact ⟨_, _, rfl⟩
      · unfold zoomTurn
        split <;> exact ⟨_, _, rfl⟩
    · unfold zoomTurn
      split <;> exact ⟨_, _, rfl⟩
    · exact ⟨_, s.freeCount, rfl⟩
    · exact ⟨_, s.freeCount, rfl⟩

/-! ### A reported read -/

/-- A slot put back where it stands changes nothing. -/
theorem slots_set_self {j : Nat} {x : Slot} (h : s.slot? j = some x) : s.store.slots.set j x = s.store.slots := by
  obtain ⟨_, rfl⟩ := List.getElem?_eq_some_iff.mp h
  simp

/-- A reported read that neither starts nor continues a drain changes nothing (R171). -/
theorem reportRead_of_idle {j o n : Nat} {x : Slot} (data : Option (List Byte)) (h : s.slot? j = some x)
    (hx : x.drainRead o = none) : reportRead j o n data s = s := by
  simp [reportRead, h, Slot.reported, hx, latchSome, setDrained, setStore, slots_set_self s h]

/-- A reported read changes its slot's record, that record's dirty mark and the latched bits alone (R171, R172). -/
theorem reportRead_only (j o n : Nat) (data : Option (List Byte)) :
    ∃ slots marks bits,
      reportRead j o n data s =
        { s with
          store := { s.store with slots := slots, slotDirty := marks }
          status := { s.status with latched := bits } } := by
  unfold reportRead
  split
  · exact ⟨_, _, _, rfl⟩
  · simp only [setDrained]
    split <;> cases (Slot.reported _ o n data).bit <;> exact ⟨_, _, _, rfl⟩

end Sys2Proof.Machine
end

