-- ==== Sys2Proof/WellFormed.lean ====
section
/-! DEFINITION. Well-formed commands: what the frame link, the memory port and the lens link can deliver at all. -/

namespace Sys2Proof

/-- A write carries one data byte and one mask bit for each byte of its length; a read carries neither
(01, section 1.1: data and byte mask belong to writes). A length of 0 or one that crosses a block boundary is a
delivered transaction like any other (R1). -/
def HostTransaction.wellFormed (t : HostTransaction) : Bool :=
  match t.dir with
  | .write => t.data.length == t.len && t.mask.length == t.len
  | .read => t.data.isEmpty && t.mask.isEmpty

/-- The operands a command may carry. Read data is at most 256 bytes (01, section 1.1) and none on ERROR; a reply has
at most 24 + 2 bytes after its header (07, section 7.2). -/
def Instr.wellFormed : Instr → Bool
  | .hostTransactionAccept t => t.wellFormed
  | .memoryCompletion _ .ok data => data.length ≤ 256
  | .memoryCompletion _ .error data => data.isEmpty
  | .replyDiscarded line => line.length ≤ 26
  | .sensed line => line.length ≤ 26
  | .moved line => line.length ≤ 26
  | .homed line => line.length ≤ 26
  | _ => true

end Sys2Proof
end

