-- ==== Sys2Proof/Laws/PerInstr.lean ====
section
/-! SUPPORT. Per command: a row that takes an order is well formed and takes the order whose code the catalogue gives
it. -/

namespace Sys2Proof.Laws.OrderRow

open Sys2Proof.Machine

/-- A row that takes an order is always well formed, and the catalogue gives that order's code back as the order
(R181, R182). -/
def Statement (i : Instr) : Prop :=
  ∀ o, orderRow i = some o → i.wellFormed = true ∧ Order.ofCode o.code = some o

/-- A row that takes no order. -/
theorem of_none {i : Instr} (h : orderRow i = none) : Statement i := fun o k => by rw [h] at k; cases k

/-- A row that takes this order. -/
theorem of_some {i : Instr} {o : Order} (h : orderRow i = some o) (w : i.wellFormed = true)
    (c : Order.ofCode o.code = some o) : Statement i := fun o' k => by
  rw [h] at k
  cases k
  exact ⟨w, c⟩

theorem resetNAssert : Statement .resetNAssert := of_none rfl

theorem resetNRise (anchor : BitVec 3) : Statement (.resetNRise anchor) := of_none rfl

theorem hostTransactionAccept (t : HostTransaction) : Statement (.hostTransactionAccept t) := of_none rfl

theorem arbiterTurn : Statement .arbiterTurn := of_none rfl

theorem memoryCompletion (tag : BitVec 4) (status : Status) (data : List Byte) : Statement (.memoryCompletion tag status data) := of_none rfl

theorem memoryTimeout : Statement .memoryTimeout := of_none rfl

theorem evaluationDone : Statement .evaluationDone := of_none rfl

theorem resultWriteDone : Statement .resultWriteDone := of_none rfl

theorem replyWriteDone : Statement .replyWriteDone := of_none rfl

theorem statusRewriteDone : Statement .statusRewriteDone := of_none rfl

theorem readBackPieceDone : Statement .readBackPieceDone := of_none rfl

theorem trailerWriteDone : Statement .trailerWriteDone := of_none rfl

theorem mirrorWriteDone : Statement .mirrorWriteDone := of_none rfl

theorem roundStart : Statement .roundStart := of_none rfl

theorem lensRequestSent : Statement .lensRequestSent := of_none rfl

theorem lensPoll (header : ReplyHeader) : Statement (.lensPoll header) := of_none rfl

theorem replyDiscarded (line : List Byte) : Statement (.replyDiscarded line) := of_none rfl

theorem sensed (line : List Byte) : Statement (.sensed line) := of_none rfl

theorem moved (line : List Byte) : Statement (.moved line) := of_none rfl

theorem homed (line : List Byte) : Statement (.homed line) := of_none rfl

theorem settleTimeout (motor : MotorId) : Statement (.settleTimeout motor) := of_none rfl

theorem nop : Statement .nop := of_some rfl rfl rfl

theorem setupFrames : Statement .setupFrames := of_some rfl rfl rfl

theorem setupLens : Statement .setupLens := of_some rfl rfl rfl

theorem loadTracking : Statement .loadTracking := of_some rfl rfl rfl

theorem start : Statement .start := of_some rfl rfl rfl

theorem stop : Statement .stop := of_some rfl rfl rfl

theorem setupStore : Statement .setupStore := of_some rfl rfl rfl

theorem loadWeights : Statement .loadWeights := of_some rfl rfl rfl

theorem meterMode : Statement .meterMode := of_some rfl rfl rfl

theorem exposureLock : Statement .exposureLock := of_some rfl rfl rfl

theorem focusArea : Statement .focusArea := of_some rfl rfl rfl

theorem steadyMode : Statement .steadyMode := of_some rfl rfl rfl

theorem supplyLimits : Statement .supplyLimits := of_some rfl rfl rfl

theorem clearStatus : Statement .clearStatus := of_some rfl rfl rfl

theorem alertMask : Statement .alertMask := of_some rfl rfl rfl

theorem focusStart : Statement .focusStart := of_some rfl rfl rfl

theorem focusCancel : Statement .focusCancel := of_some rfl rfl rfl

theorem focusSet : Statement .focusSet := of_some rfl rfl rfl

theorem zoomTo : Statement .zoomTo := of_some rfl rfl rfl

theorem zoomStop : Statement .zoomStop := of_some rfl rfl rfl

theorem shoot : Statement .shoot := of_some rfl rfl rfl

theorem releaseShot : Statement .releaseShot := of_some rfl rfl rfl

theorem closeSlot : Statement .closeSlot := of_some rfl rfl rfl

theorem freeSlot : Statement .freeSlot := of_some rfl rfl rfl

theorem lensRestart : Statement .lensRestart := of_some rfl rfl rfl

theorem clearSupply : Statement .clearSupply := of_some rfl rfl rfl

theorem unknownOrder : Statement .unknownOrder := of_none rfl

end Sys2Proof.Laws.OrderRow
end

