-- ==== Sys2Proof/Laws/Pool.lean ====
section
/-! SUPPORT. What the operations on the pool, the banks and the order shadow can do: pins and releases, the free list, cuts,
accumulation, hand-over, and writes into a byte buffer. -/

namespace Sys2Proof.Machine

variable (s : State)

/-! ### Bytes written into a buffer -/

@[simp] theorem writeBytes_length (buf : List Byte) (off : Nat) (ds : List Byte) (ms : List Bool) :
    (writeBytes buf off ds ms).length = buf.length := by
  induction ds generalizing buf off ms with
  | nil => simp [writeBytes]
  | cons d ds ih =>
    cases ms with
    | nil => simp [writeBytes]
    | cons m ms => simp only [writeBytes, ih]; split <;> simp

/-- A byte of the buffer after a write: the written byte where one is enabled, else the byte before (R178). -/
theorem writeBytes_getD (buf : List Byte) (off : Nat) (ds : List Byte) (ms : List Bool) (h : ds.length = ms.length)
    (j : Nat) (hj : j < buf.length) :
    (writeBytes buf off ds ms).getD j 0 =
      if off ≤ j ∧ j < off + ds.length ∧ ms.getD (j - off) false = true then ds.getD (j - off) 0 else buf.getD j 0 := by
  induction ds generalizing buf off ms with
  | nil => cases ms <;> simp_all [writeBytes]
  | cons d ds ih =>
    cases ms with
    | nil => simp at h
    | cons m ms =>
      simp only [writeBytes]
      rw [ih _ _ _ (by simpa using h) (by split <;> simpa using hj)]
      rcases Nat.lt_trichotomy j off with hlt | rfl | hgt
      · have c : ¬ off ≤ j := by omega
        have c' : ¬ off + 1 ≤ j := by omega
        simp only [c, c', false_and, if_false]
        split <;> simp [Nat.ne_of_gt hlt]
      · have c : ¬ j + 1 ≤ j := by omega
        simp only [c, false_and, if_false]
        cases m <;> simp [hj]
      · obtain ⟨k, rfl⟩ := Nat.exists_eq_add_of_lt hgt
        have e : off + k + 1 - off = k + 1 := by omega
        have e' : off + k + 1 - (off + 1) = k := by omega
        rw [e, e']
        have c : (off + 1 ≤ off + k + 1 ∧ off + k + 1 < off + 1 + ds.length ∧ ms.getD k false = true) ↔
            (off ≤ off + k + 1 ∧ off + k + 1 < off + (d :: ds).length ∧ (m :: ms).getD (k + 1) false = true) := by
          simp only [List.length_cons, List.getD_cons_succ]
          constructor <;> rintro ⟨_, h2, h3⟩ <;> exact ⟨by omega, by omega, h3⟩
        simp only [c, List.getD_cons_succ]
        refine if_congr Iff.rfl rfl ?_
        split <;> simp [show off ≠ off + k + 1 by omega]

/-! ### The free list -/

theorem mem_insertFree {b x : Nat} {l : List Nat} : x ∈ insertFree b l ↔ x = b ∨ x ∈ l := by
  induction l with
  | nil => simp [insertFree]
  | cons y ys ih =>
    simp only [insertFree]
    split
    · simp
    · split
      · next h => subst h; simp
      · simp only [List.mem_cons, ih]; tauto

/-- The free list stays in rising order (R22). -/
theorem insertFree_rising {b : Nat} {l : List Nat} (h : l.Pairwise (· < ·)) : (insertFree b l).Pairwise (· < ·) := by
  induction l with
  | nil => simp [insertFree]
  | cons y ys ih =>
    obtain ⟨hy, hys⟩ := List.pairwise_cons.mp h
    simp only [insertFree]
    split
    · next hb =>
      refine List.pairwise_cons.mpr ⟨fun x hx => ?_, h⟩
      rcases List.mem_cons.mp hx with rfl | hx
      · exact hb
      · exact Nat.lt_trans hb (hy x hx)
    · split
      · exact h
      · refine List.pairwise_cons.mpr ⟨fun x hx => ?_, ih hys⟩
        rcases mem_insertFree.mp hx with rfl | hx
        · omega
        · exact hy x hx

/-! ### Pins and releases -/

/-- A pin that succeeds: the record was COMPLETE with this number, neither cut nor unmetered; it is PINNED and off the
free list, and nothing else changes (R37). -/
theorem pin_some {b number : Nat} {t : State} (h : pin b number s = some t) :
    (s.record b).state = .complete ∧ (s.record b).number = number ∧ (s.record b).cut = false ∧
      (s.record b).notMetered = false ∧
      t = { s with
        frames :=
          { s.frames with
            table := s.frames.table.set b { s.record b with state := .pinned }
            free := s.frames.free.filter (· != b) } } := by
  simp only [pin] at h
  split at h
  · next hp =>
    simp only [FrameRecord.pinnable, Bool.and_eq_true, beq_iff_eq, Bool.not_eq_true'] at hp
    exact ⟨hp.1.1.1, hp.1.1.2, hp.1.2, hp.2, (Option.some.inj h).symm⟩
  · cases h

/-- What a release can do: nothing unless the record is PINNED; then it is COMPLETE, and an unmapped buffer joins the
free list (R38). -/
theorem release_cases (b : Nat) :
    ((s.record b).state ≠ .pinned ∧ release b s = s) ∨
      ((s.record b).state = .pinned ∧
        release b s =
          { s with
            frames :=
              { s.frames with
                table := s.frames.table.set b { s.record b with state := .complete }
                free := if (s.owner b).isSome then s.frames.free else insertFree b s.frames.free } }) := by
  simp only [release]
  split
  · next h =>
    refine .inr ⟨h, ?_⟩
    split <;> rfl
  · next h => exact .inl ⟨h, rfl⟩

/-! ### Banks -/

@[simp] theorem bank_other_setBank (id : BankId) (b : Bank) : (setBank id.other b s).bank id = s.bank id := by
  cases id <;> rfl

@[simp] theorem BankId.other_other (id : BankId) : id.other.other = id := by cases id <;> rfl

/-- A freed bank is FREE with its contents discarded, and the other bank begins evaluation if it was WAITING
(R43, R57). -/
theorem freeBank_banks (id : BankId) :
    (freeBank id s).bank id = Bank.released ∧
      (freeBank id s).bank id.other =
        if (s.bank id.other).state = .waiting then { s.bank id.other with state := .evaluating }
        else s.bank id.other := by
  simp only [freeBank, wakeWaiting, bank_setBank_other]
  split
  · exact ⟨by simp, by simp⟩
  · exact ⟨by simp, by simp⟩

/-- Accumulation changes the sums, counts, bins, clip count, cell figures and line carry of a bank and nothing else
(R45 to R51). -/
theorem accumulate_only (g : Geometry) (o : Nat) (t : HostTransaction) (b : Bank) :
    accumulate g o t b =
      { b with
        sums := (accumulate g o t b).sums, counts := (accumulate g o t b).counts, bins := (accumulate g o t b).bins
        clip := (accumulate g o t b).clip, cells := (accumulate g o t b).cells
        carry := (accumulate g o t b).carry } := by
  have h : ∀ (l : List Site) (b : Bank),
      l.foldl (addSite g) b =
        { b with
          sums := (l.foldl (addSite g) b).sums, counts := (l.foldl (addSite g) b).counts
          bins := (l.foldl (addSite g) b).bins, clip := (l.foldl (addSite g) b).clip
          cells := (l.foldl (addSite g) b).cells, carry := (l.foldl (addSite g) b).carry } := by
    intro l
    induction l with
    | nil => intro b; rfl
    | cons p l ih => intro b; exact ih (addSite g b p)
  exact h _ b

/-- A bank handed over is EVALUATING, or WAITING behind a busy one, with the copy; the other bank is as before (R53). -/
theorem handOver_banks (id : BankId) (copy : RecordCopy) :
    (handOver id copy s).bank id =
        { s.bank id with
          state :=
            if (s.bank id.other).state = .evaluating ∨ (s.bank id.other).state = .writing then .waiting
            else .evaluating
          copy := some copy } ∧
      (handOver id copy s).bank id.other = s.bank id.other := by
  simp [handOver]

end Sys2Proof.Machine
end

