-- ==== Sys2Proof/Laws/Turns.lean ====
section
/-! SUPPORT. The turns of a round: the request due at each, its bytes, and the quiet link after the zoom turn (R107, R115,
R124, R126); and the moment at which a reply's header is in (R130). -/

namespace Sys2Proof.Machine

variable (s : State)

/-! ### Requests -/

/-- The request named at a turn is the one due (R107, R115, R121). -/
theorem motorRequest_due (id : MotorId) : RequestDue s id (s.motorRequest id) := by
  constructor
  · cases id <;> rfl
  · intro h; simp [State.motorRequest, h]
  · intro h1 h2; cases hs : (s.motor id).state <;> simp_all [State.motorRequest]
  · intro h1 h2 h3; simp [State.motorRequest, h1, h2, h3]
  · intro h1 h2 h3; cases id <;> simp [State.motorRequest, h1, h2, h3, State.homingSteps]
  · intro h1 h2 h3; simp [State.motorRequest, h1, h2, h3]
  · intro h1 h2 h3
    refine ⟨(s.motor id).stepsToAim (s.cap id), by simp [State.motorRequest, h1, h2, h3], ?_⟩
    simp only [Motor.stepsToAim]
    split <;> omega

/-- Two bytes of a word, most significant first (R126). -/
theorem reverse_le_two (v : BitVec 16) : (le v.toNat 2).reverse = [v.extractLsb' 8 8, v.extractLsb' 0 8] := by
  have h1 : BitVec.ofNat 8 (v.toNat / 256) = v.extractLsb' 8 8 := by
    apply BitVec.eq_of_toNat_eq; simp [BitVec.extractLsb'_toNat, Nat.shiftRight_eq_div_pow]
  have h2 : BitVec.ofNat 8 v.toNat = v.extractLsb' 0 8 := by
    apply BitVec.eq_of_toNat_eq; simp [BitVec.extractLsb'_toNat]
  simp [le, h1, h2]

/-- The two bytes of a signed value are those of its word (R126). -/
theorem beSigned16_eq (n : Int) : beSigned16 n = (le (BitVec.ofInt 16 n).toNat 2).reverse := by
  simp [beSigned16, leSigned, BitVec.toNat_ofInt]

/-- A motor's request is sent with its bytes (R124, R126 to R129). -/
theorem sendRequest_sent (id : MotorId) (r : Request) (target : Target) (turn : Turn)
    (ht : target = if id = .focus then .focus else .zoom) (hu : turn = if id = .focus then .focus else .zoom) :
    RequestSent (sendRequest target r turn s) id r := by
  subst ht hu
  refine ⟨rfl, ⟨rfl, rfl⟩, ?_, ?_⟩
  · rintro rfl b rfl
    cases id <;> rfl
  · rintro n rate rfl b steps p rfl rfl rfl
    have e : Request.payload (.move n rate) =
        [(BitVec.ofInt 16 n).extractLsb' 8 8, (BitVec.ofInt 16 n).extractLsb' 0 8, BitVec.ofNat 8 rate] := by
      rw [Request.payload, beSigned16_eq, reverse_le_two]; rfl
    simp only [requestBytes, packet, e, reverse_le_two]
    cases id <;> rfl

/-! ### Turns -/

/-- The turns of a round follow each other, and after the zoom turn the link is quiet (R124). -/
theorem nextTurn_follows (h : s.partState ≠ .config) : TurnFollows s.link.turn (nextTurn s) := by
  obtain ⟨l, n, e⟩ := nextTurn_only s
  refine ⟨s.motorRequest .focus, s.motorRequest .zoom, ?_, ?_, ?_, ?_, ?_⟩
  · rw [e]; exact motorRequest_due { s with link := l, freeCount := n } .focus
  · rw [e]; exact motorRequest_due { s with link := l, freeCount := n } .zoom
  · intro ht r hr
    simp only [nextTurn, h, ht, focusTurn, hr, if_false]
    exact sendRequest_sent s .focus r _ _ rfl rfl
  · rintro (ht | ⟨ht, hf⟩) r hr
    · simp only [nextTurn, h, ht, zoomTurn, hr, if_false]
      exact sendRequest_sent s .zoom r _ _ rfl rfl
    · simp only [nextTurn, h, ht, focusTurn, hf, zoomTurn, hr, if_false]
      exact sendRequest_sent s .zoom r _ _ rfl rfl
  · rintro (ht | ⟨ht | ⟨ht, hf⟩, hz⟩)
    · simp only [nextTurn, h, ht, if_false]; exact ⟨rfl, rfl, rfl, rfl⟩
    · simp only [nextTurn, h, ht, zoomTurn, hz, if_false]; exact ⟨rfl, rfl, rfl, rfl⟩
    · simp only [nextTurn, h, ht, focusTurn, hf, zoomTurn, hz, if_false]; exact ⟨rfl, rfl, rfl, rfl⟩

/-! ### The header of a reply -/

/-- A correction changes the corrected-header counter alone (R130). -/
theorem countCorrected_eq (h : ReplyHeader) : countCorrected h s =
    { s with
      status :=
        { s.status with
          counters :=
            { s.status.counters with
              correctedHeader :=
                if headerCorrected h then min 65535 (s.status.counters.correctedHeader + 1)
                else s.status.counters.correctedHeader } } } := by
  cases hc : headerCorrected h <;> simp [countCorrected, hc, setCounters, countUp, satAdd, max16, Nat.min_comm]

/-- A header that is in already is not counted again (R130). -/
@[simp] theorem countHeader_of_in {x : Exchange} (h : ReplyHeader) (hi : x.headerIn = true) : countHeader x h s = s := by
  simp [countHeader, hi]

/-- When a header comes in (R129). -/
theorem headerDue_iff (x : Exchange) (h : ReplyHeader) : s.headerDue = some (x, h) ↔
    s.link.exchange = some x ∧ x.state = .reading h ∧ x.headerIn = false ∧ 2 ≤ (s.partTime - x.pollBase).toNat := by
  cases hx : s.link.exchange with
  | none => simp [State.headerDue, State.reading?, hx]
  | some y =>
    cases hy : y.state with
    | reading k =>
      simp only [State.headerDue, State.reading?, hx, hy, Option.filter_some, Option.some.injEq]
      constructor
      · intro e
        split at e
        · rename_i hc
          cases e
          simp only [Bool.and_eq_true, Bool.not_eq_true', decide_eq_true_eq] at hc
          exact ⟨rfl, hy, hc.1, hc.2⟩
        · cases e
      · rintro ⟨rfl, hs, hi, ht⟩
        rw [hy] at hs
        cases hs
        have : 2 ≤ elapsed s.partTime y.pollBase := ht
        simp [hi, this]
    | sending => simp [State.headerDue, State.reading?, hx, hy]; rintro rfl hs; simp [hy] at hs
    | waiting => simp [State.headerDue, State.reading?, hx, hy]; rintro rfl hs; simp [hy] at hs

/-- Where no header comes in, nothing changes (R130). -/
theorem takeDueHeader_of_none (h : s.headerDue = none) : takeDueHeader s = s := by simp [takeDueHeader, h]

/-- A header that comes in is marked so, and its correction counted (R130). -/
theorem settled_takeDueHeader {x : Exchange} {h : ReplyHeader} (hd : s.headerDue = some (x, h)) :
    (takeDueHeader s).settled = (headerComesIn x h s).settled := by
  simp [takeDueHeader, hd]

end Sys2Proof.Machine
end

