-- ==== Sys2Proof/Tests/Slice0.lean ====
section
/-! SUPPORT. Tests: the ill-formed commands, worked cases of the manual, one step of the machine here and there, and for
each obligation with hypotheses a witness that meets them. -/

namespace Sys2Proof.Tests

open Sys2Proof.Machine

set_option maxRecDepth 20000

/-! ### Well-formed commands: one ill-formed command for each check -/

theorem test_wf_read_with_data :
    (Instr.hostTransactionAccept { addr := 0, dir := .read, len := 1, data := [0], mask := [], tag := 0 }).wellFormed
      = false := by decide

theorem test_wf_write_without_mask :
    (Instr.hostTransactionAccept { addr := 0, dir := .write, len := 1, data := [0], mask := [], tag := 0 }).wellFormed
      = false := by decide

theorem test_wf_write_short_data :
    (Instr.hostTransactionAccept
      { addr := 0, dir := .write, len := 2, data := [0], mask := [true, true], tag := 0 }).wellFormed = false := by
  decide

theorem test_wf_long_read_data :
    (Instr.memoryCompletion 0 .ok (List.replicate 257 0)).wellFormed = false := by decide

theorem test_wf_error_with_data : (Instr.memoryCompletion 0 .error [0]).wellFormed = false := by decide

theorem test_wf_long_lines :
    (Instr.replyDiscarded (List.replicate 27 0)).wellFormed = false ∧
      (Instr.sensed (List.replicate 27 0)).wellFormed = false ∧
      (Instr.moved (List.replicate 27 0)).wellFormed = false ∧
      (Instr.homed (List.replicate 27 0)).wellFormed = false := by decide

theorem test_wf_accepts :
    (Instr.hostTransactionAccept
      { addr := 0, dir := .write, len := 1, data := [0], mask := [true], tag := 0 }).wellFormed = true ∧
      (Instr.sensed (List.replicate 26 0)).wellFormed = true := by decide

/-! ### Arithmetic, against the tables and numbers of the manual -/

/-- R61's table of lg and ex. -/
theorem test_lg_ex_table :
    [1, 3, 125, 460, 4095, 4000, 10000, 1000000, 2000000].map lg = [0, 48, 222, 281, 383, 382, 423, 637, 669] ∧
      [0, 31, 222, 281, 383, 410, 423, 637, 669].map ex =
        [1, 1, 124, 456, 4032, 7424, 9984, 999424, 1998848] := by decide

/-- Rounded quotients, halves away from zero (04, 4.6 and 08, 8.6). -/
theorem test_round_div :
    roundDiv 119136000 1024000 = 116 ∧ roundDiv (-18615000) 1024000 = -18 ∧ roundDiv (-1) 2 = -1 ∧
      roundDiv 1 2 = 1 := by decide

/-- R128: the CRC over the digits 1 to 9. -/
theorem test_crc16_digits : crc16 ((List.range 9).map fun i => BitVec.ofNat 8 (0x31 + i)) = 0x29B1#16 := by decide

/-- R168: the CRC over the digits 1 to 9. -/
theorem test_crc32_digits :
    crc32Final (crc32Feed crc32Init ((List.range 9).map fun i => BitVec.ofNat 8 (0x31 + i))) = 0xCBF43926#32 := by
  decide

/-- The worked header of chapter 7: its check byte, one data bit flipped, two data bits flipped, C5 alone. -/
theorem test_header_worked :
    headerCheck 0x21#8 0x05#8 0x2C#8 = 0x31#8 ∧
      judgeHeader 0x21#8 0x05#8 0x24#8 0x31#8 = some ((0x21#8, 0x05#8, 0x2C#8), true) ∧
      judgeHeader 0x00#8 0x05#8 0x2C#8 0x31#8 = none ∧
      judgeHeader 0x21#8 0x05#8 0x2C#8 0x11#8 = some ((0x21#8, 0x05#8, 0x2C#8), false) := by decide

/-! ### Helpers -/

/-- An order posted from slot 3, with sequence 0x5A, these parameters and this flags byte. -/
def order (o : Order) (params : List Byte) (flags : Byte) : Posted :=
  { slot := 3, bytes := fit 60 params ++ [0x5A#8, BitVec.ofNat 8 o.code, flags, 0#8] }

/-- A state with that order at the head of the queue. -/
def ordered (s : State) (p : Posted) : State := { s with orders := { s.orders with queue := [p] } }

/-- The code byte of a test order. -/
theorem order_code (o : Order) (params : List Byte) (flags : Byte) :
    Order.ofCode (order o params flags).code.toNat = some o := by
  have h : (fit 60 params).length = 60 := by simp [fit, zeros]
  have c : (order o params flags).code = BitVec.ofNat 8 o.code := by
    simp [order, Posted.code, byteAt, h]
  rw [c]
  cases o <;> decide

/-- Any order, with any parameters and flags, stands at the head once it is the first in the queue of a state that allows
it. -/
theorem atHead {s : State} {o : Order} (params : List Byte) (flags : Byte) (h : s.resetN = true)
    (a : o.allowed s.partState s.frames.geometry.isSome = true) :
    AtHead (ordered s (order o params flags)) o (order o params flags) [] := ⟨h, rfl, order_code o params flags, a⟩

/-- A small geometry: 64 × 64 pixels, two logical buffers and two spare ones. -/
def small : Geometry := { w := 64, h := 64, stride := 128, mx := 2, my := 2, l := 2, s := 2, gp := 0, lat := 100 }

/-- A part in RUNNING with the small geometry, four FREE slots of 64 KiB, and both motors IDLE. -/
def running : State :=
  { State.reset with
    partState := .running
    partTime := 5000
    windows :=
      { control := 0x00FFC000, raw := some (small.raw 0x20000000), view := some (small.view 0x30000000)
        pool := some (small.pool 0x10000000)
        picture := some { base := 0x40000000, size := 4 * 65536, slots := 4, slotSize := 65536 } }
    frames := small.freshFrames
    lens :=
      { State.reset.lens with
        zoom := { Motor.unhomed with state := .idle }, focus := { Motor.unhomed with state := .idle } }
    store := { State.reset.store with slots := List.replicate 4 Slot.freed } }

/-- One byte of a field test: little-endian 16-bit values as parameters. -/
def words (l : List Nat) : List Byte := l.flatMap fun n => le n 2

/-- A host write with every byte enabled. -/
def write (addr : Nat) (data : List Byte) : HostTransaction :=
  { addr := BitVec.ofNat 32 addr, dir := .write, len := data.length, data := data
    mask := List.replicate data.length true, tag := 1 }

/-- What a command leaves, for a look at one field. -/
def after (c : Instr) (s : State) : State :=
  match exec c s with
  | .next t => t
  | _ => s

/-! ### Chapters 1 to 5 -/

/-- The worked case of 1.6: a VIEW read across a view line end, in two pieces. -/
theorem test_view_pieces :
    ({ running with
        windows := { running.windows with pool := some { base := 0x10000000, size := 121978880, bufsz := 24395776 } }
        frames := { running.frames with map := [{ phys := 0, ox := 0, oy := 0 }, { phys := 4, ox := -40, oy := 12 }] }
      } : State).viewPieces
      { base := 0x20000000, size := 64161792, vl := 7552, vsz := 21387264, mx := 128, my := 96, stride := 8064
        bufsz := 24395776 } 0x21479C70 32
      = [{ addr := 0x15DFC2A0, len := 16 }, { addr := 0x15DFC4B0, len := 16 }] := by decide

/-- Own transactions issued by turns: the queue's head, when it was requested 20 µs ago, goes before a host read. -/
theorem test_own_waits_twenty :
    (takeTurn 1 { running with
        port := { running.port with
          inbound := [{ addr := 0, dir := .read, len := 4, data := [], mask := [], tag := 2 }]
          own := [{ owner := .status, addr := 64, dir := .write, len := 0, data := [], mask := [],
                    requested := 4980 }] } }).port.flight.map Flight.addr = some 64 ∧
      (takeTurn 1 { running with
        port := { running.port with
          inbound := [{ addr := 0, dir := .read, len := 4, data := [], mask := [], tag := 2 }]
          own := [{ owner := .status, addr := 64, dir := .write, len := 0, data := [], mask := [],
                    requested := 4981 }] } }).port.flight.map Flight.addr = some 0 := by decide

/-- 3.4's worked case: the first write's four sites of line 1200 against the carry (1200, 1791, 590). -/
theorem test_cells_worked :
    let g : Geometry :=
      { w := 4032, h := 3024, stride := 8064, mx := 0, my := 0, l := 2, s := 0, gp := 0, lat := 0 }
    let f : FocusSettings := { fx := 1344, fy := 1008, fw := 1344, fh := 1008, core := 8, minc := 0 }
    let m : Metering := { State.reset.exposure.settings with blk := 64, white := 4000 }
    let b := { claimedBank g m f 1 0 with carry := some { y := 1200, x := 1791, v := 590 } }
    let px := [600, 640, 610, 700].flatMap fun v => [0#8, 0#8] ++ le v 2
    let c := accumulate g 9688448 (write 0 px) b
    c.sums.getD 27 0 = 2294 ∧ c.counts.getD 27 0 = 4 ∧ c.cells.getD 1 0 = 136 ∧ c.bins.getD 9 0 = 2 ∧
      c.carry = some { y := 1200, x := 1799, v := 700 } := by decide

/-- 4.6, normal and limit cases: error, move and split. -/
theorem test_exposure_worked :
    let m := State.reset.exposure.settings
    exposureError m 230 = 32 ∧ moveOf 2 32 = 32 ∧ maxShutter m 346 true = 410 ∧
      splitCode m 410 478 = { s := 410, g := 68, under := false, over' := false } ∧
      exposureError m 20 = 145 ∧ moveOf 2 145 = 88 ∧
      splitCode m 410 700 = { s := 410, g := 192, under := true, over' := false } := by decide

/-- 4.6, bright and guard cases. -/
theorem test_exposure_bright_and_guard :
    let m := State.reset.exposure.settings
    exposureError m 3000 = -85 ∧ moveOf 2 (-85) = -58 ∧
      splitCode m 378 196 = { s := 222, g := 0, under := false, over' := true } ∧
      guardedError true 0 = -8 ∧ moveOf 2 (-8) = -8 ∧ moveOf 2 (-64) = -48 ∧ moveOf 2 (-1) = 0 := by decide

/-! ### Chapters 6 to 9 -/

/-- A tracking table with p_inf 1200 and 1260 at knots 3 and 4, p_near 600 above, and Δ = 40 (R101, R102). -/
def tracked : State :=
  { running with
    lens :=
      { running.lens with
        settings := { running.lens.settings with delta := 40 }
        knots := (List.range 33).map fun i =>
          { pInf := 1140 + 60 * (i - 2), pNear := 1740 + 60 * (i - 2), a := 0, sLim := 0, ppd16 := 0 } } }

/-- R101 and R102: 1215 at z = 130, 1203 at z = 122, and track(130, 1024) = 1365. -/
theorem test_tracking :
    tracked.interp Knot.pInf 130 = 1215 ∧ tracked.interp Knot.pInf 122 = 1203 ∧ tracked.track 130 1024 = 1365 := by
  decide

/-- 6.3's worked sequence: given 1353 from 1349 directly, and given a lower target with backlash an overshoot. -/
theorem test_aim :
    ({ Motor.unhomed with position := 1349 }.aimed .focus 6 1353).aim = 1353 ∧
      ({ Motor.unhomed with position := 1349 }.aimed .focus 6 1340).aim = 1334 ∧
      ({ Motor.unhomed with position := 4 }.aimed .focus 6 3).aim = 3 ∧
      ({ Motor.unhomed with position := 1349 }.aimed .zoom 6 1340).aim = 1340 := by decide

/-- 8.2's worked case: three rounds of integration with K = 10. -/
theorem test_integrate :
    integrate 10 31900 120 = 31989 ∧ integrate 10 (-5010) 3 = -5002 ∧ integrate 10 31989 42 = 32000 ∧
      integrate 10 (-5002) (-3) = -5000 ∧ integrate 10 32000 42 = 32011 := by decide

/-- 8.6's worked case: the offsets, made even toward zero. -/
theorem test_crop_offsets :
    evenTowardZero (rawOffset 32000 3723) = -116 ∧ evenTowardZero (rawOffset (-5000) 3723) = 18 ∧
      evenTowardZero (rawOffset 32200 3723) = -116 ∧ rawOffset 40000 3723 = -145 := by decide

/-- 9.4's worked case: a trailer at 147,408 is split 48 and 16. -/
theorem test_trailer_split :
    let w : CloseWork :=
      { slot := 5, id := 12, length := 147408, piece := 576, crc := 0, trailer := none, written := 0, ppd16 := 0
        snapshot := FrameRecord.empty.snapshot }
    trailerPart w = 48 ∧ trailerPart { w with written := 48 } = 16 := by decide

/-! ### One step each: replies, settings, slots -/

/-- 10.8: a reply echoes sequence and code; ZOOM_TO beyond ZMAX is CLAMPED. -/
theorem test_zoom_to_clamped :
    ((after .zoomTo (ordered running (order .zoomTo (words [2000] ++ [8#8]) 0))).orders.image.getD 3 []).take 4 =
        [0x5A#8, 0x13#8, 0x02#8, 0x00#8] ∧
      (after .zoomTo (ordered running (order .zoomTo (words [2000] ++ [8#8]) 0))).lens.zoom.target = 1024 := by
  decide

/-- R184: HOLD_IGNORED for NOP with FRAME_ALIGNED, and the part time in the values. -/
theorem test_nop_reply :
    (after .nop (ordered running (order .nop [] 1))).orders.image.getD 3 [] =
      [0x5A#8, 0x01#8, 0x00#8, 0x01#8, 0x88#8, 0x13#8] ++ zeros 10 := by decide

/-- R182: SETUP_LENS is refused in RUNNING with WRONG_STATE and its row takes it from the queue. -/
theorem test_wrong_state :
    ((after .setupLens (ordered running (order .setupLens [] 0))).orders.image.getD 3 []).take 4 =
        [0x5A#8, 0x03#8, 0x04#8, 0x00#8] ∧
      (after .setupLens (ordered running (order .setupLens [] 0))).orders.queue = [] := by decide

/-- R186: a METER_MODE posted with FRAME_ALIGNED is held and not applied. -/
theorem test_meter_mode_held :
    (after .meterMode (ordered running (order .meterMode (words [1000]) 1))).orders.hold.length = 1 ∧
      (after .meterMode (ordered running (order .meterMode (words [1000]) 1))).exposure.settings.tgt = 460 := by decide

/-- R63: S_max_cfg is clamped against the new S_min, WHITE to at least 1. -/
theorem test_meter_mode_clamps :
    (after .meterMode (ordered running
      (order .meterMode (words [0, 0xFF00, 20, 300, 200, 256, 97, 1024, 0]) 0))).exposure.settings =
      { tgt := 1, c := -96, db := 16, sMin := 300, sMaxCfg := 300, gMax := 255, boost := 96, blk := 1023, white := 1 }
    := by decide

/-- R64: zone 0 is in the low half of byte 0. -/
theorem test_load_weights :
    ((after .loadWeights (ordered running (order .loadWeights [0x21#8, 0x43#8] 0))).exposure.weights).take 4 =
      [1, 2, 3, 4] := by decide

/-- R97 and R111: FOCUS_SET locks the focus and sends its motor to track. -/
theorem test_focus_set :
    (after .focusSet (ordered tracked (order .focusSet (words [1024]) 0))).focus.state = .locked ∧
      (after .focusSet (ordered tracked (order .focusSet (words [1024]) 0))).lens.focus.target = 1290 := by decide

/-- R173: FREE_SLOT of a FREE slot is OK, and of slot 4 of four BAD_SLOT. -/
theorem test_free_slot :
    ((after .freeSlot (ordered running (order .freeSlot [3#8] 0))).orders.image.getD 3 []).getD 2 0 = 0x00#8 ∧
      ((after .freeSlot (ordered running (order .freeSlot [4#8] 0))).orders.image.getD 3 []).getD 2 0 = 0x0D#8 := by
  decide

/-- R157: SHOOT with no frame to look back on and a look-ahead of 3 waits on the hold list without a reply. -/
theorem test_shoot_waits :
    (after .shoot (ordered running (order .shoot [0#8, 3#8, 20#8, 0#8] 0))).orders.hold.length = 1 ∧
      (after .shoot (ordered running (order .shoot [0#8, 3#8, 20#8, 0#8] 0))).orders.image.getD 3 [] =
        List.replicate 16 0 := by decide

/-- R193: STOP with both motors at 0 parks at once and enters CONFIG. -/
theorem test_stop_parks_at_once :
    (after .stop (ordered running (order .stop [] 0))).partState = .config ∧
      ((after .stop (ordered running (order .stop [] 0))).orders.image.getD 3 []).getD 2 0 = 0x01#8 := by decide

/-- R123: the first round begins at START, with sequence 1 and a SENSE request whose check byte is right. -/
theorem test_start_first_round :
    (after .start (ordered { running with partState := .config } (order .start [] 0))).link.exchange.map Exchange.bytes =
        some [0x08#8, 0x00#8, 0x01#8, headerCheck 0x08#8 0x00#8 0x01#8] ∧
      (after .start (ordered { running with partState := .config } (order .start [] 0))).partState = .homing := by decide

/-! ### Frames: one step each -/

/-- A header of 32 bytes with the marker, G_hdr 1, t_hdr 1000 and readout 500. -/
def header : List Byte := fit 32 (words [0x4A57, 1] ++ le 1000 4 ++ le 500 4)

/-- R25 to R31: a frame start opens frame 1 in buffer 1 and claims bank 0. -/
theorem test_frame_start :
    let t := (offerRawWrite small 1 0 (write 0 header) running).1
    (t.record 1).state = .filling ∧ (t.record 1).number = 1 ∧ (t.record 1).tHdr = 1000 ∧
      (t.record 1).bank = some .bank0 ∧ t.stats.bank0.state = .accumulating := by decide

/-- 2.8: a frame start onto a PINNED buffer is remapped to the lowest free one. -/
theorem test_frame_start_remaps :
    let s := setRecord 1 { FrameRecord.empty with state := .pinned } running
    let t := (offerRawWrite small 1 0 (write 0 header) s).1
    t.phys 1 = 2 ∧ t.frames.free = [3] ∧ (t.record 1).state = .pinned ∧ (t.record 2).state = .filling := by decide

/-- R34: the write with the frame's last byte completes it, SHORT by all the bytes it never got. -/
theorem test_last_byte_completes :
    let s := setRecord 0 { FrameRecord.empty with state := .filling, number := 7 } running
    let t := (offerRawWrite small 0 8318 (write 0 [1#8, 2#8]) s).1
    (t.record 0).state = .complete ∧ (t.record 0).received = 2 ∧ (t.record 0).short = true ∧
      t.store.recent = [{ number := 7, buffer := 0 }] := by decide

/-! ### Witnesses: states and operands that meet the hypotheses of the obligations -/

/-- A part with RESET_N low. -/
def inReset : State := { State.reset with resetN := false }

/-- StepRunsTheFrontCommand: a queue with a command, and the empty queue in and out of reset. -/
theorem test_witness_step :
    ({ running with pending := [.nop] } : State).pending = .nop :: [] ∧ running.pending = [] ∧
      running.resetN = true ∧ inReset.pending = [] ∧ inReset.resetN = false := by decide

/-- ResetRiseGivesResetValues and ResetAssertDropsWork. -/
theorem test_witness_reset :
    inReset.resetN = false ∧ (∀ a, Instr.nop ≠ .resetNRise a) ∧ State.reset.resetN = true := by decide

/-- A read of 4 bytes at an address in no window. -/
def plainRead : HostTransaction := { addr := 0x08000000, dir := .read, len := 4, data := [], mask := [], tag := 2 }

/-- A state with these host transactions in the inbound queue. -/
def inbound (l : List HostTransaction) (s : State) : State := { s with port := { s.port with inbound := l } }

/-- HostTransactionJoinsTheQueue: the queue full, with one place, and empty before a malformed transaction. -/
theorem test_witness_inbound :
    (∀ x ∈ (inbound (List.replicate 8 plainRead) running).port.inbound, isMalformed x = false) ∧
      8 ≤ (inbound (List.replicate 8 plainRead) running).port.inbound.length ∧
      (inbound (List.replicate 7 plainRead) running).port.inbound.length < 8 ∧
      (inbound (List.replicate 7 plainRead) running).port.inbound ≠ [] ∧ isMalformed plainRead = false ∧
      isMalformed { plainRead with len := 0 } = true ∧ isMalformed { plainRead with len := 257 } = true ∧
      running.port.inbound = [] := by decide

/-- An own write requested at this time. -/
def owned (at' : Time) : OwnTransaction :=
  { owner := .status, addr := 64, dir := .write, len := 0, data := [], mask := [], requested := at' }

/-- ArbiterTurnFollowsItsOrder: an own transaction aged 20 and 19 µs, a VIEW piece, a host read in no window. -/
theorem test_witness_arbiter :
    20 ≤ elapsed running.partTime (owned 4980).requested ∧ elapsed running.partTime (owned 4981).requested < 20 ∧
      running.port.flight = none ∧ running.port.view = none ∧
      (∀ x ∈ running.port.own.head?, elapsed running.partTime x.requested < 20) ∧
      running.decodeAddress plainRead.addr.toNat = .none ∧ running.port.own = [] ∧
      (∀ x ∈ [owned 4981].head?, elapsed running.partTime x.requested < 20) := by decide

/-- ViewWriteIsDropped: a write in the VIEW window of a RUNNING part. -/
theorem test_witness_view_write :
    running.decodeAddress (write 0x30000000 [1#8]).addr.toNat = .view (small.view 0x30000000) ∧
      (write 0x30000000 [1#8]).dir = .write ∧ running.port.view = none := by decide

/-- LateWriteIsDropped: the first byte past the header, in a COMPLETE and in a PINNED record. -/
theorem test_witness_late_write :
    let w := small.raw 0x20000000
    let t := write 0x20000020 [1#8]
    running.decodeAddress t.addr.toNat = .raw w ∧ running.frames.geometry = some small ∧
      32 ≤ (t.addr.toNat - w.base) % w.bufsz ∧ (t.addr.toNat - w.base) / w.bufsz = 0 ∧
      ((setRecord 0 { FrameRecord.empty with state := .complete } running).record 0).state = .complete ∧
      ((setRecord 0 { FrameRecord.empty with state := .pinned } running).record 0).state = .pinned ∧
      (setRecord 0 { FrameRecord.empty with state := .pinned } running).phys 0 = 0 := by decide

/-- TornHeaderIsDropped: the last header byte alone, and a header of 31 bytes. -/
theorem test_witness_torn_header :
    (31 < 32 ∧ 0 < 31) ∧ (write 0 (header.take 31)).len < 32 ∧ (write 0 (zeros 32)).data.getD 0 0 ≠ 0x57#8 := by
  decide

/-- FrameStartOpensARecord: a plain start, a start onto a PINNED buffer, and one that cuts a filling frame. -/
theorem test_witness_frame_start :
    isFrameStart 0 (write 0 header) = true ∧ (write 0 header).len ≤ small.stride ∧ 0 < small.h ∧ 0 < small.w ∧
      running.startTarget 1 = some 1 ∧ 1 < running.frames.map.length ∧ 1 < running.frames.table.length ∧
      (setRecord 1 { FrameRecord.empty with state := .pinned } running).startTarget 1 = some 2 ∧
      (setRecord 0 { FrameRecord.empty with state := .filling } running).filling? = some 0 ∧
      (setRecord 0 { FrameRecord.empty with state := .filling } running).startTarget 1 = some 1 := by decide

/-- FrameStartOpensARecord: a METER_MODE held alone and one clamped, no bank FREE, and a cut frame with a bank. -/
theorem test_witness_frame_start_held :
    let h : Held := { order := order .meterMode (words [300, 0, 2, 222, 637, 192, 64, 64, 4000]) 1, shoot := false }
    let s := setBank .bank0 { Bank.released with state := .writing }
      (setBank .bank1 { Bank.released with state := .waiting }
        { running with orders := { running.orders with hold := [h, { h with shoot := true }] } })
    s.orders.hold.filter (fun x => !x.shoot) = [] ++ [h] ∧ Order.ofCode h.order.code.toNat = some .meterMode ∧
      h.order.metering.tgt = 300 ∧ h.order.slot < s.orders.image.length ∧ s.filling? = none ∧
      s.stats.bank0.state ≠ .free ∧ s.stats.bank1.state ≠ .free ∧ (running.bank .bank0).state = .free ∧
      ((setRecord 0 { FrameRecord.empty with state := .filling, bank := some .bank1 } running).record 0).bank =
        some .bank1 ∧
      (offerRawWrite small 1 0 (write 0 header) s).1.exposure.settings.tgt = 300 ∧
      ((offerRawWrite small 1 0 (write 0 header) s).1.record 1).notMetered = true := by decide

/-- LastByteCompletesTheFrame: a write that ends with the last byte, offset 8,319, and one that begins with it. -/
theorem test_witness_last_byte :
    let s := setRecord 0 { FrameRecord.empty with state := .filling } running
    (s.record (s.phys 0)).state = .filling ∧ s.phys 0 < s.frames.table.length ∧
      small.h * small.stride + 2 * small.w - 1 = 8319 ∧ 8319 < 8318 + (write 0 [1#8, 2#8]).len ∧
      (write 0 [1#8, 2#8]).mask.getD (8319 - 8318) false = true ∧ (write 0 [1#8]).mask.getD (8319 - 8319) false = true ∧
      s.store.inflight = none := by decide

/-- An ACTIVE unit with entries before, in and after a window that starts at 4,600 and ends at 5,300. -/
def shaken : Steady :=
  { State.reset.steady with
    state := .active
    history := [{ time := 4599, rx := 0, ry := 0, ax := 300000, ay := 0 },
      { time := 4600, rx := 0, ry := 0, ax := 32000000, ay := -40000 },
      { time := 5300, rx := 0, ry := 0, ax := 10, ay := 0 }, { time := 5301, rx := 0, ry := 0, ax := 0, ay := 0 }] }

/-- LastByteCompletesTheFrame, the bank and the crop: bank 0 behind a busy and a FREE bank 1; the nearest entry to the
midpoint 4,950 is the earlier of two at 350 µs; the entries in the window with one on each side. -/
theorem test_witness_crop :
    let f : FrameRecord := { FrameRecord.empty with state := .filling, tH := 5000, tHdr := 300, readout := 400 }
    let mid : Time := f.tH - BitVec.ofNat 32 small.lat + BitVec.ofInt 32 (((400 : Int) - 300) / 2)
    let e := shaken.history.getD 1 { time := 0, rx := 0, ry := 0, ax := 0, ay := 0 }
    let r := cropResult { running with steady := shaken } small f
    f.tH - BitVec.ofNat 32 small.lat - BitVec.ofNat 32 300 = 4600 ∧
      f.tH - BitVec.ofNat 32 small.lat + BitVec.ofNat 32 400 = 5300 ∧ mid = 4950 ∧
      shaken.history = shaken.history.take 1 ++ e :: shaken.history.drop 2 ∧
      (∀ q ∈ shaken.history.take 1, (e.time - mid).toInt.natAbs < (q.time - mid).toInt.natAbs) ∧
      (∀ q ∈ shaken.history.drop 2, (e.time - mid).toInt.natAbs ≤ (q.time - mid).toInt.natAbs) ∧
      (∀ q ∈ shaken.history.drop 3, 0 ≤ (q.time - 4600).toInt ∧ 0 < (q.time - 5300).toInt) ∧ r.partly = false ∧
      (({ FrameRecord.empty with bank := some BankId.bank0 } : FrameRecord)).bank = some .bank0 ∧
      (setBank .bank1 { Bank.released with state := .writing } running).stats.bank1.state = .writing := by decide

/-- PictureWriteNeedsALiveSlot: slot 0 RESERVED, FILLING and FREE, and slot 4 of four. -/
theorem test_witness_picture :
    (setSlot 0 { Slot.freed with state := .reserved } running).slot? 0 = some { Slot.freed with state := .reserved } ∧
      (setSlot 0 { Slot.freed with state := .filling } running).slot? 0 = some { Slot.freed with state := .filling } ∧
      running.slot? 0 = some Slot.freed ∧ running.slot? 4 = none := by decide

/-- OrderSlotWritePosts: slots 0 and 15, with 15 and with 16 orders queued. -/
theorem test_witness_order_slot :
    running.orders.shadow.length = 1024 ∧ (write 0 (order .nop [] 0).bytes).len = 64 ∧
      (write 0 (order .nop [] 0).bytes).data.length = 64 ∧
      (write 0 (order .nop [] 0).bytes).mask = List.replicate 64 true ∧
      (write 0 (order .nop [] 0).bytes).data.getD 60 0 ≠ 0#8 ∧
      (List.replicate 15 (order .nop [] 0)).length < 16 ∧ 16 ≤ (List.replicate 16 (order .nop [] 0)).length := by decide

/-- A state with a host read in flight, issued at this time. -/
def inFlight (issued : Time) : State :=
  { running with
    port :=
      { running.port with
        inbound := [plainRead]
        flight := some
          { kind := .host none, addr := 0x08000000, dir := .read, len := 4, data := [], mask := [], tag := 1,
            issued := issued } } }

/-- CompletionEndsTheTransaction and TimeoutAbandonsTheTransaction: the tag in flight and another, 100 and 99 µs. -/
theorem test_witness_completion :
    (inFlight 4900).port.flight.map Flight.tag = some 1 ∧ (inFlight 4900).port.inbound = plainRead :: [] ∧
      (∀ x ∈ (inFlight 4900).port.flight, x.tag ≠ 2) ∧ (inFlight 4900).resetN = true ∧
      100 ≤ ((inFlight 4900).partTime - 4900).toNat ∧ ((inFlight 4901).partTime - 4901).toNat < 100 := by decide

/-- A part with a VIEW read in progress that has these pieces left, one in flight, or an own transaction in flight. -/
def midway (k : FlightKind) (ps : List Piece) : State :=
  { inFlight 4900 with
    port :=
      { (inFlight 4900).port with
        view := some { pieces := ps, data := [7#8] }
        flight := some
          { kind := k, addr := 0, dir := .read, len := 1, data := [], mask := [], tag := 1, issued := 4900 } } }

/-- CompletionEndsTheTransaction and TimeoutAbandonsTheTransaction: the last piece, one with another after it, and an own
transaction, all with a host transaction behind. -/
theorem test_witness_pieces (o : Owner) :
    (midway .piece []).port.inbound = plainRead :: [] ∧ (midway .piece []).port.view = some ⟨[], [7#8]⟩ ∧
      ([{ addr := 4, len := 1 }] : List Piece) ≠ [] ∧ (midway (.own o) []).port.flight.map Flight.kind = some (.own o) ∧
      (after (.memoryCompletion 1 .ok [8#8]) (midway .piece [])).hostOut =
        [{ tag := 2, status := .ok, data := [7#8, 8#8] }] ∧
      (after (.memoryCompletion 1 .ok [8#8]) (midway (.own o) [])).port.told = [{ owner := o, data := [8#8] }] := by
  cases o <;> decide

/-- FailureTold, clause by clause: a result writer, close work and its two requests, mirror requests, carried replies. -/
theorem test_witness_failures :
    let marks := (List.replicate 16 false).set 15 true
    let u := { running with store := { running.store with shotDirty := List.replicate 4 false } }
    let t := storeFailed { u with store := { u.store with request := some (.shotMirror 3) } }
    marks.length = 16 ∧ running.orders.dirty.length = 16 ∧ marks.getD 15 false = true ∧
      3 < u.store.shotDirty.length ∧ 63 < running.store.slotDirty.length ∧
      (requestStore t).store.request = some (.shotMirror 3) ∧
      (requestReply (replyFailed { running with orders := { running.orders with carried := some marks } })).orders.carried
        = some marks := by decide

/-- ArbiterTurnFollowsItsOrder: no turn before the owner's row. -/
theorem test_witness_told_waits (o : Owner) :
    let s : State := inbound [plainRead] { running with port := { running.port with told := [{ owner := o, data := [] }] } }
    s.port.told ≠ [] ∧ after .arbiterTurn s = s := by cases o <;> decide

/-- A record copy of frame 1 with this exposure time and gain. -/
def copyOf (t gain : Nat) : RecordCopy :=
  { record := { FrameRecord.empty with state := .complete, number := 1, tHdr := t, gHdr := gain }, owner := 0 }

/-- A bank under evaluation whose one zone has one green site of level 460, with this record copy. -/
def evaluatingBank (c : RecordCopy) : Bank :=
  { Bank.released with
    state := .evaluating, sums := 460 :: List.replicate 63 0, counts := 1 :: List.replicate 63 0, copy := some c }

/-- A part with bank 0 under evaluation. -/
def evaluating (c : RecordCopy) : State :=
  { running with stats := { running.stats with bank0 := evaluatingBank c } }

/-- The evaluation statements: bank 0 is under evaluation alone. -/
theorem test_witness_evaluating (c : RecordCopy) : Evaluating (evaluating c) .bank0 c :=
  ⟨rfl, rfl, by show BankState.free ≠ .evaluating; decide, rfl⟩

/-- EvaluationPublishesThePlan at the ends of its four ranges: with S_min and S_max_eff 222 and G_max 192, N is 221; 222;
223 and 414; and 415. -/
theorem test_witness_publishes :
    meanLevel running.exposure.weights (evaluatingBank (copyOf 125 0)) = some 460 ∧
      running.exposure.lock = false ∧ running.exposure.settings.sMin = 222 ∧ running.exposure.settings.gMax = 192 ∧
      running.interp Knot.sLim running.lens.zoom.position = 0 ∧
      [copyOf 122 0, copyOf 125 0, copyOf 125 1, copyOf 125 192, copyOf 125 193].map
        (fun c => wantedCode c.record 0 0) = [221, 222, 223, 414, 415] := by decide

/-- EvaluationHoldsThePlan: no data, stale, lock, BAD_EXPOSURE. -/
theorem test_witness_holds :
    meanLevel (List.replicate 64 0) (evaluatingBank (copyOf 125 0)) = none ∧
      ({ evaluatingBank (copyOf 125 0) with stale := true } : Bank).stale = true ∧
      ({ running.exposure with lock := true } : Exposure).lock = true ∧
      ({ FrameRecord.empty with badExposure := true } : FrameRecord).badExposure = true := by decide

/-- A part whose owner has been told of a completed transaction. -/
def told (o : Owner) (s : State) : State := { s with port := { s.port with told := [{ owner := o, data := [] }] } }

/-- A result writer at its first or second half. -/
def writer (second : Bool) : ResultWriter := { bank := .bank0, entry := 15, bytes := zeros 512, secondHalf := second }

/-- ResultWriteDonePublishes: both halves, and a WAITING bank. -/
theorem test_witness_result_write (second : Bool) :
    let s := told .statistics { running with stats := { running.stats with writer := some (writer second) } }
    s.resetN = true ∧ s.stats.writer = some (writer second) ∧
      s.port.told = [{ owner := .statistics, data := [] }] := ⟨rfl, rfl, rfl⟩

/-- The pixel (2, 1) and, for another green site, (3, 0) of the small geometry, and a bank that carries (0, 1) of the same
cell. -/
def carrying : Bank :=
  { claimedBank small State.reset.exposure.settings State.reset.focus.settings 1 0 with
    carry := some { y := 1, x := 0, v := 5 } }

/-- PixelFeedsTheBank: a green site with its pair carried, one without, a site of another colour, and a byte disabled. -/
theorem test_witness_pixel :
    let t := write 0 [0xA0#8, 0x0F#8]
    2 < small.w ∧ 1 < small.h ∧ 2 * small.w ≤ small.stride ∧ small.stride % 2 = 0 ∧ t.len = 2 ∧
      readLe t.data 0 2 % 4096 = 4000 ∧ (2 + 1 + carrying.settings.gp) % 2 = 1 ∧ (2 + 0 + carrying.settings.gp) % 2 = 0 ∧
      t.mask.getD 0 false = true ∧ t.mask.getD 1 false = true ∧
      ({ t with mask := [true, false] } : HostTransaction).mask.getD 1 false = false ∧
      cellOf carrying.settings 2 1 = some 0 ∧ cellOf carrying.settings 0 1 = some 0 ∧ (3 + 0) % 2 = 1 := by decide

/-- SamplesTurnTheAngles: the worked case of 8.2, an accepted and a missing sample in ACTIVE. -/
theorem test_angles_worked :
    let u : Steady := { State.reset.steady with
      state := .active, ax := 31900, ay := -5010, settings := { State.reset.steady.settings with on := true } }
    let s (u : Steady) : State := { running with steady := u }
    u.state ≠ .faulted ∧ (acceptedSample 498600 120 3 (s u)).steady.ax = 31989 ∧
      (acceptedSample 498600 120 3 (s u)).steady.ay = -5002 ∧
      (missingSample 500600 (s { u with ax := 32000, ay := -5000, lastRx := 42, lastRy := -3 })).steady.ax = 32011 ∧
      (missingSample 500600 (s { u with ax := 32000, ay := -5000, lastRx := 42, lastRy := -3 })).steady.ay = -4998 := by
  decide

/-- R140: QN goes from 2 to 5 at a run of 2; quiet holds on, and ends at the next sample. -/
theorem test_new_count_waits :
    let u : Steady := { State.reset.steady with
      quietRun := 2, quiet := true, settings := { State.reset.steady.settings with qn := 2 } }
    let s : State := { running with steady := u.withSettings { u.settings with qn := 5 } }
    s.content.quiet = true ∧ (acceptedSample 1000 0 0 s).content.quiet = false ∧
      (acceptedSample 1000 0 0 { running with steady := u }).content.quiet = true := by decide

/-- R56: a mean of 4095 is carried, one above it is free. -/
theorem test_mean_field :
    meanField 1 2 4095 = 4095 ∧ meanField 1 2 4096 = (Config.freeMean 1 2).toNat := ⟨rfl, rfl⟩

/-- SearchClimbsStepByStep: a search record with a best of 800, met by figures of 801, 700 and 699. -/
theorem test_witness_search :
    let r : SearchRecord :=
      { running.newSearch 8 with
        lo := 0, hi := 100, best := some { pos := 16, nf := 800 }, falls := 1, sample := 24, up := true }
    let s : State := { running with focus := { running.focus with search := some r, state := .searching .sample } }
    s.focus.search = some r ∧ r.lo ≤ r.hi ∧ r.falls < 2 ∧ 800 < 801 ∧ ¬ 700 < 800 - 800 / 8 ∧ 699 < 800 - 800 / 8 ∧
      r.sample ≠ (if r.up then r.hi else r.lo) := by decide

/-- SearchClimbsStepByStep at the end 100 of the range: a best at the start 48 turns back to 40; one elsewhere fails below
MINC and takes the fine step at it, with both neighbours in the trail. -/
theorem test_witness_range_end :
    let r : SearchRecord :=
      { running.newSearch 8 with
        lo := 0, hi := 100, ps := 48, best := some { pos := 48, nf := 800 }, falls := 1, sample := 100, up := true }
    let s (r : SearchRecord) (minc : Nat) : State :=
      { running with
        focus :=
          { running.focus with
            search := some r, state := .searching .sample, settings := { running.focus.settings with minc := minc }
            trail := [{ pos := 40, nf := 300 }, { pos := 56, nf := 500 }] } }
    r.sample = r.hi ∧ (takeFrame 750 r (s r 900)).focus.search.map SearchRecord.sample = some 40 ∧
      (takeFrame 750 { r with reversed := true } (s { r with reversed := true } 801)).focus.state = .failed .lowContrast ∧
      fineP (s r 0).focus.trail r { pos := 48, nf := 800 } = 49 ∧
      (takeFrame 750 { r with reversed := true } (s { r with reversed := true } 800)).focus.state.isSearching = false := by
  decide

/-- ReplyStatusAndMirrorWritesEnd: the reply and status clauses. -/
theorem test_witness_reply_and_status (c : BlockCopy) :
    (told .orderUnit running).port.told = [{ owner := .orderUnit, data := [] }] ∧
      (told .status { running with status := { running.status with writing := some c } }).status.writing = some c :=
  ⟨rfl, rfl⟩

/-- Close work of slot 0 with this length. -/
def work (length : Nat) (trailer : Option (List Byte)) (written : Nat) : CloseWork :=
  { slot := 0, id := 1, length := length, snapshot := FrameRecord.empty.snapshot, ppd16 := 0, piece := 0
    crc := crc32Init, trailer := trailer, written := written }

/-- A part told that the Store's request is done, with this close work at the head. -/
def closing (q : StoreRequest) (w : CloseWork) : State :=
  told .store { running with store := { running.store with request := some q, closeQueue := [w] } }

/-- CloseWorkEndsWithTheSlotClosed: lengths 257 and 256, and 48 of 64 trailer bytes, then 16. -/
theorem test_witness_close :
    (closing .piece (work 257 none 0)).store.closeQueue = work 257 none 0 :: [] ∧
      (closing .piece (work 257 none 0)).store.request = some .piece ∧ 256 * (0 + 1) < (work 257 none 0).length ∧
      (work 256 none 0).length ≤ 256 * (0 + 1) ∧
      (closing (.trailer 48) (work 208 (some (zeros 64)) 0)).store.request = some (.trailer 48) ∧
      (work 208 (some (zeros 64)) 0).written + 48 < 64 ∧ 64 ≤ (work 208 (some (zeros 64)) 48).written + 16 := by decide

/-- ReplyStatusAndMirrorWritesEnd, the mirror clause: a shot and a slot mirror. -/
theorem test_witness_mirror :
    (closing (.shotMirror 3) (work 1 none 0)).store.request = some (.shotMirror 3) ∧
      (closing (.slotMirror 63) (work 1 none 0)).store.request = some (.slotMirror 63) ∧
      (closing (.shotMirror 3) (work 1 none 0)).port.told = [{ owner := .store, data := [] }] := by decide

/-! ### Witnesses of the lens link -/

/-- A reply packet: its header, and what LMISO gives after it. -/
def reply (kind target : Nat) (seq : Byte) (payload : List Byte) : ReplyHeader × List Byte :=
  let b0 := BitVec.ofNat 8 (kind * 8 + target)
  let b1 := BitVec.ofNat 8 payload.length
  let crc := (crc16 payload).toNat
  ({ b0 := b0, b1 := b1, b2 := seq, b3 := headerCheck b0 b1 seq },
    payload ++ if payload.isEmpty then [] else [BitVec.ofNat 8 (crc / 256), BitVec.ofNat 8 crc])

/-- An exchange in READING of this reply, its header counted already. -/
def reading (t : Target) (r : Request) (p : ReplyHeader × List Byte) : Exchange :=
  { target := t, request := r, state := .reading p.1, seq := 0x2C#8, bytes := [], pollBase := 0, headerIn := true }

/-- A part with this exchange in progress. -/
def exchanging (x : Exchange) (s : State) : State := { s with link := { s.link with exchange := some x, seq := 0x2C#8 } }

/-- RoundStartSendsSense: the period of 1,000 µs run out exactly, and one microsecond before. -/
theorem test_witness_round :
    running.link.exchange = none ∧ running.partState ≠ .config ∧
      ({ running with partTime := 1000 } : State).link.period ≤
        (({ running with partTime := 1000 } : State).partTime - running.link.roundStart).toNat ∧
      (({ running with partTime := 999 } : State).partTime - running.link.roundStart).toNat < running.link.period := by
  decide

/-- UnansweredMoveIsMissing: an IDLE zoom asked for 3 steps, at failure counts 1 and 2. -/
theorem test_witness_unanswered :
    let x : Exchange :=
      { target := .zoom, request := .move 3 8, state := .waiting, seq := 1, bytes := [], pollBase := 0, headerIn := false }
    x.target.motor = some .zoom ∧ (exchanging x running).partState = .running ∧
      (running.motor .zoom).state ≠ .homing ∧ running.link.period ≤ (running.partTime - running.link.roundStart).toNat ∧
      (setFails .zoom 1 running).link.fails .zoom ≠ 2 ∧ (setFails .zoom 2 running).link.fails .zoom = 2 := by decide

/-- RequestSentThenPolled: SENDING, and WAITING 8 µs after. -/
theorem test_witness_poll :
    let x : Exchange :=
      { target := .sensing, request := .sense, state := .waiting, seq := 1, bytes := [], pollBase := 4992, headerIn := false }
    (exchanging { x with state := .sending } running).link.exchange = some { x with state := .sending } ∧
      (exchanging x running).link.exchange = some x ∧ 8 ≤ (running.partTime - x.pollBase).toNat := by decide

/-- A SENSED payload: rates 120 and 3, 5,000 mV, 300 mA. -/
def sensedReply : ReplyHeader × List Byte :=
  reply 2 0 0x2C#8 [0x00#8, 0x78#8, 0x00#8, 0x03#8, 0x13#8, 0x88#8, 0x01#8, 0x2C#8]

/-- SensedUpdatesSupplyAndRates: the reply is accepted, and its rates, V and I are read. -/
theorem test_witness_sensed :
    judgeReply (reading .sensing .sense sensedReply) sensedReply.1 sensedReply.2 =
        some [0x00#8, 0x78#8, 0x00#8, 0x03#8, 0x13#8, 0x88#8, 0x01#8, 0x2C#8] ∧
      running.link.sensingFaulted = false ∧
      (after (.sensed sensedReply.2) (exchanging (reading .sensing .sense sensedReply) running)).lens.supply.lastP
        = 1500 := by decide

/-- SensedUpdatesSupplyAndRates at its limits for V = 5,000 and I = 300: I_warn 299 and 300, V_low 5,001, and I_stall 299 at
stall counts 1 and 2 with a MOVING zoom and a HOMING focus. -/
theorem test_witness_limits :
    let s (n : Nat) : State :=
      exchanging (reading .sensing .sense sensedReply)
        { running with
          lens :=
            { running.lens with
              zoom := { Motor.unhomed with state := .moving }, focus := { Motor.unhomed with state := .homing }
              supply := { running.lens.supply with iWarn := 299, vLow := 5001, iStall := 299, stallCount := n } } }
    let t (n : Nat) := after (.sensed sensedReply.2) (s n)
    (t 1).lens.supply.overCurrent = true ∧ (t 1).lens.supply.lensLow = true ∧ (t 1).lens.supply.stallCount = 2 ∧
      (t 1).lens.zoom.state = .moving ∧ (t 2).lens.supply.stallCount = 0 ∧ (t 2).lens.zoom.state = .stalled ∧
      (t 2).lens.focus.fault = .noHome := by decide

/-- DiscardedReplyIsMissing: the same reply with its last CRC byte wrong, at failure counts 1 and 2. -/
theorem test_witness_discarded :
    judgeReply (reading .sensing .sense sensedReply) sensedReply.1 (sensedReply.2.dropLast ++ [0#8]) = none ∧
      (exchanging (reading .sensing .sense sensedReply) running).partState = .running ∧
      (setFails .sensing 1 running).link.failSensing ≠ 2 ∧ (setFails .sensing 2 running).link.failSensing = 2 := by
  decide

/-- A MOVED payload: 3 steps done, at this position. -/
def movedReply' (pos : Nat) : ReplyHeader × List Byte :=
  reply 4 1 0x2C#8 [0x00#8, 0x03#8, BitVec.ofNat 8 (pos / 256), BitVec.ofNat 8 pos, 0x00#8]

/-- MovedUpdatesTheMotor: a MOVING zoom with target 1,024 at 1,023 and at 1,024, ZMAX. -/
theorem test_witness_moved :
    let z : Motor := { Motor.unhomed with state := .moving, position := 1020, target := 1024, aim := 1024 }
    judgeReply (reading .zoom (.move 3 8) (movedReply' 1023)) (movedReply' 1023).1 (movedReply' 1023).2 =
        some [0x00#8, 0x03#8, 0x03#8, 0xFF#8, 0x00#8] ∧
      judgeReply (reading .zoom (.move 3 8) (movedReply' 1024)) (movedReply' 1024).1 (movedReply' 1024).2 =
        some [0x00#8, 0x03#8, 0x04#8, 0x00#8, 0x00#8] ∧
      ((setMotor .zoom z running).motor .zoom).state = .moving ∧ 1024 ≤ (setMotor .zoom z running).topPosition .zoom ∧
      signedOf 16 (readBe16 [0x00#8, 0x03#8, 0x04#8, 0x00#8, 0x00#8] 2) = 1024 ∧
      (after (.moved (movedReply' 1024).2)
        (exchanging (reading .zoom (.move 3 8) (movedReply' 1024)) (setMotor .zoom z running))).lens.zoom.state
        = .idle := by decide

/-- MovedUpdatesTheMotor: a HOMING zoom one step below its limit and at it; an IDLE zoom told of 1,025, beyond ZMAX, which
makes a LOCKED focus TRACKING where its position changed and leaves it LOCKED where it stood at ZMAX, and cancels a search. -/
theorem test_witness_moved_away :
    let s (st : MotorState) (travel pos : Nat) : State :=
      exchanging (reading .zoom (.move 3 8) (movedReply' pos))
        (setMotor .zoom { Motor.unhomed with state := st, travel := travel } running)
    let t (st : MotorState) (travel pos : Nat) := after (.moved (movedReply' pos).2) (s st travel pos)
    running.topPosition .zoom + 64 = 1088 ∧ (t .homing 1084 0).lens.zoom.state = .homing ∧
      (t .homing 1085 0).lens.zoom.fault = .noHome ∧ (t .idle 0 1025).lens.zoom.fault = .range ∧
      (t .idle 0 1025).lens.zoom.position = 1024 ∧
      (let u (fo : FocusState) (pos : Nat) : State :=
        after (.moved (movedReply' 1025).2)
          (exchanging (reading .zoom (.move 3 8) (movedReply' 1025))
            (setFocusState fo (setMotor .zoom { Motor.unhomed with state := .idle, position := pos } running)))
      (u .locked 5).focus.state = .tracking ∧ (u .locked 1024).focus.state = .locked ∧
        (u (.searching .travel) 5).focus.state = .failed .cancelled) := by decide

/-- The HOMED reply of the focus motor, and of the zoom. -/
def homedReply' (target : Nat) : ReplyHeader × List Byte := reply 6 target 0x2C#8 []

/-- HomedEndsTheHoming: the focus HOMING with the zoom homed before it and park position 77; the zoom HOMING with the focus
UNHOMED and FAULTED. -/
theorem test_witness_homed :
    let m (st : MotorState) : Motor := { Motor.unhomed with state := st }
    let s (t : Target) (z f : MotorState) : State :=
      exchanging (reading t .home (homedReply' t.number))
        { running with
          partState := .homing
          lens :=
            { running.lens with
              zoom := m z, focus := m f, zoomHomed := true, settings := { running.lens.settings with park := 77 } } }
    let u (t : Target) (z f : MotorState) := after (.homed (homedReply' t.number).2) (s t z f)
    judgeReply (reading .focus .home (homedReply' 2)) (homedReply' 2).1 (homedReply' 2).2 = some [] ∧
      (u .focus .idle .homing).partState = .running ∧ (u .focus .idle .homing).lens.zoom.target = 77 ∧
      (u .focus .faulted .homing).lens.zoom = m .faulted ∧ (u .zoom .homing .unhomed).partState = .homing ∧
      (u .zoom .homing .unhomed).lens.focus.state = .homing ∧ (u .zoom .homing .faulted).partState = .running := by
  decide

/-- SettleTimeoutMakesIdle: a settle time of 500 µs run out exactly, and one microsecond before. -/
theorem test_witness_settle :
    let s := { running with lens := { running.lens with
      settings := { running.lens.settings with zoomSettle := 500 }
      zoom := { Motor.unhomed with state := .settling, settleStart := 4500 } } }
    (s.motor .zoom).state = .settling ∧ s.settleTime .zoom ≤ (s.partTime - (s.motor .zoom).settleStart).toNat ∧
      ((4999#32 : Time) - (s.motor .zoom).settleStart).toNat < s.settleTime .zoom ∧
      (running.motor .zoom).state ≠ .settling := by decide

/-- RoundGoesOn: a SENSED reply is followed by the focus motor's MOVE of at most 16 steps; with nothing due at either turn
the link is quiet, its line levels low again; so it is after the zoom's reply. -/
theorem test_witness_turns :
    let m (st : MotorState) (aim : Nat) : Motor := { Motor.unhomed with state := st, target := aim, aim := aim }
    let s (t : Turn) (x : Exchange) (z f : Motor) : State :=
      exchanging x { running with
        lens := { running.lens with zoom := z, focus := f }, link := { running.link with turn := t, lclk := true, lmosi := true } }
    let sense := reading .sensing .sense sensedReply
    let u := after (.sensed sensedReply.2) (s .sensing sense (m .moving 5) (m .moving 40))
    let v := after (.sensed sensedReply.2) (s .sensing sense (m .idle 0) (m .idle 0))
    let w := after (.moved (movedReply' 5).2) (s .zoom (reading .zoom (.move 3 8) (movedReply' 5)) (m .moving 5) (m .idle 0))
    u.link.exchange.map (fun x => (x.target, x.request)) = some (.focus, .move 16 16) ∧
      u.link.exchange.map (fun x => x.bytes.take 7) =
        some [0x1A#8, 0x03#8, 0x2C#8, headerCheck 0x1A#8 0x03#8 0x2C#8, 0x00#8, 0x10#8, 0x10#8] ∧
      v.link.exchange = none ∧ v.link.lclk = false ∧ v.link.lmosi = false ∧ w.link.turn = .done ∧
      w.link.lclk = false := by decide

/-- DiscardedReplyIsMissing: a MOVE and a HOME of the zoom, at failure counts 1 and 2, and a SENSE with target 0 faulted. -/
theorem test_witness_discarded_move :
    let bad := sensedReply.2.dropLast ++ [0#8]
    let s (r : Request) (n : Nat) (st : MotorState) : State :=
      exchanging (reading .zoom r sensedReply)
        (setFails .zoom n (setMotor .zoom { Motor.unhomed with state := st } { running with
          link := { running.link with sensingFaulted := true } }))
    judgeReply (reading .zoom (.move 3 8) sensedReply) sensedReply.1 bad = none ∧
      judgeReply (reading .zoom .home sensedReply) sensedReply.1 bad = none ∧
      (Target.zoom.motor = some .zoom) ∧ (s .home 1 .homing).link.fails .zoom ≠ 2 ∧
      (after (.replyDiscarded bad) (s (.move 3 8) 1 .idle)).lens.zoom.state = .moving ∧
      (after (.replyDiscarded bad) (s .home 2 .homing)).lens.zoom.fault = .link ∧
      (s .home 2 .homing).link.sensingFaulted = true := by decide

/-- MovedUpdatesTheMotor: an IDLE, a STALLED and a SETTLING zoom told of 1,023; the LOCKED focus becomes TRACKING. -/
theorem test_witness_moved_still :
    let s (st : MotorState) : State :=
      exchanging (reading .zoom (.move 3 8) (movedReply' 1023))
        (setFocusState .locked (setMotor .zoom { Motor.unhomed with state := st } running))
    let t (st : MotorState) := after (.moved (movedReply' 1023).2) (s st)
    (t .idle).lens.zoom.state = .moving ∧ (t .settling).lens.zoom.state = .moving ∧
      (t .stalled).lens.zoom.target = 1023 ∧ (t .idle).focus.state = .tracking := by decide

/-- SettleTimeoutMakesIdle and MovedUpdatesTheMotor, SearchArrives and LensParks: the focus settles at the sample position
of a search in TRAVEL, at the target of one in FINAL, and in PARKING as the last motor under way. -/
theorem test_witness_arrives :
    let s (fo : FocusState) (p : PartState) : State :=
      { running with
        partState := p
        focus := { running.focus with state := fo, search := some { running.newSearch 8 with sample := 40 } }
        lens := { running.lens with
          zoom := { Motor.unhomed with state := .idle }
          focus := { Motor.unhomed with state := .settling, position := 40, target := 40 } } }
    let t (fo : FocusState) (p : PartState) := after (.settleTimeout .focus) (s fo p)
    (t (.searching .travel) .running).focus.state = .searching .sample ∧
      (t (.searching .final) .running).focus.state = .locked ∧ (t .idle .running).partState = .running ∧
      (t .idle .parking).partState = .config ∧ (t .idle .parking).link.turn = .done := by decide

/-- StepRunsTheFrontCommand: the header of R130's worked sequence, with one bit wrong, polled at 4,998 is counted in the
microsecond 5,000, not before; the reply's row does not count it again, and counts it when it comes first. Cut off by CONFIG it
changes no counter. -/
theorem test_witness_header_in :
    let x (h : Bool) : Exchange :=
      { target := .zoom, request := .home, state := .reading ⟨0x21#8, 0x05#8, 0x24#8, 0x31#8⟩, seq := 1, bytes := []
        pollBase := 4998, headerIn := h }
    let s (now : Time) (h : Bool) : State := { exchanging (x h) running with partTime := now }
    let n (s : State) : Nat := s.status.counters.correctedHeader
    (s 4999 false).pending = [] ∧ n (tick (s 4999 false)) = 1 ∧ n (tick (s 4998 false)) = 0 ∧
      n (tick (s 4999 true)) = 0 ∧ n (after (.replyDiscarded []) (s 5000 true)) = 0 ∧
      n (after (.replyDiscarded []) (s 4999 false)) = 1 ∧ n (enterConfig (s 4999 false)) = 0 := by decide

/-- SearchClimbsStepByStep at EVALUATION_DONE: a usable frame, one with another focus position that is counted as the
seventh and as the eighth, and one that completed before the sample start. -/
theorem test_witness_evaluation_search :
    let c (pos : Nat) : RecordCopy :=
      { record :=
          { (copyOf 125 0).record with focusStill := true, focusPos := pos, completion := some 4000 }, owner := 0 }
    let r (n : Nat) (start : Time) : SearchRecord :=
      { running.newSearch 8 with sample := 0, resolved := n, sampleStart := start, lo := 0, hi := 100 }
    let s (pos n : Nat) (start : Time) : State :=
      { evaluating (c pos) with
        focus := { running.focus with state := .searching .sample, search := some (r n start) } }
    let t (pos n : Nat) (start : Time) := (after .evaluationDone (s pos n start)).focus
    Evaluating (s 0 0 0) .bank0 (c 0) ∧ (t 0 0 0).trail.length = 1 ∧
      (t 9 6 4000).search.map SearchRecord.resolved = some 7 ∧ (t 9 7 4000).state = .failed .noFrames ∧
      (t 9 7 4001).state = .searching .sample := ⟨⟨rfl, rfl, by show BankState.free ≠ .evaluating; decide, rfl⟩, by decide⟩

/-- ViewPiecesCoverTheRead in the control area and the PICTURE window: an order slot, the reply ring, a read and a write. -/
theorem test_witness_windows :
    let w : PictureWindow := { base := 0x40000000, size := 0x40000, slots := 4, slotSize := 0x10000 }
    let s : State := { running with windows := { running.windows with picture := some w } }
    let t (a : Nat) (d : Direction) : HostTransaction := { plainRead with addr := BitVec.ofNat 32 a, dir := d }
    s.decodeAddress (s.windows.control + 0x40) = .control ∧ s.decodeAddress (s.windows.control + 0x400) = .control ∧
      s.decodeAddress 0x40010010 = .picture w ∧
      (arrive (t 0x40010010 .read) s).2 = .forward 0x40010010 (some (1, 16)) ∧
      (arrive (t 0x40010010 .write) s).2 = .drop := by decide

/-- ViewPiecesCoverTheRead at the end of a PICTURE read: in flight for 100 µs, and the slot's drain under way. -/
theorem test_witness_picture_end :
    let x : Flight :=
      { kind := .host (some (0, 0)), addr := 0, dir := .read, len := 4, data := [], mask := [], tag := 5, issued := 4900 }
    let s : State :=
      inbound [plainRead]
        { running with
          port := { running.port with flight := some x }
          store := { running.store with slots := [{ Slot.freed with state := .closed, length := 9 }] } }
    100 ≤ (s.partTime - x.issued).toNat ∧ isMalformed plainRead = false ∧
      ((after (.memoryCompletion 5 .ok [1, 2, 3, 4]) s).slot? 0).map Slot.cursor = some 4 ∧
      ((after .memoryTimeout s).slot? 0).map Slot.drainVerified = some false := by decide

/-- LastByteCompletesTheFrame: a write of padding and of a pixel into a FILLING record, and one into an EMPTY record. -/
theorem test_witness_pixel_write :
    let s := setRecord 0 { FrameRecord.empty with state := .filling, number := 7 } running
    ((offerRawWrite small 0 128 (write 0 [1#8, 2#8]) s).1.record 0).received = 2 ∧
      ((offerRawWrite small 0 32 (write 0 [1#8, 2#8]) s).1.record 0).received = 0 ∧
      (running.record 0).state = .empty ∧ offerRawWrite small 0 128 (write 0 [1#8, 2#8]) running = (running, true) := by
  decide

/-! ### Witnesses of the orders: `atHead` with the other hypotheses, on the same state -/

/-- The part in CONFIG. -/
def config : State := { running with partState := .config }

/-- NopAndRefusedOrdersOnlyReply: code 0x1B, code 0x00, and SETUP_LENS in RUNNING. -/
theorem test_witness_refused :
    let s := ordered running (order .setupLens [] 0)
    s.resetN = true ∧ s.orders.queue = order .setupLens [] 0 :: [] ∧ Order.ofCode 0x1B = none ∧
      Order.ofCode 0x00 = none ∧ orderRow .setupLens = some .setupLens ∧
      Order.ofCode (order .setupLens [] 0).code.toNat = some .setupLens ∧
      Order.setupLens.allowed s.partState s.frames.geometry.isSome = false := by decide

/-- AlignedOrdersAreHeld: with any number of entries on the hold list, 7 and 8 among them. -/
theorem test_witness_held (n : Nat) :
    let p := order .meterMode [] 1
    let s := ordered { running with orders := { running.orders with
      hold := List.replicate n { order := p, shoot := false } } } p
    orderRow .meterMode = some .meterMode ∧ Order.meterMode.holdable = true ∧ AtHead s .meterMode p [] ∧
      p.aligned = true ∧ s.orders.hold.length = n :=
  ⟨rfl, rfl, atHead [] 1 rfl rfl, by decide, by simp [ordered]⟩

/-- NopAndRefusedOrdersOnlyReply for NOP, and the order statements whose one other hypothesis is that the order is not FRAME_ALIGNED:
each order is at the head of a state that allows it, in RUNNING or in CONFIG. -/
theorem test_witness_at_head (o : Order) :
    (order o [] 0).aligned = false ∧
      (AtHead (ordered running (order o [] 0)) o (order o [] 0) [] ∨
        AtHead (ordered config (order o [] 0)) o (order o [] 0) []) := by
  refine ⟨by cases o <;> decide, ?_⟩
  cases o <;> first
    | exact .inl (atHead [] 0 rfl rfl)
    | exact .inr (atHead [] 0 rfl rfl)

/-- The parameters of SETUP_FRAMES with a small geometry of this width and this RAW base. -/
def frameParams (w raw : Nat) : List Byte :=
  le w 2 ++ le 64 2 ++ le 128 4 ++ le 2 2 ++ le 2 2 ++ le 2 1 ++ le 2 1 ++ le 0 2 ++ le raw 4 ++ le 0x30000000 4 ++
    le 0x10000000 4 ++ le 100 4

/-- SetupFramesTakesTheGeometry: a geometry that fits, one of odd width, and a RAW window beyond the address space. -/
theorem test_witness_setup_frames :
    let p w raw := order .setupFrames (frameParams w raw) 0
    AtHead (ordered config (p 64 0x20000000)) .setupFrames (p 64 0x20000000) [] ∧
      (p 64 0x20000000).geometry = small ∧ (p 64 0x20000000).bases = (0x20000000, 0x30000000, 0x10000000) ∧
      small.ok = true ∧
      framesFit config.windows (small.raw 0x20000000) (small.view 0x30000000) (small.pool 0x10000000) = true ∧
      (p 63 0x20000000).geometry.ok = false ∧ (p 64 0xFFFFF000).geometry.ok = true ∧
      framesFit config.windows (small.raw 0xFFFFF000) (small.view 0x30000000) (small.pool 0x10000000) = false :=
  ⟨atHead _ 0 rfl rfl, by decide⟩

/-- LensSetupUnhomesTheMotors: LOAD_TRACKING of six knots from 27, of seven, of none, and of six from 28. -/
theorem test_witness_load_tracking (a b : Byte) :
    let p (a b : Byte) := order .loadTracking [a, b] 0
    AtHead (ordered config (p a b)) .loadTracking (p a b) [] ∧
      (p 27 6).field 0 1 = 27 ∧ (p 27 6).field 1 1 = 6 ∧ 6 < (p 0 7).field 1 1 ∧ (p 0 0).field 1 1 = 0 ∧
      33 < (p 28 6).field 0 1 + (p 28 6).field 1 1 := ⟨atHead _ 0 rfl rfl, by decide⟩

/-- StartBeginsHoming: a geometry is held. StopParks: four shot entries, no SHOOT held without one in flight. -/
theorem test_witness_start_and_stop :
    let p := order .stop [] 0
    AtHead (ordered config (order .start [] 0)) .start (order .start [] 0) [] ∧
      (ordered config (order .start [] 0)).frames.geometry = some small ∧ AtHead (ordered running p) .stop p [] ∧
      (ordered running p).store.shots.length = 4 ∧ ∀ h ∈ (ordered running p).orders.hold, h.shoot = false :=
  ⟨atHead [] 0 rfl rfl, rfl, atHead [] 0 rfl rfl, by decide⟩

/-- SetupStoreMakesTheSlots: four slots of 64 KiB, low water 4 and 5; a slot that is not FREE; and 65 slots. -/
theorem test_witness_setup_store (n low : Nat) :
    let p (n low : Nat) := order .setupStore (le 0x40000000 4 ++ le 65536 4 ++ le n 1 ++ le low 1) 0
    AtHead (ordered running (p n low)) .setupStore (p n low) [] ∧ (∀ x ∈ running.store.slots, x.state = .free) ∧
      pictureOk running.windows (p 4 4).picture = true ∧ (p 4 4).picture.slots = (p 4 4).field 9 1 ∧
      (p 4 5).picture.slots < (p 4 5).field 9 1 ∧ pictureOk running.windows (p 65 0).picture = false ∧
      ∃ x ∈ (setSlot 3 { Slot.freed with state := .closed } running).store.slots, x.state ≠ .free :=
  ⟨atHead _ 0 rfl rfl, by decide⟩

/-- FocusStartBeginsASearch: FAULTED, HOMING, a zoom that moves, and the motor IDLE at p_s and away from it. -/
theorem test_witness_focus_start :
    let p := order .focusStart [] 0
    AtHead (ordered running p) .focusStart p [] ∧ AtHead (ordered tracked p) .focusStart p [] ∧
      (setMotor .focus { Motor.unhomed with state := .faulted } (ordered running p)).lens.focus.state = .faulted ∧
      (setMotor .focus { Motor.unhomed with state := .homing } (ordered running p)).lens.focus.state = .homing ∧
      (setMotor .zoom { Motor.unhomed with state := .moving } (ordered running p)).lens.zoom.state ≠ .idle ∧
      (ordered running p).lens.focus.state = .idle ∧ (ordered running p).lens.zoom.state = .idle ∧
      (ordered running p).lens.focus.position = 0 ∧
      ((ordered running p).newSearch 8).ps = 0 ∧ ((ordered tracked p).newSearch 8).ps = 1140 :=
  ⟨atHead [] 0 rfl rfl, atHead [] 0 rfl rfl, by decide⟩

/-- FocusCancelAndSetGiveTheTrack: FOCUS_SET of 4,096 and 4,097, and a FAULTED focus motor. -/
theorem test_witness_focus_set (d : Nat) :
    let p (d : Nat) := order .focusSet (words [d]) 0
    AtHead (ordered running (p d)) .focusSet (p d) [] ∧ (p 4096).field 0 2 = 4096 ∧ (p 4097).field 0 2 = 4097 ∧
      (p 4096).aligned = false ∧ running.lens.focus.state ≠ .faulted ∧
      (setMotor .focus { Motor.unhomed with state := .faulted } running).lens.focus.state = .faulted :=
  ⟨atHead _ 0 rfl rfl, by decide⟩

/-- ZoomOrdersGiveTheTarget: the zoom FAULTED, UNHOMED, and IDLE at and away from a target; ZMAX and beyond. -/
theorem test_witness_zoom (z : Motor) (v : Nat) :
    let p (v : Nat) := order .zoomTo (words [v, 8]) 0
    AtHead (ordered (setMotor .zoom z running) (p v)) .zoomTo (p v) [] ∧
      (ordered (setMotor .zoom z running) (p v)).lens.zoom = z ∧ (p 0).aligned = false ∧
      running.lens.zoom.state = .idle ∧ min running.zmax ((p 0).field 0 2) = running.lens.zoom.position ∧
      min running.zmax ((p 1024).field 0 2) = 1024 ∧ min running.zmax ((p 1025).field 0 2) = 1024 :=
  ⟨atHead _ 0 rfl rfl, rfl, by decide⟩

/-- GivingATargetFollowsTheTable: at the clamped position 1,024 and away from it, in each state of the table, the position
certain and not. -/
theorem test_witness_give_target (st : MotorState) (q : Bool) :
    let s := setMotor .zoom { Motor.unhomed with state := st, position := 1024, uncertain := q } running
    (s.motor .zoom).state = st ∧ min (s.topPosition .zoom) 2000 = (s.motor .zoom).position ∧
      min (s.topPosition .zoom) 1023 ≠ (s.motor .zoom).position ∧ (s.motor .zoom).uncertain = q := by
  cases st <;> cases q <;> decide

/-- A quiet frame that qualifies, in buffer 0 of a part that knows it as the newest completion. -/
def shootable : State :=
  let s := setRecord 0 { FrameRecord.empty with state := .complete, number := 9, m := 20 } running
  { s with store := { s.store with recent := [{ number := 9, buffer := 0 }] } }

/-- ShootChoosesOrWaits: it is in flight or chooses with no look-back and 0 or 1 frames ahead, or a look-back of one that
finds M equal to Q. -/
theorem test_witness_shoot (b f : Byte) :
    let p (b f : Byte) := order .shoot [b, f, 20#8] 0
    AtHead (ordered shootable (p b f)) .shoot (p b f) [] ∧ shootable.frames.geometry = some small ∧
      shootable.orders.hold = [] ∧ shootable.store.inflight = none ∧ shootable.store.liveShots < small.s ∧
      0 < shootable.store.freeSlots ∧ (p 0 0).field 0 1 = 0 ∧ (p 0 0).field 1 1 = 0 ∧ (p 0 1).field 1 1 = 1 ∧
      (p 1 0).field 0 1 = 1 ∧ (p 1 0).field 2 1 = 20 ∧ shootable.store.recent = { number := 9, buffer := 0 } :: [] ∧
      (shootable.record 0).qualifies 9 (decide (byteAt (p 1 0).bytes 3 ≠ 0#8)) = true ∧
      (shootable.record 0).m = 20 ∧ 0 < shootable.frames.table.length ∧
      shootable.store.shots.findIdx? Option.isNone = some 0 ∧
      shootable.store.slots.findIdx? (fun x => x.state == .free) = some 0 := ⟨atHead _ 0 rfl rfl, by decide⟩

/-- ShootChoosesOrWaits, the look-ahead of a SHOOT: a quiet frame, one that is not with a completion to come, and at the
last completion a candidate with M 30 against a newer one with the same, which is chosen. -/
theorem test_witness_look_ahead :
    let s (q ahead : Nat) : State :=
      let u := setRecord 1 { FrameRecord.empty with state := .complete, number := 4, m := 20 } shootable
      { u with
        store :=
          { u.store with
            inflight := some
              { b := 0, f := 2, q := q, needFocus := false, ahead := ahead, clamped := false
                candidates := [{ number := 4, buffer := 1, m := 20 }] } } }
    (s 20 0).store.inflight.isSome = true ∧ (reportCompletion 9 0 (s 20 0)).store.inflight = none ∧
      (reportCompletion 9 0 (s 19 0)).store.inflight.map Inflight.ahead = some 1 ∧
      ((reportCompletion 9 0 (s 19 1)).record 0).state = .pinned ∧
      ((reportCompletion 9 0 (s 19 1)).record 1).state = .complete := by decide

/-- A shot. -/
def aShot (buffer slot : Nat) : Shot :=
  { id := 7, buffer := buffer, slot := slot, snapshot := FrameRecord.empty.snapshot, ppd16 := 0 }

/-- ShootChoosesOrWaits, its refusals: a hold list of 8, two live shots of a pool with two spare buffers, no slot. -/
theorem test_witness_shoot_refused :
    8 ≤ ({ running.orders with hold := List.replicate 8 { order := order .nop [] 0, shoot := false } } :
        Orders).hold.length ∧
      small.s ≤ ({ running.store with shots := [some (aShot 0 0), some (aShot 1 1), none, none] } : Store).liveShots ∧
      ({ running.store with slots := [] } : Store).freeSlots = 0 := by decide

/-- A part with shot 7 in entry 3, its buffer 1 PINNED and its slot 2 FILLING. -/
def shot : State :=
  setSlot 2 { Slot.freed with state := .filling, shotId := some 7 }
    (setShot 3 (some (aShot 1 2)) (setRecord 1 { FrameRecord.empty with state := .pinned } running))

/-- ReleaseShotEndsTheShot: a shot that stands, its pinned buffer, and an id that no shot holds. -/
theorem test_witness_release (id : Byte) :
    let p (id : Byte) := order .releaseShot [id] 0
    AtHead (ordered shot (p id)) .releaseShot (p id) [] ∧ shot.store.shotById ((p 7).field 0 1) = some (3, aShot 1 2) ∧
      shot.store.shotById ((p 8).field 0 1) = none ∧ (shot.record 1).state = .pinned ∧
      (running.record 1).state ≠ .pinned := ⟨atHead _ 0 rfl rfl, by decide⟩

/-- SlotOrdersFollowTheSlotState: CLOSE_SLOT of slot 2 with the longest length and one more, its other refusals, and
FREE_SLOT in each slot state. -/
theorem test_witness_slots (j id : Byte) (n : Nat) :
    let p (j id : Byte) (n : Nat) := order .closeSlot ([j, id, 0#8, 0#8] ++ le n 4) 0
    AtHead (ordered shot (p j id n)) .closeSlot (p j id n) [] ∧ shot.slotSize - 64 = 65472 ∧
      (p 2 7 65472).field 4 4 = 65472 ∧ shot.slotSize - 64 < (p 2 7 65473).field 4 4 ∧ (p 2 7 0).field 4 4 = 0 ∧
      (shot.slot? ((p 2 7 1).field 0 1)).map Slot.state = some .filling ∧
      (shot.slot? 2).map Slot.shotId = some (some ((p 2 7 1).field 1 1)) ∧
      shot.store.shotById ((p 2 7 1).field 1 1) = some (3, aShot 1 2) ∧
      (shot.slot? 3).map Slot.state = some .free ∧ shot.slot? 4 = none := ⟨atHead _ 0 rfl rfl, by decide⟩

/-- SlotOrdersFollowTheSlotState, FREE_SLOT: a slot in each state, with and without force. -/
theorem test_witness_free_slot (st : SlotState) (force : Byte) :
    let p := order .freeSlot [0#8, force] 0
    let s := setSlot 0 { Slot.freed with state := st } running
    AtHead (ordered s p) .freeSlot p [] ∧ p.field 0 1 = 0 ∧ byteAt p.bytes 1 = force ∧
      s.slot? 0 = some { Slot.freed with state := st } := ⟨atHead _ 0 rfl rfl, rfl, rfl, rfl⟩

/-- DrainChecksTheSlot: a CLOSED slot of length 1 read in one read of 65 bytes with its check right and wrong; read in two,
64 bytes and then the last; the last off the cursor; and a failed start, which leaves a DRAINED slot DRAINING. -/
theorem test_witness_drain :
    let good := crc32Final (crc32Feed crc32Init (zeros 61))
    let x (st : SlotState) (c : BitVec 32) : State :=
      setSlot 0 { Slot.freed with state := st, length := 1, check := c, checkValid := true } running
    let state (s : State) := (s.slot? 0).map Slot.state
    let first := reportRead 0 0 64 (some (zeros 64)) (x .closed good)
    state (reportRead 0 0 65 (some (zeros 65)) (x .closed good)) = some .drained ∧
      state (reportRead 0 0 65 (some (zeros 65)) (x .closed (good + 1))) = some .closed ∧
      first.slot? 0 = some
        { Slot.freed with
          state := .draining, length := 1, check := good, checkValid := true, cursor := 64, drainVerified := true
          drainCrc := crc32Feed crc32Init (zeros 61) } ∧
      state (reportRead 0 64 1 (some [0#8]) first) = some .drained ∧
      state (reportRead 0 63 2 (some (zeros 2)) first) = some .closed ∧
      state (reportRead 0 0 64 none (x .drained good)) = some .draining := by decide

/-- ViewPiecesCoverTheRead: a RAW address in buffer 1; the first, the last and the next byte of the VIEW window; a POOL
address in a PINNED buffer 3 and in one that is not. -/
theorem test_witness_addresses :
    let v := small.view 0x30000000
    running.windows.pool = some (small.pool 0x10000000) ∧
      running.decodeAddress 0x20003001 = .raw (small.raw 0x20000000) ∧ v.extent.size = 14400 ∧
      (running.viewByte v 0x30000000).2 = 0x10000000 + 3 * 128 + 4 ∧
      (running.viewByte v 0x3000383F).2 = 0x10003000 + 62 * 128 + 123 ∧ (running.viewByte v 0x30003840).2 = 0x30003840 ∧
      running.decodeAddress 0x10009000 = .pool (small.pool 0x10000000) ∧
      ((setRecord 3 { FrameRecord.empty with state := .pinned } running).record ((0x10009000 - 0x10000000) / 12288)).state
        = .pinned := by decide

/-- LensRestartRehomesFaultedMotors: both motors and the Steadying unit FAULTED in RUNNING. -/
theorem test_witness_lens_restart :
    let m := { Motor.unhomed with state := .faulted }
    let s := setMotor .focus m (setMotor .zoom m { running with steady := { running.steady with state := .faulted } })
    let p := order .lensRestart [] 0
    AtHead (ordered s p) .lensRestart p [] ∧ (after .lensRestart (ordered s p)).lens.zoom.state = .homing ∧
      (after .lensRestart (ordered s p)).lens.focus.state = .unhomed ∧
      (after .lensRestart (ordered s p)).steady.state = .off := ⟨atHead [] 0 rfl rfl, by decide⟩

/-! ### Witnesses of the invariants: the part in RUNNING, where every step goes on -/

theorem test_witness_motors : MotorsInRange running := by
  intro id; cases id <;> decide

theorem test_witness_banks : BanksTakeTurns running := by unfold BanksTakeTurns Bank.busy; decide

theorem test_witness_sizes : SizesHold running := by
  constructor <;> decide

/-- Every record of the part in RUNNING is empty. -/
theorem record_running (b : Nat) : running.record b = FrameRecord.empty :=
  (List.getD_eq_getElem?_getD ..).trans (List.getElem?_getD_replicate_default_eq ..)

theorem test_witness_owners : OwnersWait running where
  one o := by cases o <;> decide
  writer _ h := nomatch h
  turns := test_witness_banks
  single b c h := by simp [record_running, FrameRecord.empty] at h
  filling _ b id h := by simp [record_running, FrameRecord.empty] at h

theorem test_witness_offsets : OffsetsInMargins running := by
  rintro g h
  obtain rfl : small = g := Option.some.inj h
  decide

theorem test_witness_exposure : ExposureInRange running.exposure := by
  constructor <;> decide

theorem test_witness_steady : SteadyInRange running.steady := by constructor <;> decide

theorem test_witness_pool : PoolHolds running := by
  refine ⟨fun g h => ?_, fun _ => ⟨small, rfl, ?_⟩⟩
  · obtain rfl : small = g := Option.some.inj h
    exact ⟨small.raw 0x20000000, rfl, by decide⟩
  · constructor <;> decide

theorem test_witness_step_goes_on : ∃ t, step { running with pending := [.focusCancel] } = .next t := ⟨_, rfl⟩

end Sys2Proof.Tests
end

section
/-! PROOFS. The VIEW window's dropped writes (O6): how a counter counts up, what the completion of the head host
transaction changes, and what the arrival of a VIEW write changes. -/

namespace Sys2Proof.Machine

/-- A 16-bit counter counts up and stays at its top (R195). -/
theorem countUp_eq (n : Nat) : countUp n = min 65535 (n + 1) := rfl

/-- With nothing malformed in the queue, no host transaction is flushed (R1). -/
theorem flushMalformed_of_wellFormed {s : State} (h : ∀ x ∈ s.port.inbound, isMalformed x = false) :
    flushMalformed s = s := by
  simp [flushMalformed, splitMalformed_of_wellFormed h]

/-- The completion of the head host transaction frees its place and ends any VIEW read; behind it nothing malformed
stands, so nothing else is completed (R1, R2). -/
theorem completeHead_of_wellFormed {s : State} {t : HostTransaction} {rest : List HostTransaction} (st : Status)
    (data : List Byte) (hq : s.port.inbound = t :: rest) (hr : ∀ x ∈ rest, isMalformed x = false) :
    completeHead st data s =
      { s with
        hostOut := s.hostOut ++ [{ tag := t.tag, status := st, data := data }]
        port := { s.port with inbound := rest, view := none } } := by
  rw [completeHead, hq]
  exact flushMalformed_of_wellFormed hr

/-- A dropped head transaction is completed OK without a memory transaction, and the turn is not used (R15, R16). -/
theorem carryOut_drop {s : State} {t : HostTransaction} {rest : List HostTransaction}
    (hq : s.port.inbound = t :: rest) (hv : s.port.view = none) (hr : ∀ x ∈ rest, isMalformed x = false) :
    carryOut t .drop s =
      ({ s with
          hostOut := s.hostOut ++ [{ tag := t.tag, status := .ok, data := [] }]
          port := { s.port with inbound := rest } }, true) := by
  simp only [carryOut, completeHead_of_wellFormed .ok [] hq hr, hv]

/-- The arrival of a VIEW write fixes its drop, latches VIEW_WRITE and counts it (R12). -/
theorem arrive_view_write {s : State} {v : ViewWindow} {t : HostTransaction}
    (ha : s.decodeAddress t.addr.toNat = .view v) (hd : t.dir = .write) :
    arrive t s =
      ({ s with
          status :=
            { s.status with
              latched := s.status.latched ||| LatchedBit.viewWrite.mask
              counters :=
                { s.status.counters with viewWrite := min 65535 (s.status.counters.viewWrite + 1) } } }, .drop) := by
  simp only [arrive, ha, arriveView, hd, setCounters, latch, countUp_eq]

/-- Settles O6: the arrival changes the status block alone, so the drop finds the queue as the write left it. -/
theorem viewWriteIsDropped : Obligations.ViewWriteIsDropped := by
  intro s v t rest ha hd hq hv hr
  exact ⟨_, arrive_view_write ha hd, carryOut_drop hq hv hr⟩

end Sys2Proof.Machine
end

section
/-! PROOFS. The late writes of the RAW window (O7): what a late write changes, when an offered RAW write is one, and how
the arrival of a RAW write takes up the verdict of the Frames block. -/

namespace Sys2Proof.Machine

/-- A late write latches LATE_WRITE and counts it, and its verdict is drop (R13, R33). -/
theorem lateWrite_eq (s : State) :
    lateWrite s =
      ({ s with
          status :=
            { s.status with
              latched := s.status.latched ||| LatchedBit.lateWrite.mask
              counters :=
                { s.status.counters with lateWrite := min 65535 (s.status.counters.lateWrite + 1) } } }, false) := rfl

/-- Past the header the record's state decides, and a frame that is over takes no more bytes (R24, R33). -/
theorem offerRawWrite_of_completeOrPinned {s : State} {k o : Nat} (g : Geometry) (t : HostTransaction) (ho : 32 ≤ o)
    (hf : (s.record (s.phys k)).state = .complete ∨ (s.record (s.phys k)).state = .pinned) :
    offerRawWrite g k o t s = lateWrite s := by
  rw [offerRawWrite, if_neg (Nat.not_lt.2 ho)]
  rcases hf with hc | hp
  · rw [hc]
  · rw [hp]

/-- A RAW write arrives by the verdict of the Frames block on its logical buffer and offset (R8). -/
theorem arrive_raw_write {s u : State} {w : RawWindow} {g : Geometry} {t : HostTransaction} {forward : Bool}
    (ha : s.decodeAddress t.addr.toNat = .raw w) (hg : s.frames.geometry = some g) (hd : t.dir = .write)
    (ho : offerRawWrite g ((t.addr.toNat - w.base) / w.bufsz) ((t.addr.toNat - w.base) % w.bufsz) t s = (u, forward)) :
    arrive t s =
      (u, verdict (u.poolAddress ((t.addr.toNat - w.base) / w.bufsz) ((t.addr.toNat - w.base) % w.bufsz)) forward) := by
  simp only [arrive, ha, arriveRaw, hd, hg, ho]

/-- Settles O7: the Frames block finds the write late and changes the status block alone, so the drop finds the queue as
the write left it. -/
theorem lateWriteIsDropped : Obligations.LateWriteIsDropped := by
  intro s w g t rest ha hg hd ho hf hq hv hr
  have late := (offerRawWrite_of_completeOrPinned g t ho hf).trans (lateWrite_eq s)
  exact ⟨_, arrive_raw_write ha hg hd late, carryOut_drop hq hv hr⟩

end Sys2Proof.Machine
end

section
/-! PROOFS. Which parts of the state each operation can change: one frame lemma an operation, composed along the
definitions. -/

namespace Sys2Proof.Machine
-- The theorems one after another: side by side, their threads pass the limit of memory.
set_option Elab.async false

/-- The parts of the state, one for each field, and the four marks of the owners' own transactions (R3), each beside the
block that holds it. -/
inductive Part where
  | pending
  | hostOut
  | freeCount
  | resetN
  | partTime
  | partState
  | attn
  | windows
  | port
  | frames
  | stats
  | exposure
  | focus
  | lens
  | link
  | steady
  | store
  | orders
  | status
  | writer
  | request
  | carried
  | writing
  deriving DecidableEq

/-- Two states agree in a part; for a block that holds an owner's mark, a change of the block alone leaves the mark. -/
def SamePart (s t : State) : Part → Prop
  | .pending => t.pending = s.pending
  | .hostOut => t.hostOut = s.hostOut
  | .freeCount => t.freeCount = s.freeCount
  | .resetN => t.resetN = s.resetN
  | .partTime => t.partTime = s.partTime
  | .partState => t.partState = s.partState
  | .attn => t.attn = s.attn
  | .windows => t.windows = s.windows
  | .port => t.port = s.port
  | .frames => t.frames = s.frames
  | .stats => t.stats = s.stats
  | .exposure => t.exposure = s.exposure
  | .focus => t.focus = s.focus
  | .lens => t.lens = s.lens
  | .link => t.link = s.link
  | .steady => t.steady = s.steady
  | .store => t.store = s.store
  | .orders => t.orders = s.orders
  | .status => t.status = s.status
  | .writer => t.stats.writer = s.stats.writer
  | .request => t.store.request = s.store.request
  | .carried => t.orders.carried = s.orders.carried
  | .writing => t.status.writing = s.status.writing

/-- `t` is `s` but for these parts. -/
def Changes (ps : List Part) (s t : State) : Prop := ∀ p, p ∉ ps → SamePart s t p

theorem SamePart.rfl' (s : State) (p : Part) : SamePart s s p := by cases p <;> rfl

theorem SamePart.trans {s t u : State} {p : Part} (h : SamePart s t p) (k : SamePart t u p) : SamePart s u p := by
  cases p <;> exact Eq.trans k h

namespace Changes

variable {ps qs : List Part} {s t u : State}

theorem refl (s : State) : Changes ps s s := fun p _ => SamePart.rfl' s p

theorem mono (h : Changes ps s t) (k : ps ⊆ qs) : Changes qs s t := fun p hp => h p fun hm => hp (k hm)

/-- One operation after another changes at most what either may. -/
theorem trans (h : Changes ps s t) (k : Changes qs t u) : Changes (ps ++ qs) s u := fun p hp => by
  rw [List.mem_append, not_or] at hp
  exact (h p hp.1).trans (k p hp.2)

/-- One operation after another, within the same parts. -/
theorem andThen (h : Changes ps s t) (k : Changes ps t u) : Changes ps s u := fun p hp => (h p hp).trans (k p hp)

/-! What is not among the changed parts is as before. -/

theorem pending_eq (h : Changes ps s t) (hp : Part.pending ∉ ps := by decide) : t.pending = s.pending := h .pending hp

theorem hostOut_eq (h : Changes ps s t) (hp : Part.hostOut ∉ ps := by decide) : t.hostOut = s.hostOut := h .hostOut hp

theorem freeCount_eq (h : Changes ps s t) (hp : Part.freeCount ∉ ps := by decide) : t.freeCount = s.freeCount := h .freeCount hp

theorem resetN_eq (h : Changes ps s t) (hp : Part.resetN ∉ ps := by decide) : t.resetN = s.resetN := h .resetN hp

theorem partTime_eq (h : Changes ps s t) (hp : Part.partTime ∉ ps := by decide) : t.partTime = s.partTime := h .partTime hp

theorem partState_eq (h : Changes ps s t) (hp : Part.partState ∉ ps := by decide) : t.partState = s.partState := h .partState hp

theorem attn_eq (h : Changes ps s t) (hp : Part.attn ∉ ps := by decide) : t.attn = s.attn := h .attn hp

theorem windows_eq (h : Changes ps s t) (hp : Part.windows ∉ ps := by decide) : t.windows = s.windows := h .windows hp

theorem port_eq (h : Changes ps s t) (hp : Part.port ∉ ps := by decide) : t.port = s.port := h .port hp

theorem frames_eq (h : Changes ps s t) (hp : Part.frames ∉ ps := by decide) : t.frames = s.frames := h .frames hp

theorem stats_eq (h : Changes ps s t) (hp : Part.stats ∉ ps := by decide) : t.stats = s.stats := h .stats hp

theorem exposure_eq (h : Changes ps s t) (hp : Part.exposure ∉ ps := by decide) : t.exposure = s.exposure := h .exposure hp

theorem focus_eq (h : Changes ps s t) (hp : Part.focus ∉ ps := by decide) : t.focus = s.focus := h .focus hp

theorem lens_eq (h : Changes ps s t) (hp : Part.lens ∉ ps := by decide) : t.lens = s.lens := h .lens hp

theorem link_eq (h : Changes ps s t) (hp : Part.link ∉ ps := by decide) : t.link = s.link := h .link hp

theorem steady_eq (h : Changes ps s t) (hp : Part.steady ∉ ps := by decide) : t.steady = s.steady := h .steady hp

theorem store_eq (h : Changes ps s t) (hp : Part.store ∉ ps := by decide) : t.store = s.store := h .store hp

theorem orders_eq (h : Changes ps s t) (hp : Part.orders ∉ ps := by decide) : t.orders = s.orders := h .orders hp

theorem status_eq (h : Changes ps s t) (hp : Part.status ∉ ps := by decide) : t.status = s.status := h .status hp

theorem writer_eq (h : Changes ps s t) (hp : Part.writer ∉ ps := by decide) : t.stats.writer = s.stats.writer :=
  h .writer hp

theorem request_eq (h : Changes ps s t) (hp : Part.request ∉ ps := by decide) : t.store.request = s.store.request :=
  h .request hp

theorem carried_eq (h : Changes ps s t) (hp : Part.carried ∉ ps := by decide) : t.orders.carried = s.orders.carried :=
  h .carried hp

theorem writing_eq (h : Changes ps s t) (hp : Part.writing ∉ ps := by decide) : t.status.writing = s.status.writing :=
  h .writing hp

theorem ite {c : Prop} [Decidable c] (h : Changes ps s t) (k : Changes ps s u) : Changes ps s (if c then t else u) := by
  split <;> assumption

/-- A fold of operations that each change at most these parts. -/
theorem foldl {α : Type} {f : State → α → State} (h : ∀ s a, Changes ps s (f s a)) (l : List α) (s : State) :
    Changes ps s (l.foldl f s) := by
  induction l generalizing s with
  | nil => exact refl s
  | cons a l ih => exact (h s a).andThen (ih _)

end Changes

/-! ### Updates of one part -/

variable (s : State)

theorem changes_status (u : StatusUnit) (h : u.writing = s.status.writing := by rfl) : Changes [.status] s { s with status := u } :=
  fun p hp => by
  cases p with
  | status => simp at hp
  | writing => exact h
  | _ => rfl

theorem changes_status_writing (u : StatusUnit) : Changes [.status, .writing] s { s with status := u } := fun p hp => by
  cases p with
  | status | writing => simp at hp
  | _ => rfl

theorem changes_orders (u : Orders) (h : u.carried = s.orders.carried := by rfl) : Changes [.orders] s { s with orders := u } :=
  fun p hp => by
  cases p with
  | orders => simp at hp
  | carried => exact h
  | _ => rfl

theorem changes_orders_carried (u : Orders) : Changes [.orders, .carried] s { s with orders := u } := fun p hp => by
  cases p with
  | orders | carried => simp at hp
  | _ => rfl

theorem changes_store (u : Store) (h : u.request = s.store.request := by rfl) : Changes [.store] s { s with store := u } :=
  fun p hp => by
  cases p with
  | store => simp at hp
  | request => exact h
  | _ => rfl

theorem changes_store_request (u : Store) : Changes [.store, .request] s { s with store := u } := fun p hp => by
  cases p with
  | store | request => simp at hp
  | _ => rfl

theorem changes_port (u : Port) : Changes [.port] s { s with port := u } := fun p hp => by
  cases p with
  | port => simp at hp
  | _ => rfl

theorem changes_frames (u : Frames) : Changes [.frames] s { s with frames := u } := fun p hp => by
  cases p with
  | frames => simp at hp
  | _ => rfl

theorem changes_stats (u : Stats) (h : u.writer = s.stats.writer := by rfl) : Changes [.stats] s { s with stats := u } :=
  fun p hp => by
  cases p with
  | stats => simp at hp
  | writer => exact h
  | _ => rfl

theorem changes_stats_writer (u : Stats) : Changes [.stats, .writer] s { s with stats := u } := fun p hp => by
  cases p with
  | stats | writer => simp at hp
  | _ => rfl

theorem changes_exposure (u : Exposure) : Changes [.exposure] s { s with exposure := u } := fun p hp => by
  cases p with
  | exposure => simp at hp
  | _ => rfl

theorem changes_focus (u : Focus) : Changes [.focus] s { s with focus := u } := fun p hp => by
  cases p with
  | focus => simp at hp
  | _ => rfl

theorem changes_lens (u : Lens) : Changes [.lens] s { s with lens := u } := fun p hp => by
  cases p with
  | lens => simp at hp
  | _ => rfl

theorem changes_link (u : Link) : Changes [.link] s { s with link := u } := fun p hp => by
  cases p with
  | link => simp at hp
  | _ => rfl

theorem changes_steady (u : Steady) : Changes [.steady] s { s with steady := u } := fun p hp => by
  cases p with
  | steady => simp at hp
  | _ => rfl

theorem changes_windows (u : Windows) : Changes [.windows] s { s with windows := u } := fun p hp => by
  cases p with
  | windows => simp at hp
  | _ => rfl

theorem changes_partState (u : PartState) : Changes [.partState] s { s with partState := u } := fun p hp => by
  cases p with
  | partState => simp at hp
  | _ => rfl

theorem changes_hostOut (u : List HostCompletion) : Changes [.hostOut] s { s with hostOut := u } := fun p hp => by
  cases p with
  | hostOut => simp at hp
  | _ => rfl

theorem changes_freeCount (u : Nat) : Changes [.freeCount] s { s with freeCount := u } := fun p hp => by
  cases p with
  | freeCount => simp at hp
  | _ => rfl

theorem changes_pending (u : List Instr) : Changes [.pending] s { s with pending := u } := fun p hp => by
  cases p with
  | pending => simp at hp
  | _ => rfl

theorem changes_partTime (u : Time) : Changes [.partTime] s { s with partTime := u } := fun p hp => by
  cases p with
  | partTime => simp at hp
  | _ => rfl

theorem latch_changes (b : LatchedBit) : Changes [.status] s (latch b s) := changes_status s _

theorem setCounters_changes (f : Counters → Counters) : Changes [.status] s (setCounters f s) := changes_status s _

/-! ### Operations of the lens -/

/-- The parts the motor and focus operations change. -/
def lensParts : List Part := [.lens, .focus, .status]

theorem LensOnly.changes {s t : State} (h : LensOnly s t) : Changes lensParts s t := fun p hp => by
  rw [h]
  cases p with
  | lens | focus | status => simp [lensParts] at hp
  | _ => rfl

theorem DriveOnly.changes {s t : State} (h : DriveOnly s t) : Changes (.partState :: lensParts) s t := fun p hp => by
  rw [h]
  cases p with
  | partState | lens | focus | status => simp [lensParts] at hp
  | _ => rfl

theorem nextTurn_changes : Changes [.link, .freeCount] s (nextTurn s) := by
  obtain ⟨l, n, h⟩ := nextTurn_only s
  rw [h]
  exact (changes_link s l).trans (changes_freeCount _ n)

theorem enterConfig_changes : Changes [.partState, .link, .frames] s (enterConfig s) :=
  ((changes_partState s .config).trans (changes_link _ s.link.quieted)).trans (changes_frames _ s.frames.rebuilt)

theorem checkParked_changes : Changes [.partState, .link, .frames] s (checkParked s) :=
  .ite (enterConfig_changes s) (.refl s)

theorem setFails_changes (t : Target) (n : Nat) : Changes [.link] s (setFails t n s) := by
  cases t <;> exact changes_link s _

theorem sendRequest_changes (t : Target) (r : Request) (turn : Turn) :
    Changes [.freeCount, .link] s (sendRequest t r turn s) :=
  (changes_freeCount s _).trans (changes_link _ _)

theorem beginRound_changes : Changes [.link, .freeCount] s (beginRound s) :=
  ((changes_link s _).trans (sendRequest_changes _ _ _ _)).mono (by decide)

/-! ### The Steadying unit's samples -/

theorem faultedSample_changes (time : Time) : Changes [.steady] s (faultedSample time s) := changes_steady s _

theorem acceptedSample_changes (time : Time) (x y : Int) : Changes [.steady] s (acceptedSample time x y s) :=
  changes_steady s _

theorem missingSample_changes (time : Time) : Changes [.steady, .status] s (missingSample time s) :=
  ((changes_steady s _).trans (changes_status _ _)).trans (changes_status _ _) |>.mono (by decide)

theorem sensingFaulted_changes : Changes [.steady, .status] s (sensingFaulted s) :=
  .ite (.refl s) ((changes_steady s _).trans (changes_status _ _))

theorem sensingCleared_changes : Changes [.steady] s (sensingCleared s) := .ite (changes_steady s _) (.refl s)

theorem clearLinkFailures_changes : Changes [.link, .steady] s (clearLinkFailures s) :=
  (changes_link s _).trans (sensingCleared_changes _)

/-! ### Ends of an exchange -/

/-- The parts the end of an exchange changes. -/
def replyParts : List Part := [.link, .lens, .focus, .partState, .status, .steady, .frames, .freeCount]

theorem sensingMissing_changes : Changes [.link, .steady, .status] s (sensingMissing s) := by
  unfold sensingMissing
  refine .ite ((faultedSample_changes s _).mono (by decide)) (.ite ?_ ?_)
  · exact ((setFails_changes s _ _).trans (((changes_link _ _).trans (sensingFaulted_changes _)).trans
      (faultedSample_changes _ _))).mono (by decide)
  · exact ((setFails_changes s _ _).trans (missingSample_changes _ _)).mono (by decide)

theorem motorExchangeMissing_changes (t : Target) (id : MotorId) (r : Request) :
    Changes (.link :: .partState :: lensParts) s (motorExchangeMissing t id r s) := by
  have missed : Changes (.link :: .partState :: lensParts) s
      (motorMissing id r (setFails t (s.link.fails t + 1) s)) :=
    ((setFails_changes s _ _).trans (motorMissing_only _ _ _).changes).mono (by decide)
  unfold motorExchangeMissing
  exact .ite (missed.andThen ((faultMotor_only _ _ _ _).changes.mono (by decide))) missed

theorem deliverMissing_changes (x : Exchange) : Changes replyParts s (deliverMissing x s) := by
  unfold deliverMissing
  split
  · exact (sensingMissing_changes s).mono (by decide)
  · exact (motorExchangeMissing_changes s _ _ _).mono (by decide)

theorem closeExchange_changes : Changes [.link] s (closeExchange s) := changes_link s _

theorem endMissing_changes (x : Exchange) : Changes replyParts s (endMissing x s) :=
  ((((closeExchange_changes s).trans (changes_status _ _)).trans (deliverMissing_changes _ x)).trans
    (checkParked_changes _)).mono (by decide)

theorem deliverSensed_changes (pl : List Byte) : Changes replyParts s (deliverSensed pl s) := by
  unfold deliverSensed
  exact .ite ((faultedSample_changes s _).mono (by decide))
    ((((setFails_changes s _ _).trans (supplyReading_only _ _ _ _).changes).trans
      (acceptedSample_changes _ _ _ _)).mono (by decide))

theorem deliverAccepted_changes (x : Exchange) (pl : List Byte) : Changes replyParts s (deliverAccepted x pl s) := by
  unfold deliverAccepted
  split
  · exact deliverSensed_changes s pl
  · dsimp only
    split
    · exact ((setFails_changes s _ _).trans (homedReply_only _ _).changes).mono (by decide)
    · exact ((setFails_changes s _ _).trans (movedReply_only _ _ _ _ _).changes).mono (by decide)

theorem endAccepted_changes (x : Exchange) (pl : List Byte) : Changes replyParts s (endAccepted x pl s) :=
  (((closeExchange_changes s).trans (deliverAccepted_changes _ x pl)).trans (checkParked_changes _)).mono (by decide)

theorem countCorrected_changes (h : ReplyHeader) : Changes [.status] s (countCorrected h s) :=
  .ite (changes_status s _) (.refl s)

theorem countHeader_changes (x : Exchange) (h : ReplyHeader) : Changes [.status] s (countHeader x h s) :=
  .ite (.refl s) (countCorrected_changes s h)

theorem headerComesIn_changes (x : Exchange) (h : ReplyHeader) : Changes [.link, .status] s (headerComesIn x h s) :=
  (changes_link s _).trans (countCorrected_changes _ h)

theorem replyDiscarded_changes (line : List Byte) : Changes replyParts s (replyDiscarded line s) := by
  unfold replyDiscarded
  split
  · exact .ite (((((countHeader_changes s _ _).trans (changes_status _ _)).trans (endMissing_changes _ _)).trans
      (nextTurn_changes _)).mono (by decide)) (.refl s)
  · exact .refl s

theorem replyAccepted_changes (sort : Request → Bool) (line : List Byte) :
    Changes replyParts s (replyAccepted sort line s) := by
  unfold replyAccepted
  split
  · split
    · exact .ite ((((countHeader_changes s _ _).trans (endAccepted_changes _ _ _)).trans
        (nextTurn_changes _)).mono (by decide)) (.refl s)
    · exact .refl s
  · exact .refl s

theorem roundExpired_changes : Changes replyParts s (roundExpired s) := by
  have ended : Changes replyParts s (match s.link.exchange with | some x => endMissing x s | none => s) := by
    split
    · exact endMissing_changes s _
    · exact .refl s
  unfold roundExpired
  exact .ite (.ite ended (ended.andThen ((beginRound_changes _).mono (by decide)))) (.refl s)

theorem requestSent_changes : Changes [.link] s (requestSent s) := by
  unfold requestSent
  split
  · exact .ite (changes_link s _) (.refl s)
  · exact .refl s

theorem pollExpired_changes (h : ReplyHeader) : Changes [.link] s (pollExpired h s) := by
  unfold pollExpired
  split
  · exact .ite (.ite (changes_link s _) (changes_link s _)) (.refl s)
  · exact .refl s

theorem settleExpired_changes (id : MotorId) : Changes replyParts s (settleExpired id s) := by
  have idle := (becomeIdle_only s id).changes
  unfold settleExpired
  exact .ite ((Changes.trans (Changes.ite (idle.andThen (focusArrived_only _).changes) idle)
    (checkParked_changes _)).mono (by decide)) (.refl s)

/-! ### Banks -/

theorem setBank_changes (id : BankId) (b : Bank) : Changes [.stats] s (setBank id b s) := by
  cases id <;> exact changes_stats s _

theorem freeBank_changes (id : BankId) : Changes [.stats] s (freeBank id s) :=
  (setBank_changes s id _).andThen (.ite (setBank_changes _ _ _) (.refl _))

theorem dropWaitingBanks_changes : Changes [.stats] s (dropWaitingBanks s) := changes_stats s _

theorem handOver_changes (id : BankId) (copy : RecordCopy) : Changes [.stats] s (handOver id copy s) :=
  setBank_changes s id _

/-! ### The raw pool -/

theorem releaseBank_changes (id : Option BankId) : Changes [.stats] s (releaseBank id s) := by
  cases id
  · exact .refl s
  · exact freeBank_changes s _

theorem cutRecord_changes (b : Nat) : Changes [.frames, .stats, .status] s (cutRecord b s) :=
  ((((changes_frames s _).trans (releaseBank_changes _ _)).trans (changes_status _ _)).trans
    (changes_status _ _)).mono (by decide)

theorem cutFilling_changes : Changes [.frames, .stats, .status] s (cutFilling s) := by
  unfold cutFilling
  split
  · exact cutRecord_changes s _
  · exact .refl s

theorem release_changes (b : Nat) : Changes [.frames] s (release b s) := by
  rcases release_cases s b with ⟨-, h⟩ | ⟨-, h⟩ <;> rw [h]
  · exact .refl s
  · exact changes_frames s _

/-! ### The Store -/

/-- The parts a choice for a SHOOT changes. -/
def shotParts : List Part := [.store, .frames, .orders, .status]

theorem makeReply_changes (p : Posted) (a : Answer) (i d : Bool) : Changes [.orders] s (makeReply p a i d s) :=
  changes_orders s _

theorem endShoot_changes (a : Answer) : Changes [.store, .orders] s (endShoot a s) := by
  unfold endShoot
  dsimp only
  split
  · exact (changes_store s _).mono (by decide)
  · exact ((changes_store s _).trans ((changes_orders _ _).trans (changes_orders _ _))).mono (by decide)

theorem latchIf_changes (c : Bool) (b : LatchedBit) : Changes [.status] s (latchIf c b s) :=
  .ite (changes_status s _) (.refl s)

theorem reserve_changes (e j : Nat) (sh : Shot) : Changes [.store] s (reserve e j sh s) :=
  ((changes_store s _).andThen (changes_store _ _)).andThen (changes_store _ _)

theorem choose_changes (x : Inflight) (number b : Nat) : Changes shotParts s (choose x number b s) := by
  unfold choose
  dsimp only
  split
  · next t j e ht _ _ =>
    have pinned : Changes [.frames] s t := by rw [(pin_some s ht).2.2.2.2]; exact changes_frames s _
    exact ((((pinned.trans (reserve_changes t _ _ _)).trans (endShoot_changes _ _)).trans
      (latchIf_changes _ _ _)).trans (changes_status _ _)).mono (by decide)
  · exact (endShoot_changes s _).mono (by decide)

theorem testFrame_changes (number b : Nat) : Changes shotParts s (testFrame s number b) := by
  unfold testFrame
  split
  · exact .refl s
  · exact .ite (.ite (choose_changes s _ _ _) ((changes_store s _).mono (by decide))) (.refl s)

theorem decideShoot_changes (x : Inflight) : Changes shotParts s (decideShoot x s) := by
  unfold decideShoot
  split
  · exact .ite (choose_changes s _ _ _) ((endShoot_changes s _).mono (by decide))
  · exact (endShoot_changes s _).mono (by decide)

theorem decideIfOver_changes : Changes shotParts s (decideIfOver s) := by
  unfold decideIfOver
  split
  · exact .ite (decideShoot_changes s _) (.refl s)
  · exact .refl s

theorem lookBack_changes (b : Nat) : Changes shotParts s (lookBack b s) :=
  (Changes.foldl (fun u (r : Recent) => testFrame_changes u r.number r.buffer) _ s).andThen (decideIfOver_changes _)

theorem lookAhead_changes (number b : Nat) : Changes shotParts s (lookAhead number b s) := by
  unfold lookAhead
  split
  · exact .refl s
  · exact (((changes_store s _).mono (by decide)).andThen (testFrame_changes _ _ _)).andThen (decideIfOver_changes _)

theorem reportCompletion_changes (number b : Nat) : Changes shotParts s (reportCompletion number b s) :=
  ((changes_store s _).mono (by decide)).andThen (lookAhead_changes _ _ _)

theorem reportReplaced_changes (number b : Nat) : Changes [.store] s (reportReplaced number b s) := by
  unfold reportReplaced
  split
  · exact .refl s
  · exact changes_store s _

theorem shoot_changes (p : Posted) : Changes shotParts s (shoot p s) :=
  (((changes_orders s _).trans (changes_store _ _)).mono (by decide)).andThen (lookBack_changes _ _)

theorem endShot_changes (e : Nat) (sh : Shot) : Changes [.frames, .store] s (endShot e sh s) :=
  (release_changes s _).trans (changes_store _ _)

theorem cancelShot_changes (e : Nat) : Changes [.frames, .store] s (cancelShot s e) := by
  unfold cancelShot
  split
  · exact ((endShot_changes s _ _).trans (changes_store _ _)).mono (by decide)
  · exact .refl s

theorem stopStore_changes : Changes shotParts s (stopStore s) :=
  (Changes.ite ((endShoot_changes s _).mono (by decide)) (.refl s)).andThen
    (.foldl (fun u e => (cancelShot_changes u e).mono (by decide)) _ _)

theorem slotWrite_changes (j e : Nat) : Changes [.store, .status] s (slotWrite j e s).1 := by
  have drop : ∀ f, Changes [.store, .status] s (setCounters f (latch .protect s)) := fun f =>
    ((changes_status s _).trans (changes_status _ _)).mono (by decide)
  unfold slotWrite
  dsimp only
  split
  · exact drop _
  · split
    · exact (changes_store s _).mono (by decide)
    · exact .ite ((changes_store s _).mono (by decide)) (.refl s)
    · exact drop _

theorem closeSlot_changes (j : Nat) (x : Slot) (n e : Nat) (sh : Shot) :
    Changes [.frames, .store] s (closeSlot j x n e sh s) :=
  (((endShot_changes s _ _).trans (changes_store _ _)).trans (changes_store _ _)).mono (by decide)

theorem endClose_changes (j : Nat) (rest : List CloseWork) (f : Slot → Slot) :
    Changes [.store] s (endClose j rest f s) := by
  unfold endClose
  dsimp only
  split
  · exact (changes_store s _).andThen (changes_store _ _)
  · exact changes_store s _

theorem pieceDone_changes (data : List Byte) : Changes [.store, .request] s (pieceDone data s) := by
  unfold pieceDone
  split
  · exact ((changes_store_request s _).trans (changes_store _ _)).mono (by decide)
  · exact changes_store_request s _

theorem trailerDone_changes (n : Nat) : Changes [.store, .request] s (trailerDone n s) := by
  have cleared := changes_store_request s { s.store with request := none }
  unfold trailerDone
  split
  · exact .ite (cleared.andThen ((changes_store _ _).mono (by decide)))
      (cleared.andThen ((endClose_changes _ _ _ _).mono (by decide)))
  · exact cleared

theorem closeFailed_changes : Changes [.store, .request, .status] s (closeFailed s) := by
  have cleared := (changes_store_request s { s.store with request := none }).mono
    (show _ ⊆ [.store, .request, .status] by decide)
  unfold closeFailed
  split
  · exact (cleared.andThen ((endClose_changes _ _ _ _).mono (by decide))).andThen ((changes_status _ _).mono (by decide))
  · exact cleared

theorem storeFailed_changes : Changes [.store, .request, .status] s (storeFailed s) := by
  unfold storeFailed
  split
  · exact .refl s
  · exact ((changes_store s _).trans (changes_store_request _ _)).mono (by decide)
  · exact ((changes_store s _).trans (changes_store_request _ _)).mono (by decide)
  · exact closeFailed_changes s
  · exact closeFailed_changes s

theorem reportRead_changes (j o n : Nat) (data : Option (List Byte)) :
    Changes [.store, .status] s (reportRead j o n data s) := by
  obtain ⟨slots, marks, bits, h⟩ := reportRead_only s j o n data
  rw [h]
  exact (changes_store s { s.store with slots := slots, slotDirty := marks }).trans (changes_status _ _)

/-! ### Exposure and focus at an evaluation -/

theorem publishPlan_changes (x : Split) (origin : Nat) : Changes [.exposure, .status] s (publishPlan x origin s) :=
  (((changes_exposure s _).trans (latchIf_changes _ _ _)).trans (latchIf_changes _ _ _)).mono (by decide)

theorem setConverged_changes (stale inBand : Bool) : Changes [.exposure] s (setConverged stale inBand s) :=
  .ite (.refl s) (changes_exposure s _)

theorem exposureEvaluate_changes (b : Bank) (f : FrameRecord) :
    Changes [.exposure, .status] s (exposureEvaluate b f s).1 := by
  unfold exposureEvaluate
  dsimp only
  split
  · exact (changes_status s _).mono (by decide)
  · split
    · exact (setConverged_changes s _ _).mono (by decide)
    · exact ((setConverged_changes s _ _).trans (publishPlan_changes _ _ _)).mono (by decide)

theorem dropBankField_changes (b : Nat) (id : BankId) : Changes [.frames] s (dropBankField b id s) :=
  .ite (changes_frames s _) (.refl s)

theorem beginResult_changes (id : BankId) (bytes : List Byte) :
    Changes [.stats, .writer, .port] s (beginResult id bytes s) :=
  (changes_stats_writer s _).trans (changes_port _ _)

/-- The parts an evaluation-done changes. -/
def evaluationParts : List Part := [.exposure, .focus, .lens, .status, .stats, .writer, .frames, .port]

theorem evaluate_changes (id : BankId) (b : Bank) (copy : RecordCopy) :
    Changes evaluationParts s (evaluate id b copy s) :=
  (((((exposureEvaluate_changes s b copy.record).trans (focusEvaluate_only _ _ _ _ _).changes).trans
    (setBank_changes _ _ _)).trans (dropBankField_changes _ _ _)).trans (beginResult_changes _ _ _)).mono (by decide)

theorem evaluationDone_changes : Changes evaluationParts s (evaluationDone s) := by
  unfold evaluationDone
  split
  · exact .refl s
  · split
    · exact evaluate_changes s _ _ _
    · exact .refl s

/-! ### Owners -/

theorem whenTold_changes {ps : List Part} (o : Owner) {f : List Byte → State → State}
    (h : ∀ d t, Changes ps t (f d t)) : Changes (.port :: ps) s (whenTold o f s) := by
  unfold whenTold
  split
  · next d t ht =>
    obtain ⟨l, rfl⟩ := takeTold_cases s ht
    exact (changes_port s _).trans (h d _)
  · exact .refl s

theorem endResult_changes (w : ResultWriter) : Changes [.stats, .writer] s (endResult w s) :=
  (changes_stats_writer s _).andThen ((freeBank_changes _ _).mono (by decide))

theorem resultWritten_changes : Changes [.stats, .writer, .status, .port] s (resultWritten s) := by
  unfold resultWritten
  split
  · exact .refl s
  · exact .ite ((((changes_stats s _).trans (endResult_changes _ _)).trans (changes_status _ _)).mono (by decide))
      (((changes_stats_writer s _).trans (changes_port _ _)).mono (by decide))

theorem replyWritten_changes : Changes [.orders, .carried, .status] s (replyWritten s) :=
  (changes_orders_carried s _).trans (changes_status _ _)

theorem statusWritten_changes : Changes [.status, .writing, .attn] s (statusWritten s) := fun p hp => by
  cases p with
  | status | writing | attn => simp at hp
  | _ => rfl

theorem pieceRead_changes : Changes [.port, .store, .request] s (pieceRead s) := by
  unfold pieceRead
  split
  · exact whenTold_changes s _ fun d t => pieceDone_changes t d
  · exact .refl s

theorem trailerWritten_changes : Changes [.port, .store, .request] s (trailerWritten s) := by
  unfold trailerWritten
  split
  · exact whenTold_changes s _ fun _ t => trailerDone_changes t _
  · exact .refl s

theorem mirrorWritten_changes : Changes [.port, .store, .request] s (mirrorWritten s) := by
  have cleared : Changes [.port, .store, .request] s (whenTold .store (fun _ => clearStoreRequest) s) :=
    whenTold_changes s _ fun _ t => changes_store_request t _
  unfold mirrorWritten
  split
  · exact cleared
  · exact cleared
  · exact .refl s

/-- What the failure of an owner's transaction changes. -/
def Owner.parts : Owner → List Part
  | .orderUnit => [.orders, .carried]
  | .statistics => [.stats, .writer]
  | .status => [.status, .writing]
  | .store => [.store, .request, .status]

theorem ownerFailed_parts (o : Owner) : Changes o.parts s (ownerFailed o s) := by
  cases o
  · simp only [ownerFailed, replyFailed]
    split
    · exact .refl s
    · exact changes_orders_carried s _
  · simp only [ownerFailed, resultFailed]
    split
    · exact .refl s
    · exact endResult_changes s _
  · exact changes_status_writing s _
  · exact storeFailed_changes s

/-- The parts the owners change when they act on the end of their transactions. -/
def ownerParts : List Part := [.orders, .stats, .status, .store, .carried, .writer, .writing, .request]

theorem ownerFailed_changes (o : Owner) : Changes ownerParts s (ownerFailed o s) :=
  (ownerFailed_parts s o).mono (by cases o <;> decide)

end Sys2Proof.Machine
end

section
/-! PROOFS. The parts each order, each arrival and each event can change; and what keeps a property through a step:
its own events, and the requests, ends and turns around them. -/

namespace Sys2Proof.Machine
set_option Elab.async false

variable (s : State)

/-! ### Orders -/

theorem unhomeMotors_changes : Changes lensParts s (unhomeMotors s) := (unhomeMotors_only s).changes

theorem setupFrames_changes (g : Geometry) (r : RawWindow) (v : ViewWindow) (p : PoolWindow) :
    Changes [.windows, .frames, .stats, .store] s (setupFrames g r v p s) := fun q hq => by
  cases q with
  | windows | frames | stats | store => simp at hq
  | _ => rfl

theorem applySetupFrames_changes (p : Posted) :
    Changes [.windows, .frames, .stats, .store] s (applySetupFrames p s).1 := by
  unfold applySetupFrames
  dsimp only
  split
  · exact .refl s
  · split
    · exact .refl s
    · exact setupFrames_changes s _ _ _ _

theorem applySetupLens_changes (p : Posted) : Changes lensParts s (applySetupLens p s).1 :=
  ((changes_lens s _).trans (unhomeMotors_changes _)).mono (by decide)

theorem applyLoadTracking_changes (p : Posted) : Changes lensParts s (applyLoadTracking p s).1 := by
  unfold applyLoadTracking
  dsimp only
  split
  · exact .refl s
  · exact ((changes_lens s _).trans (unhomeMotors_changes _)).mono (by decide)

/-- The parts START changes. -/
def startParts : List Part :=
  [.partState, .frames, .stats, .exposure, .lens, .link, .steady, .store, .freeCount]

theorem startFrames_changes : Changes [.frames] s (startFrames s) := by
  unfold startFrames
  split
  · exact changes_frames s _
  · exact .refl s

theorem startBanks_changes : Changes [.stats] s (startBanks s) :=
  (dropWaitingBanks_changes s).andThen (changes_stats _ _)

/-- START's part of the Frames block, the banks and the Store (R41, R59, R156). -/
def startPools (s : State) : State :=
  startBanks (setStore { (startFrames s).store with recent := [] } { startFrames s with partState := .homing })

/-- START but for the Lens drive and the link. -/
def startBlocks (s : State) : State := startSteady (startExposure (startPools s))

theorem start_eq : start s = startLink (startLens (startBlocks s)) := by unfold start startBlocks startPools; rfl

theorem startPools_changes : Changes [.frames, .partState, .store, .stats] s (startPools s) :=
  (((startFrames_changes s).trans (changes_partState _ _)).trans (changes_store _ _)).trans (startBanks_changes _)

theorem startBlocks_changes : Changes [.partState, .frames, .stats, .exposure, .steady, .store] s (startBlocks s) :=
  (((startPools_changes s).trans (changes_exposure _ _)).trans (changes_steady _ _)).mono (by decide)

theorem startLink_changes : Changes [.link, .steady, .freeCount] s (startLink s) :=
  ((clearLinkFailures_changes _).trans (beginRound_changes _)).mono (by decide)

theorem start_changes : Changes startParts s (start s) := by
  rw [start_eq]
  exact (((startBlocks_changes s).trans (changes_lens _ _)).trans (startLink_changes _)).mono (by decide)

theorem applyStart_fst (p : Posted) : (applyStart p s).1 = start s := by simp only [applyStart]

theorem applyStart_changes (p : Posted) : Changes startParts s (applyStart p s).1 := start_changes s

/-- The parts STOP changes. -/
def stopParts : List Part := [.partState, .orders, .frames, .stats, .status, .store, .lens, .focus, .link]

theorem cancelHeld_changes : Changes [.orders] s (cancelHeld s) :=
  (changes_orders s _).andThen (.foldl (fun u _ => makeReply_changes u _ _ _ _) _ _)

theorem stopFocus_changes : Changes lensParts s (stopFocus s) := .ite (failSearch_only s _).changes (.refl s)

theorem stop_changes : Changes stopParts s (stop s) :=
  (((((((changes_partState s _).trans (cancelHeld_changes _)).trans (cutFilling_changes _)).trans
    (stopStore_changes _)).trans (stopFocus_changes _)).trans (parkLens_only _).changes).trans
    (checkParked_changes _)).mono (by decide)

theorem applyStop_fst (p : Posted) : (applyStop p s).1 = stop s := by simp only [applyStop]

theorem applyStop_changes (p : Posted) : Changes stopParts s (applyStop p s).1 := by
  simp only [applyStop]
  exact stop_changes s

theorem setupStore_changes (v : PictureWindow) (low : Nat) :
    Changes [.windows, .store, .status] s (setupStore v low s) := by
  have made : ∀ (w : Windows) (st : Store), st.request = s.store.request →
      Changes [.windows, .store, .status] s { s with windows := w, store := st } := fun w st h =>
    ((changes_windows s w).trans (changes_store { s with windows := w } st h)).mono (by decide)
  have latched : ∀ (u : State) (c : Bool) (b : LatchedBit),
      Changes [.windows, .store, .status] u (latchIf c b u) := fun u c b =>
    (latchIf_changes u c b).mono (by decide)
  unfold setupStore latchStoreLow
  refine Changes.andThen ?_ (latched _ _ _)
  exact made _ _ rfl

theorem applySetupStore_changes (p : Posted) : Changes [.windows, .store, .status] s (applySetupStore p s).1 := by
  unfold applySetupStore
  dsimp only
  split
  · exact .refl s
  · split
    · exact setupStore_changes s _ _
    · exact .refl s

theorem applyFocusStart_changes (p : Posted) : Changes lensParts s (applyFocusStart p s).1 := by
  unfold applyFocusStart
  dsimp only
  split
  · exact .refl s
  · split
    · exact .refl s
    · exact ((changes_focus s _).trans (giveFocus_only _ _ _).changes).mono (by decide)

theorem applyFocusCancel_changes (p : Posted) : Changes lensParts s (applyFocusCancel p s).1 :=
  ((setFocusState_only s _).trans (giveFocus_only _ _ _)).changes

theorem applyFocusSet_changes (p : Posted) : Changes lensParts s (applyFocusSet p s).1 := by
  unfold applyFocusSet
  split
  · exact .refl s
  · exact ((changes_focus s _).trans (giveFocus_only _ _ _).changes).mono (by decide)

theorem applyZoomTo_changes (p : Posted) : Changes lensParts s (applyZoomTo p s).1 := by
  unfold applyZoomTo
  dsimp only
  split
  · exact .refl s
  · exact .refl s
  · exact .refl s
  · exact (zoomTo_only s _ _).changes

theorem applyZoomStop_changes (p : Posted) : Changes lensParts s (applyZoomStop p s).1 := by
  unfold applyZoomStop
  dsimp only
  split
  · exact .refl s
  · exact .refl s
  · exact .refl s
  · exact ((setMotor_only s .zoom _).trans (giveTarget_only _ _ _ _)).changes

theorem applyLensRestart_changes (p : Posted) : Changes [.link, .steady, .lens] s (applyLensRestart p s).1 :=
  .ite (((clearLinkFailures_changes s).trans (changes_lens _ _)).mono (by decide))
    ((clearLinkFailures_changes s).mono (by decide))

theorem applyClearStatus_changes (p : Posted) : Changes [.status] s (applyClearStatus p s).1 := by
  unfold applyClearStatus
  exact changes_status s _

theorem applyAlertMask_changes (p : Posted) : Changes [.status] s (applyAlertMask p s).1 := by
  unfold applyAlertMask
  exact changes_status s _

theorem takeShoot_changes (p : Posted) : Changes shotParts s (takeShoot p s) := by
  unfold takeShoot
  split
  · exact (makeReply_changes s _ _ _ _).mono (by decide)
  · exact shoot_changes s p

theorem applyReleaseShot_changes (p : Posted) : Changes [.frames, .store] s (applyReleaseShot p s).1 := by
  unfold applyReleaseShot
  split
  · exact ((endShot_changes s _ _).trans (changes_store _ _)).mono (by decide)
  · exact .refl s

theorem applyCloseSlot_changes (p : Posted) : Changes [.frames, .store] s (applyCloseSlot p s).1 := by
  unfold applyCloseSlot
  dsimp only
  split
  · exact .refl s
  · split
    · exact .refl s
    · split
      · exact .refl s
      · split
        · exact .refl s
        · split
          · exact .refl s
          · exact closeSlot_changes s _ _ _ _ _

theorem applyFreeSlot_changes (p : Posted) : Changes [.store] s (applyFreeSlot p s).1 := by
  unfold applyFreeSlot
  dsimp only
  split
  · exact .refl s
  · split
    · exact changes_store s _
    · split
      · exact changes_store s _
      · exact .refl s
    · split
      · exact changes_store s _
      · exact .refl s
    · exact .refl s
    · exact .refl s
    · exact .refl s
    · exact .refl s

/-! ### Taking an order -/

theorem dequeued_changes (rest : List Posted) : Changes [.orders] s (s.dequeued rest) := changes_orders s _

theorem answered_changes {ps : List Part} {apply : Posted → State → State × Answer}
    (h : ∀ p t, Changes ps t (apply p t).1) (p : Posted) : Changes (.orders :: ps) s (answered apply p s) :=
  ((h p s).trans (makeReply_changes _ _ _ _ _)).mono (by simp)

theorem holdOr_changes {ps : List Part} {apply : Posted → State → State × Answer}
    (h : ∀ p t, Changes ps t (apply p t).1) (p : Posted) : Changes (.orders :: ps) s (holdOr apply p s) := by
  unfold holdOr
  split
  · split
    · exact (changes_orders s _).mono (by simp)
    · exact (makeReply_changes s _ _ _ _).mono (by simp)
  · exact ((h p s).trans (makeReply_changes _ _ _ _ _)).mono (by simp)

theorem takeHead_changes {ps : List Part} (mine : Option Order → Bool) {f : Posted → State → State}
    (h : ∀ p t, Changes (.orders :: ps) t (f p t)) : Changes (.orders :: ps) s (takeHead mine f s) := by
  rcases takeHead_cases s mine f with e | ⟨p, rest, -, e⟩ <;> rw [e]
  · exact .refl s
  · exact ((dequeued_changes s rest).mono (by simp)).andThen (h p _)

theorem takeOrder_changes {ps : List Part} (o : Order) {f : Posted → State → State}
    (h : ∀ p t, Changes (.orders :: ps) t (f p t)) : Changes (.orders :: ps) s (takeOrder o f s) :=
  takeHead_changes s _ fun p t => .ite (h p t) ((makeReply_changes t _ _ _ _).mono (by simp))

/-! ### The held orders at a frame start -/

/-- The parts the orders that can be held change. -/
def heldParts : List Part := [.orders, .exposure, .focus, .lens, .steady, .status]

theorem applyHoldable_changes (o : Order) (p : Posted) : Changes heldParts s (applyHoldable o p s).1 := by
  unfold applyHoldable
  split
  · exact (changes_exposure s _).mono (by decide)
  · exact (changes_exposure s _).mono (by decide)
  · exact (changes_exposure s _).mono (by decide)
  · exact (changes_focus s _).mono (by decide)
  · exact (changes_steady s _).mono (by decide)
  · exact (applyFocusSet_changes s p).mono (by decide)
  · exact (applyZoomTo_changes s p).mono (by decide)
  · exact .refl s

theorem applyEntry_changes (number : Nat) (h : Held) : Changes heldParts s (applyEntry number s h) := by
  unfold applyEntry
  split
  · exact (applyHoldable_changes s _ _).andThen ((makeReply_changes _ _ _ _ _).mono (by decide))
  · exact .refl s

theorem applyHeld_changes (number : Nat) : Changes heldParts s (applyHeld number s) :=
  ((changes_orders s _).mono (by decide)).andThen (.foldl (fun u h => applyEntry_changes u number h) _ _)

/-! ### Arrivals -/

theorem remap_changes {k : Nat} {t : State} (h : remap k s = some t) : Changes [.frames] s t := by
  simp only [remap] at h
  split at h
  · split at h
    · cases h; exact (changes_frames s _).andThen (changes_frames _ _)
    · cases h
  · cases h; exact .refl s

theorem openRecord_changes (g : Geometry) (b : Nat) (h : RawHeader) :
    Changes [.store, .frames] s (openRecord g b h s) := by
  have replaced : Changes [.store, .frames] s (replaceRecord b s) :=
    .ite ((reportReplaced_changes s _ _).mono (by decide)) (.refl s)
  exact replaced.andThen (((changes_frames _ _).andThen (changes_frames _ _)).mono (by decide))

theorem claimBank_changes (g : Geometry) (b : Nat) : Changes [.frames, .stats, .status] s (claimBank g b s) := by
  unfold claimBank
  dsimp only
  split
  · exact ((changes_frames s _).trans (setBank_changes _ _ _)).mono (by decide)
  · exact (((changes_frames s _).trans (changes_status _ _)).trans (changes_status _ _)).mono (by decide)

theorem applyCrop_changes (k b : Nat) (c : CropResult) : Changes [.frames, .steady, .status] s (applyCrop k b c s) :=
  ((((changes_frames s _).andThen (changes_frames _ _)).trans (changes_steady _ _)).trans
    (latchIf_changes _ _ _)).mono (by decide)

theorem handOnBank_changes (k b : Nat) : Changes (.stats :: lensParts) s (handOnBank k b s) := by
  unfold handOnBank
  dsimp only
  split
  · exact (handOver_changes s _ _).mono (by decide)
  · exact (resolveUnmetered_only s).changes.mono (by decide)

/-- The parts a completed frame changes. -/
def completionParts : List Part := [.frames, .steady, .status, .stats, .lens, .focus, .store, .orders]

theorem completeFrame_changes (g : Geometry) (k b : Nat) : Changes completionParts s (completeFrame g k b s) :=
  (((((changes_frames s _).trans (applyCrop_changes _ _ _ _)).trans (changes_frames _ _)).trans
    (handOnBank_changes _ _ _)).trans (reportCompletion_changes _ _ _)).mono (by decide)

theorem giveToBank_changes (g : Geometry) (o : Nat) (t : HostTransaction) (id : Option BankId) :
    Changes [.stats] s (giveToBank g o t id s) := by
  cases id
  · exact .refl s
  · exact setBank_changes s _ _

theorem pixelWrite_changes (g : Geometry) (k b o : Nat) (t : HostTransaction) :
    Changes completionParts s (pixelWrite g k b o t s) := by
  have given : ∀ f id, Changes completionParts s (giveToBank g o t id (setRecord b f s)) := fun f id =>
    ((changes_frames s _).trans (giveToBank_changes _ _ _ _ _)).mono (by decide)
  exact .ite ((given _ _).andThen (completeFrame_changes _ _ _ _)) (given _ _)

/-- The parts an arrival changes. -/
def arrivalParts : List Part := .exposure :: completionParts

theorem frameStart_changes (g : Geometry) (k : Nat) (t : HostTransaction) :
    Changes arrivalParts s (frameStart g k t s).1 := by
  unfold frameStart
  split
  · exact .refl s
  · next u hu =>
    exact ((((((remap_changes s hu).trans (cutFilling_changes _)).trans (openRecord_changes _ _ _ _)).trans
      (applyHeld_changes _ _)).trans (claimBank_changes _ _ _)).trans (pixelWrite_changes _ _ _ _ _ _)).mono
      (by decide)

theorem latchCount_changes (f : Counters → Counters) (b : LatchedBit) :
    Changes [.status] s (setCounters f (latch b s)) :=
  (changes_status s _).andThen (changes_status _ _)

theorem offerRawWrite_changes (g : Geometry) (k o : Nat) (t : HostTransaction) :
    Changes arrivalParts s (offerRawWrite g k o t s).1 := by
  unfold offerRawWrite
  split
  · split
    · exact frameStart_changes s _ _ _
    · exact (latchCount_changes s _ _).mono (by decide)
  · split
    · exact (pixelWrite_changes s _ _ _ _ _).mono (by decide)
    · exact (latchCount_changes s _ _).mono (by decide)
    · exact (latchCount_changes s _ _).mono (by decide)
    · exact .refl s

theorem postSlot_changes (i : Nat) : Changes [.orders, .status] s (postSlot s i) := by
  unfold postSlot
  exact .ite ((changes_orders s _).mono (by decide)) ((makeReply_changes s _ _ _ _).trans (latchCount_changes _ _ _))

theorem showOrderWrite_changes (off : Nat) (t : HostTransaction) :
    Changes [.orders, .status] s (showOrderWrite off t s) :=
  ((changes_orders s _).mono (by decide)).andThen (.foldl (fun u i => postSlot_changes u i) _ _)

theorem arrive_changes (t : HostTransaction) : Changes arrivalParts s (arrive t s).1 := by
  unfold arrive
  split
  · exact .refl s
  · exact .ite ((showOrderWrite_changes s _ _).mono (by decide)) (.refl s)
  · unfold arriveRaw
    dsimp only
    split
    · exact offerRawWrite_changes s _ _ _ _
    · exact .refl s
  · unfold arriveView
    split
    · exact .refl s
    · exact (latchCount_changes s _ _).mono (by decide)
  · unfold arrivePool
    dsimp only
    split
    · exact (latchCount_changes s _ _).mono (by decide)
    · exact .refl s
  · unfold arrivePicture
    dsimp only
    split
    · exact .refl s
    · exact (slotWrite_changes s _ _).mono (by decide)

/-! ### Completions to the host -/

theorem flushMalformed_changes : Changes [.hostOut, .port] s (flushMalformed s) := fun q hq => by
  cases q with
  | hostOut | port => simp at hq
  | _ => rfl

theorem acceptHost_changes (t : HostTransaction) : Changes [.hostOut, .port] s (acceptHost t s) :=
  .ite (((changes_port s _).mono (by decide)).andThen (flushMalformed_changes _)) (.refl s)

theorem completeHead_changes (st : Status) (data : List Byte) : Changes [.hostOut, .port] s (completeHead st data s) := by
  unfold completeHead
  split
  · exact ((changes_hostOut s _).trans (changes_port _ _)).andThen (flushMalformed_changes _)
  · exact .refl s

theorem carryOut_changes (t : HostTransaction) (h : Handling) : Changes [.hostOut, .port] s (carryOut t h s).1 := by
  unfold carryOut
  split
  · exact (changes_port s _).mono (by decide)
  · exact completeHead_changes s _ _
  · exact ((changes_port s _).andThen (changes_port _ _)).mono (by decide)
  · exact completeHead_changes s _ _

theorem reportPicture_changes (x : Flight) (picture : Option (Nat × Nat)) (st : Status) (data : List Byte) :
    Changes [.store, .status] s (reportPicture x picture st data s) := by
  unfold reportPicture
  split
  · exact reportRead_changes s _ _ _ _
  · exact .refl s

theorem endPiece_changes (st : Status) (data : List Byte) : Changes [.hostOut, .port] s (endPiece st data s) := by
  unfold endPiece
  split
  · exact .refl s
  · split
    · exact completeHead_changes s _ _
    · exact .ite (completeHead_changes s _ _) ((changes_port s _).mono (by decide))

theorem endOwn_changes (o : Owner) (st : Status) (data : List Byte) :
    Changes (.port :: ownerParts) s (endOwn o st data s) := by
  unfold endOwn
  split
  · exact (changes_port s _).mono (by decide)
  · exact (ownerFailed_changes s o).mono (by decide)

/-- The parts the end of a transaction changes. -/
def endParts : List Part := .port :: .hostOut :: ownerParts

theorem endFlight_changes (x : Flight) (st : Status) (data : List Byte) :
    Changes endParts s (endFlight x st data s) := by
  have idle : Changes endParts s (setPort { s.port with flight := none } s) := (changes_port s _).mono (by decide)
  unfold endFlight
  refine idle.andThen ?_
  dsimp only
  generalize setPort { s.port with flight := none } s = t
  cases x.kind with
  | host picture =>
    exact ((reportPicture_changes t x picture st data).mono (by decide)).andThen
      ((completeHead_changes _ _ _).mono (by decide))
  | piece => exact (endPiece_changes t st data).mono (by decide)
  | own o => exact (endOwn_changes t o st data).mono (by decide)

/-! ### Requests -/

/-- The parts the owners' requests change. -/
def requestParts : List Part := [.freeCount, .port, .status, .writing, .orders, .carried, .store, .request]

theorem requestAll_changes : Changes requestParts s (requestAll s) := by
  have status : Changes requestParts s (requestStatus s) := by
    rcases requestStatus_cases s with h | ⟨c, -, h⟩ <;> rw [h]
    · exact .refl s
    · exact ((changes_status_writing s _).trans (changes_port _ _)).mono (by decide)
  have reply : ∀ t, Changes requestParts t (requestReply t) := by
    intro t
    rcases requestReply_cases t with h | ⟨a, n, bs, ms, h⟩ <;> rw [h]
    · exact .refl t
    · exact ((changes_orders_carried t _).trans (changes_port _ _)).mono (by decide)
  have store : ∀ t, Changes requestParts t (requestStore t) := by
    intro t
    rcases requestStore_cases t with h | ⟨a, d, n, bs, ms, fc, r, sd, ld, h⟩ <;> rw [h]
    · exact .refl t
    · exact (((changes_freeCount t fc).trans (changes_store_request _ _)).trans (changes_port _ _)).mono (by decide)
  exact (status.andThen (reply _)).andThen (store _)

theorem finish_changes (t : State) : Changes requestParts t (finish s t) := by
  unfold finish
  split
  · exact requestAll_changes t
  · exact ((changes_status t _).mono (by decide)).andThen (requestAll_changes _)

/-! ### Events -/

/-- What the take of each order does, once it is allowed (R181, R182). -/
def Order.take : Order → Posted → State → State
  | .nop => answered applyNop
  | .setupFrames => answered applySetupFrames
  | .setupLens => answered applySetupLens
  | .loadTracking => answered applyLoadTracking
  | .start => answered applyStart
  | .stop => answered applyStop
  | .setupStore => answered applySetupStore
  | .loadWeights => holdOr applyLoadWeights
  | .meterMode => holdOr applyMeterMode
  | .exposureLock => holdOr applyExposureLock
  | .focusArea => holdOr applyFocusArea
  | .steadyMode => holdOr applySteadyMode
  | .supplyLimits => answered applySupplyLimits
  | .clearStatus => answered applyClearStatus
  | .alertMask => answered applyAlertMask
  | .focusStart => answered applyFocusStart
  | .focusCancel => answered applyFocusCancel
  | .focusSet => holdOr applyFocusSet
  | .zoomTo => holdOr applyZoomTo
  | .zoomStop => answered applyZoomStop
  | .shoot => takeShoot
  | .releaseShot => answered applyReleaseShot
  | .closeSlot => answered applyCloseSlot
  | .freeSlot => answered applyFreeSlot
  | .lensRestart => answered applyLensRestart
  | .clearSupply => answered applyClearSupply

/-- The row of an order is the event of its take. -/
theorem exec_orderRow {c : Instr} {o : Order} (h : orderRow c = some o) : exec c s = event (takeOrder o o.take) s := by
  cases c <;> cases h <;> rfl

/-- What each command that is one event makes of the state before the event ends; `none` for the resets and the commands
of the memory port. -/
def eventOf (c : Instr) : Option (State → State) :=
  match orderRow c with
  | some o => some (takeOrder o o.take)
  | none =>
    match c with
    | .hostTransactionAccept t => some (acceptHost t)
    | .evaluationDone => some evaluationDone
    | .resultWriteDone => some (whenTold .statistics fun _ => resultWritten)
    | .replyWriteDone => some (whenTold .orderUnit fun _ => replyWritten)
    | .statusRewriteDone => some (whenTold .status fun _ => statusWritten)
    | .readBackPieceDone => some pieceRead
    | .trailerWriteDone => some trailerWritten
    | .mirrorWriteDone => some mirrorWritten
    | .roundStart => some roundExpired
    | .lensRequestSent => some requestSent
    | .lensPoll h => some (pollExpired h)
    | .replyDiscarded line => some (replyDiscarded line)
    | .sensed line => some (replyAccepted Request.isSense line)
    | .moved line => some (replyAccepted Request.isMove line)
    | .homed line => some (replyAccepted Request.isHome line)
    | .settleTimeout id => some (settleExpired id)
    | .unknownOrder => some (takeHead Option.isNone fun p => refuse p .unknown)
    | _ => none

/-- A command that is one event runs it and ends it. -/
theorem exec_of_eventOf {c : Instr} {f : State → State} (h : eventOf c = some f) : exec c s = event f s := by
  cases c <;> cases h <;> rfl

/-- The parts the take of each order changes beside the Order unit. -/
def Order.parts : Order → List Part
  | .nop => []
  | .setupFrames => [.windows, .frames, .stats, .store]
  | .setupLens | .loadTracking | .focusStart | .focusCancel | .focusSet | .zoomTo | .zoomStop => lensParts
  | .start => startParts
  | .stop => stopParts
  | .setupStore => [.windows, .store, .status]
  | .loadWeights | .meterMode | .exposureLock => [.exposure]
  | .focusArea => [.focus]
  | .steadyMode => [.steady]
  | .supplyLimits | .clearSupply => [.lens]
  | .clearStatus | .alertMask => [.status]
  | .shoot => shotParts
  | .releaseShot | .closeSlot => [.frames, .store]
  | .freeSlot => [.store]
  | .lensRestart => [.link, .steady, .lens]

theorem Order.take_changes (o : Order) (p : Posted) : Changes (.orders :: o.parts) s (o.take p s) := by
  cases o with
  | nop => exact (makeReply_changes s _ _ _ _).mono (by simp)
  | setupFrames => exact answered_changes s (fun p t => applySetupFrames_changes t p) p
  | setupLens => exact answered_changes s (fun p t => applySetupLens_changes t p) p
  | loadTracking => exact answered_changes s (fun p t => applyLoadTracking_changes t p) p
  | start => exact answered_changes s (fun p t => applyStart_changes t p) p
  | stop => exact answered_changes s (fun p t => applyStop_changes t p) p
  | setupStore => exact answered_changes s (fun p t => applySetupStore_changes t p) p
  | loadWeights => exact holdOr_changes s (fun _ t => changes_exposure t _) p
  | meterMode => exact holdOr_changes s (fun _ t => changes_exposure t _) p
  | exposureLock => exact holdOr_changes s (fun _ t => changes_exposure t _) p
  | focusArea => exact holdOr_changes s (fun _ t => changes_focus t _) p
  | steadyMode => exact holdOr_changes s (fun _ t => changes_steady t _) p
  | supplyLimits => exact answered_changes s (fun _ t => changes_lens t _) p
  | clearStatus => exact answered_changes s (fun p t => applyClearStatus_changes t p) p
  | alertMask => exact answered_changes s (fun p t => applyAlertMask_changes t p) p
  | focusStart => exact answered_changes s (fun p t => applyFocusStart_changes t p) p
  | focusCancel => exact answered_changes s (fun p t => applyFocusCancel_changes t p) p
  | focusSet => exact holdOr_changes s (fun p t => applyFocusSet_changes t p) p
  | zoomTo => exact holdOr_changes s (fun p t => applyZoomTo_changes t p) p
  | zoomStop => exact answered_changes s (fun p t => applyZoomStop_changes t p) p
  | shoot => exact (takeShoot_changes s p).mono (by decide)
  | releaseShot => exact answered_changes s (fun p t => applyReleaseShot_changes t p) p
  | closeSlot => exact answered_changes s (fun p t => applyCloseSlot_changes t p) p
  | freeSlot => exact answered_changes s (fun p t => applyFreeSlot_changes t p) p
  | lensRestart => exact answered_changes s (fun p t => applyLensRestart_changes t p) p
  | clearSupply => exact answered_changes s (fun _ t => changes_lens t _) p

/-- The parts each event changes. -/
def eventParts (c : Instr) : List Part :=
  match orderRow c with
  | some o => .orders :: o.parts
  | none =>
    match c with
    | .hostTransactionAccept _ => [.hostOut, .port]
    | .evaluationDone => evaluationParts
    | .resultWriteDone => [.port, .stats, .writer, .status]
    | .replyWriteDone => [.port, .orders, .carried, .status]
    | .statusRewriteDone => [.port, .status, .writing, .attn]
    | .readBackPieceDone | .trailerWriteDone | .mirrorWriteDone => [.port, .store, .request]
    | .lensRequestSent | .lensPoll _ => [.link]
    | .unknownOrder => [.orders]
    | .roundStart | .replyDiscarded _ | .sensed _ | .moved _ | .homed _ | .settleTimeout _ => replyParts
    | _ => []

/-- The event of an order row changes the order's parts at most. -/
theorem eventOf_orderRow_changes {c : Instr} {o : Order} {f : State → State} (ho : orderRow c = some o)
    (h : eventOf c = some f) : Changes (eventParts c) s (f s) := by
  simp only [eventOf, ho, Option.some.injEq] at h
  simp only [eventParts, ho, ← h]
  exact takeOrder_changes s o fun p t => o.take_changes t p

/-- An event changes its parts at most. -/
theorem eventOf_changes {c : Instr} {f : State → State} (h : eventOf c = some f) : Changes (eventParts c) s (f s) := by
  cases c
  case resetNAssert => cases h
  case resetNRise => cases h
  case arbiterTurn => cases h
  case memoryCompletion => cases h
  case memoryTimeout => cases h
  case hostTransactionAccept t => cases h; exact acceptHost_changes s t
  case evaluationDone => cases h; exact evaluationDone_changes s
  case resultWriteDone => cases h; exact (whenTold_changes s _ fun _ t => resultWritten_changes t).mono (by decide)
  case replyWriteDone => cases h; exact whenTold_changes s _ fun _ t => replyWritten_changes t
  case statusRewriteDone => cases h; exact whenTold_changes s _ fun _ t => statusWritten_changes t
  case readBackPieceDone => cases h; exact pieceRead_changes s
  case trailerWriteDone => cases h; exact trailerWritten_changes s
  case mirrorWriteDone => cases h; exact mirrorWritten_changes s
  case roundStart => cases h; exact roundExpired_changes s
  case lensRequestSent => cases h; exact requestSent_changes s
  case lensPoll header => cases h; exact pollExpired_changes s header
  case replyDiscarded line => cases h; exact replyDiscarded_changes s line
  case sensed line => cases h; exact replyAccepted_changes s _ line
  case moved line => cases h; exact replyAccepted_changes s _ line
  case homed line => cases h; exact replyAccepted_changes s _ line
  case settleTimeout id => cases h; exact settleExpired_changes s id
  case unknownOrder =>
    cases h
    exact takeHead_changes s (ps := []) Option.isNone fun p t => makeReply_changes t p (plainAnswer .unknown) false false
  all_goals exact eventOf_orderRow_changes s rfl h

end Sys2Proof.Machine
end

section
/-! PROOFS. What keeps a property through every step: once for any property (`Kept`), and once for a property of the
blocks alone, which the port, the orders and the requests cannot touch (`BlocksKept`). -/

namespace Sys2Proof.Machine
set_option Elab.async false

/-! ### Any property -/

/-- What keeps a property through the turns of the arbiter: the requests, the arrivals, and the issues. -/
structure TurnKept (P : State → Prop) : Prop where
  request : ∀ s, P s → P (requestAll s)
  dirty   : ∀ s, P s → P { s with status := { s.status with dirty := true } }
  arrive  : ∀ s t, s.resetN = true → P s → P (arrive t s).1
  carry   : ∀ s t h, s.port.flight = none → P s → P (carryOut t h s).1
  own     : ∀ s x rest, s.port.flight = none → s.port.own = x :: rest → P s → P (issueOwn x rest s)
  piece   : ∀ s v p ps, s.port.flight = none → P s → P (issuePiece v p ps s)

/-- What keeps a property through every step: the turns and ends of the memory port, the events and the resets. -/
structure Kept (P : State → Prop) : Prop extends TurnKept P where
  pending : ∀ s l, P s → P { s with pending := l }
  time    : ∀ s t, P s → P { s with partTime := t }
  assert  : ∀ s, P s → P (resetAsserted s)
  rise    : ∀ s a, P s → P (resetRisen a s)
  event   : ∀ s c f, eventOf c = some f → s.resetN = true → P s → P (f s)
  header  : ∀ s x h, P s → P (headerComesIn x h s)
  ended   : ∀ s x st data, s.port.flight = some x → s.resetN = true → P s → P (endFlight x st data s)
  late    : ∀ s, P s → P (latch .memTimeout s)

/-- An own transaction that has waited 20 µs is the head of the own queue (R16). -/
theorem own_of_agedOwn {s : State} {x : OwnTransaction} {rest : List OwnTransaction}
    (h : s.agedOwn = some (x, rest)) : s.port.own = x :: rest := by
  unfold State.agedOwn at h
  split at h
  · next y ys hq =>
    split at h
    · cases h; exact hq
    · cases h
  · cases h

/-- A dropped transaction leaves the port without a transaction in flight. -/
theorem carryOut_again {s : State} {t : HostTransaction} {h : Handling} (hc : (carryOut t h s).2 = true) :
    (carryOut t h s).1.port.flight = s.port.flight := by
  have completed : (completeHead .ok [] s).port.flight = s.port.flight := by
    unfold completeHead
    split <;> rfl
  unfold carryOut at hc ⊢
  split <;> simp_all

namespace TurnKept

variable {P : State → Prop} (k : TurnKept P)
include k

theorem finish {s t : State} (h : P t) : P (finish s t) := by
  unfold Machine.finish
  split
  · exact k.request _ h
  · exact k.request _ (k.dirty _ h)

/-- The turns of the arbiter keep it, drops included (R15, R16). -/
theorem takeTurn (n : Nat) (s : State) (hr : s.resetN = true) (hf : s.port.flight = none) (h : P s) :
    P (takeTurn n s) := by
  induction n generalizing s with
  | zero => exact h
  | succ n ih =>
    unfold Machine.takeTurn
    split
    · next x rest ha => exact k.own _ _ _ hf (own_of_agedOwn ha) h
    · next v hv =>
      split
      · exact k.piece _ _ _ _ hf h
      · exact h
    · split
      · next t ts hq =>
        have arrived := k.arrive s t hr h
        have same := arrive_changes s t
        have resetN : (Machine.arrive t s).1.resetN = true := same.resetN_eq.trans hr
        have flight : (Machine.arrive t s).1.port.flight = none :=
          (congrArg Port.flight same.port_eq).trans hf
        have carried := k.carry _ t (Machine.arrive t s).2 flight arrived
        have resetN' : (carryOut t (Machine.arrive t s).2 (Machine.arrive t s).1).1.resetN = true :=
          (carryOut_changes _ t _).resetN_eq.trans resetN
        dsimp only
        split
        · next again =>
          exact ih _ (by simpa using resetN') (by simpa [carryOut_again again] using flight) (k.finish carried)
        · exact k.finish carried
      · unfold ownTurn
        split
        · next x rest hq => exact k.own _ _ _ hf hq h
        · exact h

theorem giveTurn {s : State} (hr : s.resetN = true) (h : P s) : P (giveTurn s) := by
  unfold Machine.giveTurn
  split
  · next hi =>
    have flight : s.port.flight = none := by
      simp only [Port.idle, Bool.and_eq_true, Option.isNone_iff_eq_none] at hi
      exact hi.1
    exact k.takeTurn _ _ (by simpa using hr) (by simpa using flight) (k.request s h)
  · exact h

end TurnKept

namespace Kept

variable {P : State → Prop} (k : Kept P)
include k

theorem tick {s : State} (h : P s) : P (tick s) := by
  unfold Machine.tick
  split
  · unfold takeDueHeader
    split
    · exact k.finish (k.header _ _ _ (k.time _ _ h))
    · exact k.time _ _ h
  · exact h

/-- The end of the transaction in flight, and the turn after it (R3, R17). -/
theorem endTurn {s : State} {x : Flight} (st : Status) (data : List Byte) (hr : s.resetN = true)
    (hf : s.port.flight = some x) (h : P s) (u : State) : P (Machine.giveTurn (Machine.finish u (endFlight x st data s))) :=
  k.giveTurn (by simpa using (endFlight_changes s x st data).resetN_eq.trans hr)
    (k.finish (k.ended _ _ _ _ hf hr h))

theorem exec {s t : State} {c : Instr} (h : P s) (he : exec c s = .next t) : P t := by
  cases hc : eventOf c with
  | some f =>
    rw [exec_of_eventOf s hc] at he
    rcases event_cases s he with ⟨-, rfl⟩ | ⟨hr, rfl⟩
    · exact h
    · exact k.finish (k.event _ _ _ hc hr h)
  | none =>
    cases c <;> cases hc <;> cases he
    · split
      · exact k.assert _ h
      · exact h
    · split
      · exact h
      · exact k.request _ (k.rise _ _ h)
    · split
      · next hr => exact k.giveTurn hr h
      · exact h
    · split
      · next hr =>
        unfold memoryCompletion
        split
        · next x hf =>
          split
          · exact k.endTurn _ _ hr hf h _
          · exact h
        · exact h
      · exact h
    · split
      · next hr =>
        unfold memoryTimeout
        split
        · next x hf =>
          split
          · exact k.endTurn _ _ (by simpa using hr) (by simpa using hf) (k.late _ h) _
          · exact h
        · exact h
      · exact h

/-- Every step keeps it. -/
theorem step {s t : State} (h : P s) (hs : step s = .next t) : P t := by
  unfold Machine.step at hs
  split at hs
  · exact k.exec (k.pending _ _ h) hs
  · cases hs; exact k.tick h

end Kept

/-! ### Properties of the blocks -/

/-- A property that looks at these parts alone. -/
def Depends (ps : List Part) (P : State → Prop) : Prop := ∀ s t, (∀ p ∈ ps, SamePart s t p) → P s → P t

/-- Two lists of parts share none. -/
def apart (ps qs : List Part) : Bool := ps.all fun p => !qs.contains p

theorem Depends.of_changes {ps qs : List Part} {P : State → Prop} {s t : State} (d : Depends ps P)
    (h : Changes qs s t) (ha : apart ps qs = true) (hs : P s) : P t :=
  d s t (fun p hp => h p (by simpa using List.all_eq_true.mp ha p hp)) hs

/-- The parts no port, order queue or request changes. -/
def blockParts : List Part :=
  [.resetN, .windows, .partState, .frames, .stats, .exposure, .focus, .lens, .steady]

theorem apart_of_subset {ps qs : List Part} (h : ps ⊆ blockParts) (ha : apart blockParts qs = true) :
    apart ps qs = true :=
  List.all_eq_true.mpr fun p hp => List.all_eq_true.mp ha p (h hp)

/-- What keeps a property of the blocks through every step: the events and takes that change its parts, the arrivals, and
the failures of the owners' transactions. -/
structure BlocksKept (ps : List Part) (P : State → Prop) : Prop where
  blocks  : ps ⊆ blockParts
  depends : Depends ps P
  assert  : ∀ s, P s → P (resetAsserted s)
  rise    : ∀ s a, P (resetRisen a s)
  event   : ∀ s c f, apart ps (eventParts c) = false → orderRow c = none → eventOf c = some f → P s → P (f s)
  take    : ∀ (s : State) (o : Order) (p : Posted), apart ps o.parts = false → o.allowed s.partState s.frames.geometry.isSome = true → P s →
    P (o.take p s)
  arrive  : ∀ s t, P s → P (arrive t s).1
  failed  : ∀ (s : State) (o : Owner), P s → P (ownerFailed o s)

namespace BlocksKept

variable {ps : List Part} {P : State → Prop} (k : BlocksKept ps P)
include k

/-- What changes no block keeps the property. -/
theorem off {qs : List Part} {s t : State} (h : Changes qs s t) (ha : apart blockParts qs = true) (hs : P s) : P t :=
  k.depends.of_changes h (apart_of_subset k.blocks ha) hs

theorem takeOrder {s : State} (o : Order) (hs : P s) : P (takeOrder o o.take s) := by
  rcases takeHead_cases s (· == some o) (whenAllowed o o.take) with e | ⟨p, rest, -, e⟩ <;> rw [Machine.takeOrder, e]
  · exact hs
  · have hd := k.off (dequeued_changes s rest) rfl hs
    unfold whenAllowed
    split
    · next allowed =>
      cases ha : apart ps o.parts with
      | true =>
        have noOrders : apart ps [.orders] = true := apart_of_subset k.blocks rfl
        refine k.depends.of_changes (o.take_changes _ p) ?_ hd
        refine List.all_eq_true.mpr fun q hq => ?_
        have h1 := List.all_eq_true.mp ha q hq
        have h2 := List.all_eq_true.mp noOrders q hq
        simp_all
      | false => exact k.take _ o p ha allowed hd
    · exact k.off (makeReply_changes _ _ _ _ _) rfl hd

theorem ended {s : State} (x : Flight) (st : Status) (data : List Byte) (hs : P s) : P (endFlight x st data s) := by
  unfold endFlight
  have idle := k.off (changes_port s { s.port with flight := none }) rfl hs
  dsimp only
  cases x.kind with
  | host picture =>
    exact k.off (completeHead_changes _ _ _) rfl (k.off (reportPicture_changes _ x picture st data) rfl idle)
  | piece => exact k.off (endPiece_changes _ _ _) rfl idle
  | own o =>
    simp only [endOwn]
    split
    · exact k.off (changes_port _ _) rfl idle
    · exact k.failed _ o idle

theorem kept : Kept P where
  pending s l := k.off (changes_pending s l) rfl
  time s t := k.off (changes_partTime s t) rfl
  request s := k.off (requestAll_changes s) rfl
  dirty s := k.off (changes_status s _) rfl
  assert := k.assert
  rise s a _ := k.rise s a
  event s c f hf _ hs := by
    cases ho : orderRow c with
    | some o =>
      simp only [eventOf, ho, Option.some.injEq] at hf
      rw [← hf]
      exact k.takeOrder o hs
    | none =>
      cases ha : apart ps (eventParts c) with
      | true => exact k.depends.of_changes (eventOf_changes s hf) ha hs
      | false => exact k.event s c f ha ho hf hs
  header s x h := k.off (headerComesIn_changes s x h) rfl
  arrive s t _ := k.arrive s t
  carry s t h _ := k.off (carryOut_changes s t h) rfl
  own s x rest _ _ := k.off ((changes_port s _).andThen (changes_port _ _)) rfl
  piece s v p ps _ := k.off ((changes_port s _).andThen (changes_port _ _)) rfl
  ended s x st data _ _ := k.ended x st data
  late s := k.off (changes_status s _) rfl

end BlocksKept

/-! ### Orders, failures and arrivals under a property of the blocks -/

section
variable {ps : List Part} {P : State → Prop}

/-- An order carried out at once keeps what carrying it out keeps. -/
theorem Depends.answered (d : Depends ps P) (ho : apart ps [.orders] = true) {apply : Posted → State → State × Answer}
    {p : Posted} {s : State} (h : P (apply p s).1) : P (answered apply p s) :=
  d.of_changes (makeReply_changes _ _ _ _ _) ho h

/-- An order that may be held keeps what carrying it out keeps. -/
theorem Depends.holdOr (d : Depends ps P) (ho : apart ps [.orders] = true) {apply : Posted → State → State × Answer}
    {p : Posted} {s : State} (hs : P s) (h : P (apply p s).1) : P (holdOr apply p s) := by
  unfold Machine.holdOr
  split
  · split
    · exact d.of_changes (changes_orders s _) ho hs
    · exact d.of_changes (makeReply_changes _ _ _ _ _) ho hs
  · exact d.of_changes (makeReply_changes _ _ _ _ _) ho h

/-- A row that names an owner's work keeps what the work keeps. -/
theorem Depends.whenTold (d : Depends ps P) (hp : apart ps [.port] = true) {o : Owner} {f : List Byte → State → State}
    (h : ∀ data t, P t → P (f data t)) {s : State} (hs : P s) : P (whenTold o f s) := by
  unfold Machine.whenTold
  split
  · next data t ht =>
    obtain ⟨l, rfl⟩ := takeTold_cases s ht
    exact h _ _ (d.of_changes (changes_port s _) hp hs)
  · exact hs

/-- The held orders at a frame start keep what each of them keeps. -/
theorem Depends.applyHeld (d : Depends ps P) (ho : apart ps [.orders] = true)
    (h : ∀ s o p, P s → P (applyHoldable o p s).1) (number : Nat) {s : State} (hs : P s) : P (applyHeld number s) := by
  have entry : ∀ s x, P s → P (applyEntry number s x) := by
    intro s x hs
    unfold applyEntry
    split
    · exact d.of_changes (makeReply_changes _ _ _ _ _) ho (h s _ _ hs)
    · exact hs
  have all : ∀ (l : List Held) s, P s → P (l.foldl (applyEntry number) s) := by
    intro l
    induction l with
    | nil => exact fun s hs => hs
    | cons x l ih => exact fun s hs => ih _ (entry s x hs)
  exact all _ _ (d.of_changes (changes_orders s _) ho hs)

/-- The operations of an arrival that reach a block other than the Frames block. -/
structure ArrivalKept (P : State → Prop) : Prop where
  counted  : ∀ s f b, P s → P (setCounters f (latch b s))
  held     : ∀ s n, P s → P (applyHeld n s)
  cut      : ∀ s, P s → P (cutFilling s)
  replaced : ∀ s n b, P s → P (reportReplaced n b s)
  claim    : ∀ s g b, P s → P (claimBank g b s)
  give     : ∀ s g o t id, P s → P (giveToBank g o t id s)
  crop     : ∀ s k b g f, P s → P (applyCrop k b (cropResult s g f) s)
  handOn   : ∀ s k b, P s → P (handOnBank k b s)
  reported : ∀ s n b, P s → P (reportCompletion n b s)
  shown    : ∀ s off t, P s → P (showOrderWrite off t s)
  slot     : ∀ s j e, P s → P (slotWrite j e s).1

/-- A property that does not look at the Frames block is kept by an arrival whose operations on the other blocks keep
it. -/
theorem Depends.arrival (d : Depends ps P) (hp : apart ps [.frames] = true) (a : ArrivalKept P) {s : State}
    (t : HostTransaction) (hs : P s) : P (arrive t s).1 := by
  have off : ∀ {qs : List Part} {s t : State}, Changes qs s t → qs ⊆ [.frames] → P s → P t :=
    fun h hq => d.of_changes (h.mono hq) hp
  have complete : ∀ s g k b, P s → P (completeFrame g k b s) := fun s g k b hs =>
    a.reported _ _ _ (a.handOn _ _ _ (off (changes_frames _ _) (by decide)
      (a.crop _ _ _ _ _ (off (changes_frames s _) (by decide) hs))))
  have pixels : ∀ s g k b o, P s → P (pixelWrite g k b o t s) := by
    intro s g k b o hs
    have given := fun f id => a.give _ g o t id (off (changes_frames s _) (by decide) hs : P (setRecord b f s))
    unfold pixelWrite
    dsimp only
    split
    · exact complete _ _ _ _ (given _ _)
    · exact given _ _
  have opened : ∀ s g b h, P s → P (openRecord g b h s) := by
    intro s g b h hs
    have replaced : P (replaceRecord b s) := by
      unfold replaceRecord
      split
      · exact a.replaced _ _ _ hs
      · exact hs
    exact off ((changes_frames _ _).andThen (changes_frames _ _)) (by decide) replaced
  have start : ∀ s g k, P s → P (frameStart g k t s).1 := by
    intro s g k hs
    unfold frameStart
    split
    · exact hs
    · next u hu =>
      exact pixels _ _ _ _ _ (a.claim _ _ _ (a.held _ _
        (opened _ _ _ _ (a.cut _ (off (remap_changes s hu) (by decide) hs)))))
  have late : P (lateWrite s).1 := a.counted s (fun c => { c with lateWrite := countUp c.lateWrite }) .lateWrite hs
  unfold Machine.arrive
  split
  · exact hs
  · unfold arriveControl
    dsimp only
    split
    · exact a.shown s _ _ hs
    · exact hs
  · unfold arriveRaw
    dsimp only
    split
    · unfold offerRawWrite
      split
      · split
        · exact start _ _ _ hs
        · exact a.counted s (fun c => { c with tornHeader := countUp c.tornHeader }) .tornHeader hs
      · split
        · exact pixels _ _ _ _ _ hs
        · exact late
        · exact late
        · exact hs
    · exact hs
  · unfold arriveView
    split
    · exact hs
    · exact a.counted s (fun c => { c with viewWrite := countUp c.viewWrite }) .viewWrite hs
  · unfold arrivePool
    dsimp only
    split
    · exact late
    · exact hs
  · unfold arrivePicture
    dsimp only
    split
    · exact hs
    · exact a.slot s _ _ hs

/-- A property that looks neither at the Frames block nor at the Store, the orders and the Status unit is kept by an
arrival whose held orders, bank operations and crop keep it. -/
theorem Depends.arrive (d : Depends ps P) (hp : apart ps [.frames, .store, .orders, .status] = true)
    (held : ∀ s o p, P s → P (applyHoldable o p s).1) (cut : ∀ s, P s → P (cutFilling s))
    (claim : ∀ s g b, P s → P (claimBank g b s))
    (give : ∀ s g o t id, P s → P (giveToBank g o t id s)) (crop : ∀ s k b g f, P s → P (applyCrop k b (cropResult s g f) s))
    (handOn : ∀ s k b, P s → P (handOnBank k b s)) {s : State} (t : HostTransaction) (hs : P s) : P (arrive t s).1 := by
  have off : ∀ {qs : List Part} {s t : State}, Changes qs s t → qs ⊆ [.frames, .store, .orders, .status] → P s → P t :=
    fun h hq => d.of_changes (h.mono hq) hp
  have beside : ∀ q ∈ [Part.frames, .store, .orders, .status], ∀ p ∈ ps, p ≠ q := fun q hq p hm e => by
    have := List.all_eq_true.mp hp p hm
    simp_all
  have noOrders : apart ps [.orders] = true :=
    List.all_eq_true.mpr fun p hm => by simpa using beside .orders (by decide) p hm
  have noFrames : apart ps [.frames] = true :=
    List.all_eq_true.mpr fun p hm => by simpa using beside .frames (by decide) p hm
  exact d.arrival noFrames
    { counted := fun s f b => off (latchCount_changes s f b) (by decide)
      held := fun s n hs => d.applyHeld noOrders held n hs
      cut := cut, claim := claim, give := give, crop := crop, handOn := handOn
      replaced := fun s n b => off (reportReplaced_changes s n b) (by decide)
      reported := fun s n b => off (reportCompletion_changes s n b) (by decide)
      shown := fun s o t => off (showOrderWrite_changes s o t) (by decide)
      slot := fun s j e => off (slotWrite_changes s j e) (by decide) } t hs

end

end Sys2Proof.Machine
end

section
/-! PROOFS. The banks take turns: at most one is EVALUATING or WRITING, and a WAITING bank waits for such a one (O56). -/

namespace Sys2Proof.Machine
set_option Elab.async false

/-- Two banks that take turns. -/
structure TurnsBetween (a b : Bank) : Prop where
  one    : ¬(a.busy ∧ b.busy)
  first  : a.state = .waiting → b.busy
  second : b.state = .waiting → a.busy

namespace TurnsBetween

variable {a b c d : Bank}

theorem symm (h : TurnsBetween a b) : TurnsBetween b a := ⟨fun k => h.one k.symm, h.second, h.first⟩

/-- Only the banks' states count. -/
theorem of_states (h : TurnsBetween a b) (ha : c.state = a.state) (hb : d.state = b.state) : TurnsBetween c d := by
  obtain ⟨one, first, second⟩ := h
  constructor <;> simpa only [Bank.busy, ha, hb] using by assumption

/-- A bank that is FREE or ACCUMULATING lets the other be anything but WAITING. -/
theorem of_idle (ha : a.state = .free ∨ a.state = .accumulating) (hb : b.state ≠ .waiting) : TurnsBetween a b := by
  constructor <;> rcases ha with ha | ha <;> simp [Bank.busy, ha, hb]

/-- A bank that is not busy leaves nobody waiting. -/
theorem not_waiting (h : TurnsBetween a b) (ha : ¬a.busy) : b.state ≠ .waiting := fun hb => ha (h.second hb)

/-- A busy bank may become the other kind of busy. -/
theorem of_busy (h : TurnsBetween a b) (ha : a.busy) (hc : c.busy) : TurnsBetween c b where
  one k := h.one ⟨ha, k.2⟩
  first k := by rcases hc with hc | hc <;> rw [hc] at k <;> cases k
  second _ := hc

end TurnsBetween

variable {s t : State}

theorem turns_iff (id : BankId) : BanksTakeTurns s ↔ TurnsBetween (s.bank id) (s.bank id.other) := by
  cases id
  · exact ⟨fun h => ⟨h.1, h.2.1, h.2.2⟩, fun h => ⟨h.one, h.first, h.second⟩⟩
  · exact ⟨fun h => ⟨fun k => h.1 k.symm, h.2.2, h.2.1⟩, fun h => ⟨fun k => h.one k.symm, h.second, h.first⟩⟩

theorem turns_setBank (id : BankId) (b : Bank) :
    BanksTakeTurns (setBank id b s) ↔ TurnsBetween b (s.bank id.other) := by
  rw [turns_iff id, bank_setBank, bank_setBank_other]

theorem turns_depends : Depends [.stats] BanksTakeTurns := by
  intro s t h hs
  have e : t.stats = s.stats := h .stats (by decide)
  unfold BanksTakeTurns
  rw [e]
  exact hs

/-- A state with other parts than the banks changed. -/
theorem turns_off {qs : List Part} (h : Changes qs s t) (hq : apart [.stats] qs = true) (hs : BanksTakeTurns s) :
    BanksTakeTurns t := turns_depends.of_changes h hq hs

/-- The states of the banks alone count. -/
theorem turns_of_states (h : BanksTakeTurns s) (same : ∀ id, (t.bank id).state = (s.bank id).state) :
    BanksTakeTurns t :=
  (turns_iff .bank0).mpr (((turns_iff .bank0).mp h).of_states (same _) (same _))

/-- After a bank is freed the banks take turns, whatever came before: the other waits no more. -/
theorem turns_freeBank (id : BankId) (s : State) : BanksTakeTurns (freeBank id s) := by
  obtain ⟨freed, other⟩ := freeBank_banks s id
  refine (turns_iff id).mpr (.of_idle (.inl (by rw [freed]; rfl)) ?_)
  rw [other]
  split
  · simp
  · assumption

theorem turns_handOver (id : BankId) (copy : RecordCopy) (h : BanksTakeTurns s) : BanksTakeTurns (handOver id copy s) := by
  obtain ⟨mine, other⟩ := handOver_banks s id copy
  have before := (turns_iff id).mp h
  rw [turns_iff id, mine, other]
  split
  · next busy =>
    exact { one := by simp [Bank.busy], first := fun _ => busy
            second := fun w => by rcases busy with b | b <;> rw [b] at w <;> cases w }
  · next free => exact { one := fun k => free k.2, first := by simp, second := fun _ => .inl rfl }

theorem turns_claimBank (g : Geometry) (b : Nat) (h : BanksTakeTurns s) : BanksTakeTurns (claimBank g b s) := by
  unfold claimBank
  dsimp only
  split
  · next id hid =>
    have free : (s.bank id).state = .free := by
      unfold State.freeBank? at hid
      split at hid
      · next h0 => cases hid; exact h0
      · split at hid
        · next h1 => cases hid; exact h1
        · cases hid
    have others := ((turns_iff id).mp h).not_waiting (by simp [Bank.busy, free])
    rw [turns_setBank]
    exact .of_idle (.inr rfl) others
  · exact turns_off ((changes_frames s _).trans ((changes_status _ _).trans (changes_status _ _))) rfl h

theorem turns_cutFilling (h : BanksTakeTurns s) : BanksTakeTurns (cutFilling s) := by
  unfold cutFilling
  split
  · unfold cutRecord
    refine turns_off ((changes_status _ _).trans (changes_status _ _)) rfl ?_
    unfold releaseBank
    split
    · exact turns_freeBank _ _
    · exact turns_off (changes_frames s _) rfl h
  · exact h

theorem turns_giveToBank (g : Geometry) (o : Nat) (t : HostTransaction) (id : Option BankId) (h : BanksTakeTurns s) :
    BanksTakeTurns (giveToBank g o t id s) := by
  unfold giveToBank
  split
  · next id =>
    rw [turns_setBank]
    exact ((turns_iff id).mp h).of_states (by rw [accumulate_only]) rfl
  · exact h

theorem turns_handOnBank (k b : Nat) (h : BanksTakeTurns s) : BanksTakeTurns (handOnBank k b s) := by
  unfold handOnBank
  dsimp only
  split
  · exact turns_handOver _ _ h
  · exact turns_off (resolveUnmetered_only s).changes rfl h

theorem turns_dropWaitingBanks (h : BanksTakeTurns s) : BanksTakeTurns (dropWaitingBanks s) := by
  obtain ⟨one, first, second⟩ := (turns_iff .bank0).mp h
  refine (turns_iff .bank0).mpr ?_
  show TurnsBetween (s.stats.bank0.dropWaiting) (s.stats.bank1.dropWaiting)
  change ¬(s.stats.bank0.busy ∧ s.stats.bank1.busy) at one
  unfold Bank.dropWaiting
  by_cases h0 : s.stats.bank0.state = .waiting <;> by_cases h1 : s.stats.bank1.state = .waiting
  · rw [if_pos h0, if_pos h1]; exact .of_idle (.inl rfl) (by simp [Bank.released])
  · rw [if_pos h0, if_neg h1]; exact .of_idle (.inl rfl) h1
  · rw [if_neg h0, if_pos h1]; exact (TurnsBetween.of_idle (.inl rfl) h0).symm
  · rw [if_neg h0, if_neg h1]; exact ⟨one, fun w => absurd w h0, fun w => absurd w h1⟩

theorem Bank.markStale_state (b : Bank) : b.markStale.state = b.state := by unfold Bank.markStale; split <;> rfl

theorem turns_startBanks (h : BanksTakeTurns s) : BanksTakeTurns (startBanks s) :=
  turns_of_states (turns_dropWaitingBanks h) fun id => by cases id <;> exact Bank.markStale_state _

/-- The banks after an evaluation: the evaluated one WRITING and not stale, the other as before (R55). -/
theorem evaluate_bank (id j : BankId) (b : Bank) (copy : RecordCopy) (s : State) :
    (evaluate id b copy s).bank j = (setBank id { b with state := .writing, stale := false } s).bank j := by
  have begun : ∀ bytes u, (beginResult id bytes u).bank j = u.bank j := fun bytes u => by cases j <;> rfl
  have bank_congr : ∀ {u v : State}, u.stats = v.stats → u.bank j = v.bank j := fun h => by
    cases j <;> simp only [State.bank, h]
  unfold evaluate
  dsimp only
  rw [begun]
  refine bank_congr ((dropBankField_changes _ _ _).stats_eq.trans ?_)
  have units := ((exposureEvaluate_changes s b copy.record).trans
    (focusEvaluate_only (exposureEvaluate b copy.record s).1 b.cells copy (exposureEvaluate b copy.record s).2.level
      ((exposureEvaluate b copy.record s).2.reason == .noData)).changes).stats_eq
  cases id <;> simp only [setBank, units]

theorem evaluating?_state {id : BankId} (h : s.evaluating? = some id) : (s.bank id).state = .evaluating := by
  unfold State.evaluating? at h
  split at h
  · next h0 => cases h; exact h0
  · split at h
    · next h1 => cases h; exact h1
    · cases h

theorem turns_evaluationDone (h : BanksTakeTurns s) : BanksTakeTurns (evaluationDone s) := by
  unfold evaluationDone
  split
  · exact h
  · next id hid =>
    split
    · have before := (turns_iff id).mp h
      rw [turns_iff id, evaluate_bank, evaluate_bank, bank_setBank, bank_setBank_other]
      exact before.of_busy (.inl (evaluating?_state hid)) (.inr rfl)
    · exact h

theorem turns_resultWritten (h : BanksTakeTurns s) : BanksTakeTurns (resultWritten s) := by
  unfold resultWritten
  split
  · exact h
  · split
    · exact turns_off (changes_status _ _) rfl (turns_freeBank _ _)
    · exact h

theorem turns_ownerFailed (o : Owner) (h : BanksTakeTurns s) : BanksTakeTurns (ownerFailed o s) := by
  cases o with
  | statistics =>
    show BanksTakeTurns (resultFailed s)
    unfold resultFailed
    split
    · exact h
    · exact turns_freeBank _ _
  | orderUnit => show BanksTakeTurns (replyFailed s); unfold replyFailed; split <;> exact h
  | status => exact h
  | store => exact turns_off (storeFailed_changes s) rfl h

theorem turns_setupFrames (p : Posted) (h : BanksTakeTurns s) : BanksTakeTurns (applySetupFrames p s).1 := by
  unfold applySetupFrames setupFrames
  dsimp only
  split
  · exact h
  · split
    · exact h
    · exact turns_dropWaitingBanks h

theorem turns_start (h : BanksTakeTurns s) : BanksTakeTurns (start s) := by
  rw [start_eq]
  refine turns_off ((changes_lens _ _).trans (startLink_changes _)) rfl ?_
  unfold startBlocks startPools
  refine turns_off ((changes_exposure _ _).trans (changes_steady _ _)) rfl (turns_startBanks ?_)
  exact turns_off (((startFrames_changes s).trans (changes_partState _ _)).trans (changes_store _ _)) rfl h

theorem turns_stop (h : BanksTakeTurns s) : BanksTakeTurns (stop s) := by
  have held := (changes_partState s .parking).trans (cancelHeld_changes { s with partState := .parking })
  have cut := turns_cutFilling (turns_off held rfl h)
  have after := fun u => ((stopStore_changes u).trans (stopFocus_changes _)).trans
    ((parkLens_only (stopFocus (stopStore u))).changes.trans (checkParked_changes _))
  exact turns_off (after _) rfl cut

theorem turns_kept : BlocksKept [.stats] BanksTakeTurns where
  blocks := by decide
  depends := turns_depends
  assert s _ := (turns_iff .bank0).mpr (.of_idle (.inl rfl) nofun)
  rise s a := (turns_iff .bank0).mpr (.of_idle (.inl rfl) nofun)
  event s c f hp ho hf hs := by
    cases c
    case evaluationDone => cases hf; exact turns_evaluationDone hs
    case resultWriteDone =>
      cases hf
      exact turns_depends.whenTold rfl (fun _ _ => turns_resultWritten) hs
    all_goals first | cases (show true = false from hp) | cases ho
  take s o p hp _ hs := by
    cases o
    case setupFrames => exact turns_depends.answered rfl (turns_setupFrames p hs)
    case start => exact turns_depends.answered (apply := applyStart) rfl (by rw [applyStart_fst]; exact turns_start hs)
    case stop => exact turns_depends.answered (apply := applyStop) rfl (by rw [applyStop_fst]; exact turns_stop hs)
    all_goals cases (show true = false from hp)
  arrive s t hs :=
    turns_depends.arrive rfl (fun s o p => turns_off (applyHoldable_changes s o p) rfl) (fun s => turns_cutFilling)
      (fun s g b => turns_claimBank g b) (fun s g o t id => turns_giveToBank g o t id)
      (fun s k b g f => turns_off (applyCrop_changes s k b _) rfl) (fun s k b => turns_handOnBank k b) t hs
  failed s o := turns_ownerFailed o

/-- Settles O56: a bank is claimed only when FREE, handed over to wait behind a busy one, and freed with the waiting one
woken. -/
theorem stepKeepsBanksTakingTurns : Obligations.StepKeepsBanksTakingTurns := fun _ _ => turns_kept.kept.step

end Sys2Proof.Machine
end

section
/-! PROOFS. Motor positions, targets and aims stay within the motors' ranges (O55). -/

namespace Sys2Proof.Machine
set_option Elab.async false

variable {s t : State}

/-- Position, target and aim of a record at most `top`. -/
def Motor.Within (top : Nat) (m : Motor) : Prop := m.position ≤ top ∧ m.target ≤ top ∧ m.aim ≤ top

theorem Motor.Within.zero {m : Motor} (top : Nat) (hp : m.position = 0) (ht : m.target = 0) (ha : m.aim = 0) :
    m.Within top := ⟨by omega, by omega, by omega⟩

theorem Motor.Within.stoppedHere {m : Motor} {top : Nat} (h : m.position ≤ top) : m.stoppedHere.Within top := ⟨h, h, h⟩

theorem Motor.Within.aimed {m : Motor} {top : Nat} (h : m.Within top) (id : MotorId) (b : Nat) {goal : Nat}
    (hg : goal ≤ top) : (m.aimed id b goal).Within top := by
  unfold Motor.aimed
  split
  · exact ⟨h.1, hg, Nat.le_trans (Nat.sub_le _ _) hg⟩
  · exact ⟨h.1, hg, hg⟩

theorem range_depends : Depends [.lens] MotorsInRange := by
  intro s t h hs id
  have e : t.lens = s.lens := h .lens (by decide)
  have hm := hs id
  cases id <;> simpa only [State.motor, State.topPosition, State.zmax, e] using hm

theorem range_off {qs : List Part} (h : Changes qs s t) (hq : apart [.lens] qs = true) (hs : MotorsInRange s) :
    MotorsInRange t := range_depends.of_changes h hq hs

theorem range_ite {c : Prop} [Decidable c] (h : MotorsInRange s) (k : MotorsInRange t) :
    MotorsInRange (if c then s else t) := by split <;> assumption

theorem range_setMotor (h : MotorsInRange s) {id : MotorId} {m : Motor} (hm : m.Within (s.topPosition id)) :
    MotorsInRange (setMotor id m s) := by
  intro j
  rw [setMotor_topPosition]
  by_cases hj : j = id
  · subst hj; rw [motor_setMotor]; exact hm
  · rw [motor_setMotor_of_ne s hj]; exact h j

theorem range_latchIf (c : Bool) (b : LatchedBit) (h : MotorsInRange s) : MotorsInRange (latchIf c b s) :=
  range_off (latchIf_changes s c b) rfl h

/-! ### Targets and settling -/

theorem range_becomeIdle (id : MotorId) (h : MotorsInRange s) : MotorsInRange (becomeIdle id s) :=
  range_latchIf _ _ (range_setMotor h (h id))

theorem range_enterSettling (id : MotorId) (h : MotorsInRange s) : MotorsInRange (enterSettling id s) := by
  have settling : MotorsInRange (setMotor id { s.motor id with state := .settling, settleStart := s.partTime } s) :=
    range_setMotor h (h id)
  unfold enterSettling
  dsimp only
  split
  · exact range_becomeIdle id settling
  · exact settling

theorem range_giveTarget (id : MotorId) (clears : Bool) (target : Nat) (h : MotorsInRange s) :
    MotorsInRange (giveTarget id clears target s) := by
  have goal : clampNat 0 (s.topPosition id) target ≤ s.topPosition id := by rw [clampNat_zero]; exact Nat.min_le_left _ _
  have aimed := Motor.Within.aimed (h id) id s.lens.settings.backlash goal
  have taken := range_setMotor h aimed
  have move := range_setMotor h (m := { (s.motor id).aimed id s.lens.settings.backlash
    (clampNat 0 (s.topPosition id) target) with state := .moving }) aimed
  unfold giveTarget
  dsimp only
  split
  iterate 3 exact h
  · exact dite _ (fun c => by
      rw [if_pos c]
      split
      · exact range_enterSettling id taken
      · exact move) fun c => by rw [if_neg c]; exact h
  · split
    · exact taken
    · exact move
  · split
    · exact range_enterSettling id taken
    · exact move
  · split
    · exact taken
    · exact move

theorem range_focusArrived (h : MotorsInRange s) : MotorsInRange (focusArrived s) := by
  unfold focusArrived
  dsimp only
  split
  · split <;> exact h
  · split <;> exact h
  · exact h

theorem range_giveFocus (clears : Bool) (target : Nat) (h : MotorsInRange s) :
    MotorsInRange (giveFocus clears target s) := range_focusArrived (range_giveTarget .focus clears target h)

/-! ### The search -/

theorem range_failSearchBack (why : FocusFailure) (r : SearchRecord) (h : MotorsInRange s) :
    MotorsInRange (failSearchBack why r s) := range_giveFocus _ _ h

theorem range_fineStep (r : SearchRecord) (b : TrailEntry) (h : MotorsInRange s) : MotorsInRange (fineStep r b s) :=
  range_giveFocus _ _ h

theorem range_goSample (pos : Nat) (r : SearchRecord) (h : MotorsInRange s) : MotorsInRange (goSample pos r s) :=
  range_giveFocus _ _ h

theorem range_rangeEnd (r : SearchRecord) (b : TrailEntry) (h : MotorsInRange s) : MotorsInRange (rangeEnd r b s) := by
  unfold rangeEnd
  exact range_ite (range_goSample _ _ h)
    (range_ite (range_failSearchBack _ _ (s := setSearch r s) h) (range_fineStep _ _ h))

theorem range_takeFrame (nf : Nat) (r : SearchRecord) (h : MotorsInRange s) : MotorsInRange (takeFrame nf r s) := by
  have joined : ∀ trail, MotorsInRange { s with focus := { s.focus with trail := trail } } := fun _ => h
  unfold takeFrame
  exact range_ite (range_fineStep _ _ (joined _))
    (range_ite (range_rangeEnd _ _ (joined _)) (range_goSample _ _ (joined _)))

theorem range_countFrame (c : Time) (r : SearchRecord) (h : MotorsInRange s) : MotorsInRange (countFrame c r s) := by
  unfold countFrame
  dsimp only
  split
  · split
    · exact range_failSearchBack _ _ h
    · exact h
  · exact h

theorem range_resolveUnmetered (h : MotorsInRange s) : MotorsInRange (resolveUnmetered s) := by
  unfold resolveUnmetered
  split
  · exact range_countFrame _ _ h
  · exact h

theorem range_focusEvaluate (cells : List Nat) (copy : RecordCopy) (level : Nat) (noData : Bool) (h : MotorsInRange s) :
    MotorsInRange (focusEvaluate cells copy level noData s).1 := by
  unfold focusEvaluate
  dsimp only
  split
  · split
    · exact range_takeFrame _ _ h
    · exact range_countFrame _ _ h
  · exact h

theorem range_evaluationDone (h : MotorsInRange s) : MotorsInRange (evaluationDone s) := by
  unfold evaluationDone
  split
  · exact h
  · split
    · unfold evaluate
      have focused := fun b copy cells level noData => range_focusEvaluate cells copy level noData
        (range_off (exposureEvaluate_changes s b copy.record) rfl h)
      exact range_off (((setBank_changes _ _ _).trans (dropBankField_changes _ _ _)).trans (beginResult_changes _ _ _)) rfl
        (focused _ _ _ _ _)
    · exact h

/-! ### Homing and lost motors -/

theorem range_focusMotorLost (h : MotorsInRange s) : MotorsInRange (focusMotorLost s) := by
  unfold focusMotorLost; split <;> exact h

theorem range_zoomChanged (h : MotorsInRange s) : MotorsInRange (zoomChanged s) := by
  have told : MotorsInRange (focusOnZoomChange s) := by unfold focusOnZoomChange; split <;> exact h
  exact range_giveFocus _ _ told

theorem range_zoomMoved (id : MotorId) (z : Nat) (h : MotorsInRange s) : MotorsInRange (zoomMoved id z s) := by
  unfold zoomMoved
  split
  · exact range_zoomChanged h
  · exact h

theorem range_endOfHoming (h : MotorsInRange s) : MotorsInRange (endOfHoming s) := by
  have zoom : ∀ u, MotorsInRange u → MotorsInRange (parkZoom u) := by
    intro u hu
    unfold parkZoom
    split
    · exact range_giveTarget _ _ _ (range_setMotor hu (hu .zoom))
    · exact hu
  have focus : ∀ u, MotorsInRange u → MotorsInRange (parkFocus u) := by
    intro u hu
    unfold parkFocus
    split
    · exact range_giveFocus _ _ hu
    · exact hu
  exact focus _ (zoom _ h)

theorem range_leftHoming (id : MotorId) (h : MotorsInRange s) : MotorsInRange (leftHoming id s) := by
  cases id with
  | zoom =>
    show MotorsInRange (zoomLeftHoming s)
    unfold zoomLeftHoming
    split
    · exact range_setMotor h (h .focus)
    · exact h
    · exact range_endOfHoming h
  | focus => exact range_endOfHoming h

theorem range_faultMotor (id : MotorId) {m : Motor} (why : MotorFault) (hm : m.Within (s.topPosition id))
    (h : MotorsInRange s) : MotorsInRange (faultMotor id m why s) := by
  have faulted : MotorsInRange
      (latch .lensFault (setMotor id { m with state := .faulted, fault := why, zoomToPending := false } s)) :=
    range_off (latch_changes _ _) rfl (range_setMotor h hm)
  have lost := range_focusMotorLost faulted
  unfold faultMotor
  dsimp only
  split <;> split
  · exact range_leftHoming id lost
  · exact range_leftHoming id faulted
  · exact lost
  · exact faulted

/-! ### Replies of the motors -/

theorem Motor.Within.compared {m : Motor} {top : Nat} (h : m.Within top) : m.compared.1.Within top := by
  obtain ⟨hp, ht, ha⟩ := h
  unfold Motor.compared
  split
  · split
    · split <;> exact ⟨hp, ht, by assumption⟩
    · exact ⟨hp, ht, ha⟩
  · split <;> exact ⟨hp, ht, ha⟩
  · split <;> exact ⟨hp, ht, ha⟩
  · exact .stoppedHere hp
  · exact ⟨hp, ht, ha⟩

theorem range_compareMotor (id : MotorId) (h : MotorsInRange s) : MotorsInRange (compareMotor id s) := by
  have compared := range_setMotor h (Motor.Within.compared (h id))
  unfold compareMotor
  dsimp only
  split <;> split
  · exact range_focusArrived (range_enterSettling id compared)
  · exact range_focusArrived compared
  · exact range_enterSettling id compared
  · exact compared

theorem range_movedReply (id : MotorId) (steps abs : Int) (ref : Bool) (h : MotorsInRange s) :
    MotorsInRange (movedReply id steps abs ref s) := by
  unfold movedReply
  split
  · unfold movedHoming
    dsimp only
    split
    · exact range_setMotor h (h id)
    · split
      · exact range_faultMotor id _ (h id) h
      · exact range_setMotor h (h id)
  · have clamped : (clampInt 0 (s.topPosition id) abs).toNat ≤ s.topPosition id := by
      rw [clampInt_eq (by omega)]; omega
    have moved := Motor.Within.stoppedHere (m := { s.motor id with
      lastSteps := steps, position := (clampInt 0 (s.topPosition id) abs).toNat, uncertain := false }) clamped
    unfold movedAway
    dsimp only
    split
    · exact range_zoomMoved _ _ (range_faultMotor id _ moved h)
    · exact range_compareMotor _ (range_zoomMoved _ _ (range_setMotor h ⟨clamped, (h id).2⟩))

theorem range_homedReply (id : MotorId) (h : MotorsInRange s) : MotorsInRange (homedReply id s) := by
  unfold homedReply
  dsimp only
  split
  · have homed : ∀ m : Motor, m.position = 0 → m.target = 0 → m.aim = 0 → MotorsInRange (setMotor id m s) :=
      fun m hp ht ha => range_setMotor h (.zero _ hp ht ha)
    cases id with
    | zoom => exact range_leftHoming .zoom (range_zoomChanged (homed _ rfl rfl rfl))
    | focus => exact range_leftHoming .focus (homed _ rfl rfl rfl)
  · exact h

theorem range_motorMissing (id : MotorId) (r : Request) (h : MotorsInRange s) : MotorsInRange (motorMissing id r s) := by
  unfold motorMissing
  split
  · unfold movedMissing
    dsimp only
    split <;> exact range_setMotor h (h id)
  · exact h

/-! ### The supply monitor -/

theorem range_stallMotors (h : MotorsInRange s) : MotorsInRange (stallMotors s) := by
  have stalled : ∀ {m : Motor} {top : Nat}, m.Within top → m.stalledBy.Within top := by
    intro m top hm
    unfold Motor.stalledBy
    split
    · exact .stoppedHere hm.1
    · exact hm
    · exact hm
  have both : MotorsInRange
      (setLens { s.lens with zoom := s.lens.zoom.stalledBy, focus := s.lens.focus.stalledBy } s) := fun id => by
    cases id
    · exact stalled (h .zoom)
    · exact stalled (h .focus)
  have latched := fun c => range_off (latch_changes _ .stall) rfl (range_latchIf c .lensFault both)
  unfold stallMotors stalledHoming
  dsimp only
  have lost : ∀ b u, MotorsInRange u → MotorsInRange (stalledFocus b u) := by
    intro b u hu
    unfold stalledFocus
    split
    · exact range_focusMotorLost hu
    · exact hu
  have lost := fun c => lost s.lens.focus.state _ (latched c)
  exact range_ite (range_endOfHoming (lost _)) (range_ite (range_leftHoming .zoom (lost _)) (lost _))

theorem range_supplyReading (v i period : Nat) (h : MotorsInRange s) : MotorsInRange (supplyReading v i period s) := by
  have current : ∀ u, MotorsInRange u → MotorsInRange (overCurrentRule i u) := by
    intro u hu
    unfold overCurrentRule
    dsimp only
    repeat' split
    all_goals exact hu
  have low : ∀ u, MotorsInRange u → MotorsInRange (lensLowRule v u) := by
    intro u hu
    unfold lensLowRule
    dsimp only
    repeat' split
    all_goals exact hu
  have stall : ∀ u, MotorsInRange u → MotorsInRange (stallRule i u) := by
    intro u hu
    unfold stallRule
    dsimp only
    split
    · split
      · exact range_stallMotors hu
      · exact hu
    · exact hu
  exact low _ (stall _ (current _ h))

/-! ### Exchanges -/

theorem range_setFails (t : Target) (n : Nat) (h : MotorsInRange s) : MotorsInRange (setFails t n s) :=
  range_off (setFails_changes s t n) rfl h

theorem range_motorExchangeMissing (t : Target) (id : MotorId) (r : Request) (h : MotorsInRange s) :
    MotorsInRange (motorExchangeMissing t id r s) := by
  have missed := range_motorMissing id r (range_setFails t (s.link.fails t + 1) h)
  unfold motorExchangeMissing
  exact range_ite (range_faultMotor id _ (.stoppedHere (missed id).1) missed) missed

theorem range_endMissing (x : Exchange) (h : MotorsInRange s) : MotorsInRange (endMissing x s) := by
  refine range_off (checkParked_changes _) rfl ?_
  unfold deliverMissing
  split
  · exact range_off (sensingMissing_changes _) rfl h
  · exact range_motorExchangeMissing _ _ _ h

theorem range_endAccepted (x : Exchange) (pl : List Byte) (h : MotorsInRange s) : MotorsInRange (endAccepted x pl s) := by
  have closed := range_off (closeExchange_changes s) rfl h
  refine range_off (checkParked_changes _) rfl ?_
  unfold deliverAccepted
  split
  · unfold deliverSensed
    dsimp only
    split
    · exact range_off (faultedSample_changes _ _) rfl closed
    · exact range_off (acceptedSample_changes _ _ _ _) rfl (range_supplyReading _ _ _ (range_setFails _ _ closed))
  · dsimp only
    split
    · exact range_homedReply _ (range_setFails _ _ closed)
    · exact range_movedReply _ _ _ _ (range_setFails _ _ closed)

theorem range_replyDiscarded (line : List Byte) (h : MotorsInRange s) : MotorsInRange (replyDiscarded line s) := by
  unfold replyDiscarded
  split
  · split
    · exact range_off (nextTurn_changes _) rfl (range_endMissing _
        (range_off ((countHeader_changes s _ _).trans (changes_status _ _)) rfl h))
    · exact h
  · exact h

theorem range_replyAccepted (sort : Request → Bool) (line : List Byte) (h : MotorsInRange s) :
    MotorsInRange (replyAccepted sort line s) := by
  unfold replyAccepted
  split
  · split
    · split
      · exact range_off (nextTurn_changes _) rfl (range_endAccepted _ _ (range_off (countHeader_changes s _ _) rfl h))
      · exact h
    · exact h
  · exact h

theorem range_roundExpired (h : MotorsInRange s) : MotorsInRange (roundExpired s) := by
  have ended : MotorsInRange (match s.link.exchange with | some x => endMissing x s | none => s) := by
    split
    · exact range_endMissing _ h
    · exact h
  unfold roundExpired
  exact range_ite (range_ite ended (range_off (beginRound_changes _) rfl ended)) h

theorem range_settleExpired (id : MotorId) (h : MotorsInRange s) : MotorsInRange (settleExpired id s) := by
  have idle := range_becomeIdle id h
  unfold settleExpired
  dsimp only
  split
  · refine range_off (checkParked_changes _) rfl ?_
    split
    · exact range_focusArrived idle
    · exact idle
  · exact h

/-! ### Orders -/

/-- Both motors are at 0 with any settings (R104). -/
theorem range_unhomeMotors (s : State) : MotorsInRange (unhomeMotors s) := by
  refine range_zoomMoved _ _ fun id => ?_
  cases id <;> exact Motor.Within.zero _ rfl rfl rfl

theorem range_parkLens (h : MotorsInRange s) : MotorsInRange (parkLens s) := by
  have unhomed : ∀ {m : Motor} {top : Nat}, m.Within top → m.unhomedAtStop.Within top := by
    intro m top hm; unfold Motor.unhomedAtStop; split <;> exact hm
  have both : MotorsInRange (setZoomHomed false
      (setLens { s.lens with zoom := s.lens.zoom.unhomedAtStop, focus := s.lens.focus.unhomedAtStop } s)) := fun id => by
    cases id
    · exact unhomed (h .zoom)
    · exact unhomed (h .focus)
  have zoom : ∀ u, MotorsInRange u → MotorsInRange (if u.lens.zoom.parks then
      giveTarget .zoom false 0 (setMotor .zoom { u.lens.zoom with zoomToPending := false, speed := 8 } u) else u) := by
    intro u hu
    split
    · exact range_giveTarget _ _ _ (range_setMotor hu (hu .zoom))
    · exact hu
  have focus : ∀ u, MotorsInRange u → MotorsInRange
      (if u.lens.focus.parks then giveFocus false (u.track 0 u.focus.d) u else u) := by
    intro u hu
    split
    · exact range_giveFocus _ _ hu
    · exact hu
  exact focus _ (zoom _ both)

theorem range_stop (h : MotorsInRange s) : MotorsInRange (stop s) := by
  have cut := range_off ((changes_partState s .parking).trans ((cancelHeld_changes _).trans
    ((cutFilling_changes _).trans (stopStore_changes _)))) rfl h
  have focus : ∀ u, MotorsInRange u → MotorsInRange (stopFocus u) := by
    intro u hu; unfold stopFocus; split <;> exact hu
  exact range_off (checkParked_changes _) rfl (range_parkLens (focus _ cut))

theorem range_start (h : MotorsInRange s) : MotorsInRange (start s) := by
  have lens : ∀ u, MotorsInRange u → MotorsInRange (startLens u) := fun u hu id => by
    cases id
    · exact hu .zoom
    · exact hu .focus
  rw [start_eq]
  exact range_off (startLink_changes _) rfl (lens _ (range_off (startBlocks_changes s) rfl h))

theorem range_applyFocusStart (p : Posted) (h : MotorsInRange s) : MotorsInRange (applyFocusStart p s).1 := by
  unfold applyFocusStart
  dsimp only
  split
  · exact h
  · split
    · exact h
    · exact range_giveFocus _ _ h

theorem range_applyFocusSet (p : Posted) (h : MotorsInRange s) : MotorsInRange (applyFocusSet p s).1 := by
  unfold applyFocusSet
  split
  · exact h
  · exact range_giveFocus _ _ h

theorem range_applyZoomTo (p : Posted) (h : MotorsInRange s) : MotorsInRange (applyZoomTo p s).1 := by
  unfold applyZoomTo
  dsimp only
  split
  iterate 3 exact h
  · have cancelled : MotorsInRange (cancelSearchForZoom s) := by
      unfold cancelSearchForZoom
      split
      · exact range_giveFocus _ _ h
      · exact h
    have given := range_giveTarget .zoom true (p.field 0 2) (range_setMotor (id := .zoom)
      (m := { (cancelSearchForZoom s).lens.zoom with speed := speedClass (p.field 2 1), zoomToPending := true })
      cancelled (cancelled .zoom))
    unfold zoomTo zoomDoneAtOnce
    dsimp only
    split
    · exact range_off (latch_changes _ _) rfl (range_setMotor given (given .zoom))
    · exact given

theorem range_applyZoomStop (p : Posted) (h : MotorsInRange s) : MotorsInRange (applyZoomStop p s).1 := by
  unfold applyZoomStop
  dsimp only
  split
  iterate 3 exact h
  · exact range_giveTarget _ _ _ (range_setMotor h (h .zoom))

theorem range_applyLoadTracking (p : Posted) (h : MotorsInRange s) : MotorsInRange (applyLoadTracking p s).1 := by
  unfold applyLoadTracking
  dsimp only
  split
  · exact h
  · exact range_unhomeMotors _

theorem range_applyLensRestart (p : Posted) (h : MotorsInRange s) : MotorsInRange (applyLensRestart p s).1 := by
  have cleared := range_off (clearLinkFailures_changes s) rfl h
  unfold applyLensRestart
  dsimp only
  split
  · intro id
    unfold rehomeFaulted
    cases id
    · show Motor.Within _ (ite _ _ _)
      split <;> exact cleared .zoom
    · show Motor.Within _ (ite _ _ _)
      split <;> exact cleared .focus
  · exact cleared

theorem range_applyHoldable (o : Order) (p : Posted) (h : MotorsInRange s) : MotorsInRange (applyHoldable o p s).1 := by
  cases o
  case focusSet => exact range_applyFocusSet p h
  case zoomTo => exact range_applyZoomTo p h
  all_goals exact h

theorem range_handOnBank (k b : Nat) (h : MotorsInRange s) : MotorsInRange (handOnBank k b s) := by
  unfold handOnBank
  dsimp only
  split
  · exact range_off (handOver_changes s _ _) rfl h
  · exact range_resolveUnmetered h

theorem range_kept : BlocksKept [.lens] MotorsInRange where
  blocks := by decide
  depends := range_depends
  assert s h := h
  rise s a id := by cases id <;> exact Motor.Within.zero _ rfl rfl rfl
  event s c f hp ho hf hs := by
    cases c
    case evaluationDone => cases hf; exact range_evaluationDone hs
    case roundStart => cases hf; exact range_roundExpired hs
    case replyDiscarded line => cases hf; exact range_replyDiscarded line hs
    case sensed line => cases hf; exact range_replyAccepted _ line hs
    case moved line => cases hf; exact range_replyAccepted _ line hs
    case homed line => cases hf; exact range_replyAccepted _ line hs
    case settleTimeout id => cases hf; exact range_settleExpired id hs
    all_goals first | cases (show true = false from hp) | cases ho
  take s o p hp _ hs := by
    have done := fun {apply : Posted → State → State × Answer} h => range_depends.answered (apply := apply) (p := p) (s := s) rfl h
    have held := fun {apply : Posted → State → State × Answer} h => range_depends.holdOr (apply := apply) (p := p) rfl hs h
    cases o
    case setupLens => exact done (range_unhomeMotors _)
    case loadTracking => exact done (range_applyLoadTracking p hs)
    case start => exact done (apply := applyStart) (by rw [applyStart_fst]; exact range_start hs)
    case stop => exact done (apply := applyStop) (by rw [applyStop_fst]; exact range_stop hs)
    case supplyLimits => exact done (apply := applySupplyLimits) hs
    case clearSupply => exact done (apply := applyClearSupply) hs
    case focusStart => exact done (range_applyFocusStart p hs)
    case focusCancel => exact done (range_giveFocus _ _ hs)
    case focusSet => exact held (range_applyFocusSet p hs)
    case zoomTo => exact held (range_applyZoomTo p hs)
    case zoomStop => exact done (range_applyZoomStop p hs)
    case lensRestart => exact done (range_applyLensRestart p hs)
    all_goals cases (show true = false from hp)
  arrive s t hs :=
    range_depends.arrive rfl (fun s o p => range_applyHoldable o p) (fun s => range_off (cutFilling_changes s) rfl)
      (fun s g b => range_off (claimBank_changes s g b) rfl) (fun s g o t id => range_off (giveToBank_changes s g o t id) rfl)
      (fun s k b g f => range_off (applyCrop_changes s k b _) rfl) (fun s k b => range_handOnBank k b) t hs
  failed s o := range_off (ownerFailed_changes s o) rfl

/-- Settles O55: every target is clamped when given, every position when confirmed, and what stops a motor stops it at its
position. -/
theorem stepKeepsMotorsInRange : Obligations.StepKeepsMotorsInRange := fun _ _ => range_kept.kept.step

end Sys2Proof.Machine
end

section
/-! PROOFS. Properties of the Frames block: what keeps one through the pins and releases of the Store and through the
arrival of RAW writes. -/

namespace Sys2Proof.Machine
set_option Elab.async false

/-! ### Pins and releases -/

/-- A property of these parts that pins and releases keep, and that does not look at the Store and the orders. -/
structure PinsKept (ps : List Part) (P : State → Prop) : Prop where
  depends : Depends ps P
  off     : apart ps [.store, .orders, .status] = true
  pin     : ∀ s t b n, pin b n s = some t → P s → P t
  release : ∀ s b, P s → P (release b s)

namespace PinsKept

variable {ps : List Part} {P : State → Prop} (k : PinsKept ps P) {s t : State}
include k

theorem aside {qs : List Part} (h : Changes qs s t) (hq : qs ⊆ [.store, .orders, .status]) (hs : P s) : P t :=
  k.depends.of_changes (h.mono hq) k.off hs

theorem choose (x : Inflight) (n b : Nat) (hs : P s) : P (choose x n b s) := by
  unfold Machine.choose
  dsimp only
  split
  · next t j e ht _ _ =>
    exact k.aside (((((reserve_changes t _ _ _).trans (endShoot_changes _ _)).trans (latchIf_changes _ _ _)).trans
      (latch_changes _ _))) (by decide) (k.pin s t _ _ ht hs)
  · exact k.aside (endShoot_changes s _) (by decide) hs

theorem testFrame (n b : Nat) (hs : P s) : P (testFrame s n b) := by
  unfold Machine.testFrame
  split
  · exact hs
  · dsimp only
    split
    · split
      · exact k.choose _ _ _ hs
      · exact k.aside (changes_store s _) (by decide) hs
    · exact hs

theorem decideIfOver (hs : P s) : P (decideIfOver s) := by
  have ended := k.aside (endShoot_changes s (plainAnswer .noFrame)) (by decide) hs
  unfold Machine.decideIfOver
  split
  · split
    · unfold decideShoot
      split
      · split
        · exact k.choose _ _ _ hs
        · exact ended
      · exact ended
    · exact hs
  · exact hs

theorem lookBack (b : Nat) (hs : P s) : P (lookBack b s) := by
  have all : ∀ (l : List Recent) (s : State), P s → P (l.foldl (fun t r => Machine.testFrame t r.number r.buffer) s) := by
    intro l
    induction l with
    | nil => exact fun s hs => hs
    | cons r l ih => exact fun s hs => ih _ (k.testFrame _ _ hs)
  exact k.decideIfOver (all _ _ hs)

theorem reportCompletion (n b : Nat) (hs : P s) : P (reportCompletion n b s) := by
  have listed := fun l => k.aside (changes_store s { s.store with recent := l }) (by decide) hs
  unfold Machine.reportCompletion lookAhead
  split
  · exact listed _
  · exact k.decideIfOver (k.testFrame _ _ (k.aside (changes_store _ _) (by decide) (listed _)))

theorem takeShoot (p : Posted) (hs : P s) : P (takeShoot p s) := by
  unfold Machine.takeShoot
  split
  · exact k.aside (makeReply_changes s _ _ _ _) (by decide) hs
  · exact k.lookBack _ (k.aside ((changes_orders s _).trans (changes_store _ _)) (by decide) hs)

theorem endShot (e : Nat) (sh : Shot) (hs : P s) : P (endShot e sh s) :=
  k.aside (changes_store _ _) (by decide) (k.release s sh.buffer hs)

theorem stopStore (hs : P s) : P (stopStore s) := by
  have cancel : ∀ s e, P s → P (cancelShot s e) := by
    intro s e hs
    unfold cancelShot
    split
    · exact k.aside (changes_store _ _) (by decide) (k.endShot _ _ hs)
    · exact hs
  have all : ∀ (l : List Nat) (s : State), P s → P (l.foldl cancelShot s) := by
    intro l
    induction l with
    | nil => exact fun s hs => hs
    | cons e l ih => exact fun s hs => ih _ (cancel s e hs)
  unfold Machine.stopStore
  dsimp only
  split
  · exact all _ _ (k.aside (endShoot_changes s _) (by decide) hs)
  · exact all _ _ hs

theorem applyReleaseShot (p : Posted) (hs : P s) : P (applyReleaseShot p s).1 := by
  unfold Machine.applyReleaseShot
  split
  · exact k.aside (changes_store _ _) (by decide) (k.endShot _ _ hs)
  · exact hs

theorem applyCloseSlot (p : Posted) (hs : P s) : P (applyCloseSlot p s).1 := by
  unfold Machine.applyCloseSlot
  dsimp only
  split
  · exact hs
  · split
    · exact hs
    · split
      · exact hs
      · split
        · exact hs
        · split
          · exact hs
          · exact k.aside ((changes_store _ _).trans (changes_store _ _)) (by decide) (k.endShot _ _ hs)

end PinsKept

/-! ### A frame's buffer -/

/-- A crop offset a map entry may take (R149). -/
def OffsetFits (g : Geometry) (ox oy : Int) : Prop := ox.natAbs ≤ g.mx ∧ oy.natAbs ≤ g.my ∧ ox % 2 = 0 ∧ oy % 2 = 0

theorem evenTowardZero_fits (m : Nat) (x : Int) (h : -(m : Int) ≤ x ∧ x ≤ m) :
    (evenTowardZero x).natAbs ≤ m ∧ evenTowardZero x % 2 = 0 := by
  unfold evenTowardZero
  split
  · omega
  · split <;> omega

theorem clampInt_within (m : Nat) (x : Int) : -(m : Int) ≤ clampInt (-m) m x ∧ clampInt (-m) m x ≤ m := by
  rw [clampInt_eq (by omega)]; omega

/-- What the Steadying unit hands on is even and within the margins, with a figure of a byte (R149, R150). -/
theorem cropResult_fits (s : State) (g : Geometry) (f : FrameRecord) :
    OffsetFits g (cropResult s g f).ox (cropResult s g f).oy ∧ (cropResult s g f).m ≤ 255 := by
  unfold cropResult
  dsimp only
  split
  iterate 3 exact ⟨⟨by simp, by simp, rfl, rfl⟩, by simp⟩
  · obtain ⟨hx, ex⟩ := evenTowardZero_fits g.mx _ (clampInt_within g.mx _)
    obtain ⟨hy, ey⟩ := evenTowardZero_fits g.my _ (clampInt_within g.my _)
    exact ⟨⟨hx, hy, ex, ey⟩, Nat.min_le_left _ _⟩

/-- What keeps a property while a frame fills buffer `b` of a pool of geometry `g`: it does not look beyond the Frames
block, the windows and the part state, and the frame's record, its crop offset, the cut of a FILLING record and the frame
number keep it. -/
structure FillKept (ps : List Part) (g : Geometry) (b : Nat) (P : State → Prop) : Prop extends PinsKept ps P where
  beside : apart ps [.exposure, .steady, .status, .stats, .lens, .focus, .store, .orders] = true
  record : ∀ s f, P s → P (setRecord b f s)
  crop   : ∀ s k ox oy, OffsetFits g ox oy → P s → P (setEntry k { s.entry k with ox := ox, oy := oy } s)
  cut    : ∀ s c f, (s.record c).state = .filling → P s → P (setRecord c f s)
  number : ∀ s n, P s → P { s with frames := { s.frames with number := n } }

/-- The record a cut finds is FILLING. -/
theorem filling?_state {s : State} {b : Nat} (h : s.filling? = some b) :
    b < s.frames.table.length ∧ (s.record b).state = .filling := by
  obtain ⟨hb, hf, -⟩ := List.findIdx?_eq_some_iff_getElem.mp h
  exact ⟨hb, by simpa [State.record, List.getD_eq_getElem?_getD, hb] using hf⟩

namespace FillKept

variable {ps : List Part} {g : Geometry} {b : Nat} {P : State → Prop} (k : FillKept ps g b P) {s t : State}
include k

theorem next {qs : List Part} (h : Changes qs s t)
    (hq : qs ⊆ [.exposure, .steady, .status, .stats, .lens, .focus, .store, .orders]) (hs : P s) : P t :=
  k.depends.of_changes (h.mono hq) k.beside hs

theorem cutFilling (hs : P s) : P (cutFilling s) := by
  unfold Machine.cutFilling
  split
  · next c hc =>
    exact k.next (((releaseBank_changes _ _).trans (latch_changes _ _)).trans (setCounters_changes _ _)) (by decide)
      (k.cut s c _ (filling?_state hc).2 hs)
  · exact hs

theorem openRecord (h : RawHeader) (hs : P s) : P (openRecord g b h s) := by
  have replaced : P (replaceRecord b s) := by
    unfold replaceRecord
    split
    · exact k.next (reportReplaced_changes s _ _) (by decide) hs
    · exact hs
  exact k.number _ _ (k.record _ _ replaced)

theorem claimBank (hs : P s) : P (claimBank g b s) := by
  unfold Machine.claimBank
  dsimp only
  split
  · exact k.next (setBank_changes _ _ _) (by decide) (k.record _ _ hs)
  · exact k.next ((latch_changes _ _).trans (setCounters_changes _ _)) (by decide) (k.record _ _ hs)

theorem completeFrame (i : Nat) (hs : P s) : P (completeFrame g i b s) := by
  have cropped : ∀ u f, P u → P (applyCrop i b (cropResult u g f) u) := fun u f hu =>
    k.next ((changes_steady _ _).trans (latchIf_changes _ _ _)) (by decide)
      (k.crop _ i _ _ (cropResult_fits u g f).1 (k.record u _ hu))
  exact k.reportCompletion _ _ (k.next (handOnBank_changes _ _ _) (by decide)
    (k.record _ _ (cropped _ _ (k.record s _ hs))))

theorem pixelWrite (i o : Nat) (t : HostTransaction) (hs : P s) : P (pixelWrite g i b o t s) := by
  have given := fun f id => k.next (giveToBank_changes _ g o t id) (by decide) (k.record s f hs)
  unfold Machine.pixelWrite
  dsimp only
  split
  · exact k.completeFrame i (given _ _)
  · exact given _ _

/-- A frame start past its target (R27 to R32). -/
theorem frameStart {i : Nat} {t : HostTransaction} {u : State} (hr : remap i s = some u) (hb : u.phys i = b) (hu : P u) :
    P (frameStart g i t s).1 := by
  unfold Machine.frameStart
  rw [hr]
  dsimp only
  rw [hb]
  exact k.pixelWrite i 0 t (k.claimBank (k.next (applyHeld_changes _ _) (by decide)
    (k.openRecord _ (k.cutFilling hu))))

end FillKept

/-- A property of the Frames block, the windows and the part state is kept by an arrival that the RAW writes into active
buffers keep. -/
theorem Depends.arriveRaw {ps : List Part} {P : State → Prop} (d : Depends ps P)
    (hp : apart ps [.store, .orders, .status] = true) {s : State} (t : HostTransaction) (hs : P s)
    (raw : ∀ w g, s.decodeAddress t.addr.toNat = .raw w → s.frames.geometry = some g →
      P (offerRawWrite g ((t.addr.toNat - w.base) / w.bufsz) ((t.addr.toNat - w.base) % w.bufsz) t s).1) :
    P (Machine.arrive t s).1 := by
  have off : ∀ {qs : List Part} {s t : State}, Changes qs s t → qs ⊆ [.store, .orders, .status] → P s → P t :=
    fun h hq => d.of_changes (h.mono hq) hp
  unfold Machine.arrive
  split
  · exact hs
  · unfold arriveControl
    dsimp only
    split
    · exact off (showOrderWrite_changes s _ _) (by decide) hs
    · exact hs
  · next w hw =>
    unfold Machine.arriveRaw
    dsimp only
    split
    · next g _ hg => exact raw w g hw hg
    · exact hs
  · unfold arriveView
    split
    · exact hs
    · exact off (latchCount_changes s _ _) (by decide) hs
  · unfold arrivePool
    dsimp only
    split
    · exact off (latchCount_changes s _ _) (by decide) hs
    · exact hs
  · unfold arrivePicture
    dsimp only
    split
    · exact hs
    · exact off (slotWrite_changes s _ _) (by decide) hs

/-- A RAW write, by its offset and the record's state (R24, R25). -/
theorem offerRawWrite_keeps {P : State → Prop} {s : State} {g : Geometry} {k o : Nat} {t : HostTransaction}
    (late : ∀ u, Changes [.status] s u → P u) (start : P (frameStart g k t s).1)
    (pixels : P (pixelWrite g k (s.phys k) o t s)) (hs : P s) : P (offerRawWrite g k o t s).1 := by
  unfold offerRawWrite
  split
  · split
    · exact start
    · exact late _ (latchCount_changes s _ _)
  · split
    · exact pixels
    · exact late _ (latchCount_changes s _ _)
    · exact late _ (latchCount_changes s _ _)
    · exact hs

end Sys2Proof.Machine
end

section
/-! PROOFS. The metering and steadying values and the crop offsets stay in range (O58). -/

namespace Sys2Proof.Machine
set_option Elab.async false

variable {s t : State}

/-! ### Exposure -/

theorem clampNat_within {lo hi : Nat} (h : lo ≤ hi) (x : Nat) : lo ≤ clampNat lo hi x ∧ clampNat lo hi x ≤ hi := by
  rw [clampNat_eq h]; omega

/-- The metering settings in the ranges of 4.2. -/
structure Metering.InRange (m : Metering) : Prop where
  tgt     : 1 ≤ m.tgt ∧ m.tgt ≤ 4095
  comp    : -96 ≤ m.c ∧ m.c ≤ 96
  db      : m.db ≤ 16
  shutter : m.sMin ≤ m.sMaxCfg ∧ m.sMaxCfg ≤ 669
  gain    : m.gMax ≤ 255
  boost   : m.boost ≤ 96
  levels  : m.blk ≤ 1023 ∧ 1 ≤ m.white ∧ m.white ≤ 4096

theorem clampMetering_inRange (v : Metering) : (clampMetering v).InRange where
  tgt := clampNat_within (lo := 1) (hi := 4095) (by decide) v.tgt
  comp := by
    show -96 ≤ clampInt (-96) 96 v.c ∧ clampInt (-96) 96 v.c ≤ 96
    rw [clampInt_eq (by decide)]
    omega
  db := (clampNat_within (lo := 0) (hi := 16) (by decide) v.db).2
  shutter :=
    clampNat_within (hi := 669) (clampNat_within (lo := 0) (hi := 669) (by decide) v.sMin).2 v.sMaxCfg
  gain := (clampNat_within (lo := 0) (hi := 255) (by decide) v.gMax).2
  boost := (clampNat_within (lo := 0) (hi := 96) (by decide) v.boost).2
  levels := ⟨(clampNat_within (lo := 0) (hi := 1023) (by decide) v.blk).2,
    clampNat_within (lo := 1) (hi := 4096) (by decide) v.white⟩

/-- A published plan in range, and not both live conditions (R74, R75). -/
structure Exposure.PlanInRange (u : Exposure) : Prop where
  plan : u.plan.gain ≤ 255 ∧ ∀ c, u.plan.code = some c → c ≤ 669 ∧ u.plan.t = ex c
  once : ¬(u.underLive = true ∧ u.overLive = true)

theorem exposureInRange_iff (u : Exposure) : ExposureInRange u ↔ u.settings.InRange ∧ u.PlanInRange :=
  ⟨fun ⟨a, b, c, d, e, f, g, h, i⟩ => ⟨⟨a, b, c, d, e, f, g⟩, ⟨h, i⟩⟩,
    fun ⟨⟨a, b, c, d, e, f, g⟩, ⟨h, i⟩⟩ => ⟨a, b, c, d, e, f, g, h, i⟩⟩

/-- The split stays below the greatest shutter and gain codes (R73, R74). -/
theorem splitCode_inRange {m : Metering} (h : m.InRange) (sLim : Nat) (active : Bool) (n : Int) :
    (splitCode m (maxShutter m sLim active) n).s ≤ 669 ∧ (splitCode m (maxShutter m sLim active) n).g ≤ 255 ∧
      ¬((splitCode m (maxShutter m sLim active) n).under = true ∧
        (splitCode m (maxShutter m sLim active) n).over' = true) := by
  obtain ⟨low, top⟩ := h.shutter
  have gain := h.gain
  have bound : maxShutter m sLim active ≤ 669 := by unfold maxShutter; omega
  unfold splitCode
  split
  · exact ⟨Nat.le_trans low top, Nat.zero_le _, by simp⟩
  · split
    · exact ⟨by dsimp only; omega, Nat.zero_le _, by simp⟩
    · split
      · exact ⟨bound, by dsimp only; omega, by simp⟩
      · exact ⟨bound, gain, by simp⟩

theorem exposure_publishPlan {x : Split} (origin : Nat) (hs : x.s ≤ 669) (hg : x.g ≤ 255)
    (once : ¬(x.under = true ∧ x.over' = true)) (h : s.exposure.settings.InRange) :
    ExposureInRange (publishPlan x origin s).exposure := by
  have same : (publishPlan x origin s).exposure =
      { s.exposure with plan := x.plan origin, underLive := x.under, overLive := x.over' } := by
    unfold publishPlan
    rw [(latchIf_changes _ _ _).exposure_eq, (latchIf_changes _ _ _).exposure_eq]
    rfl
  rw [same, exposureInRange_iff]
  exact ⟨h, ⟨hg, fun c hc => by cases hc; exact ⟨hs, rfl⟩⟩, once⟩

theorem exposure_depends : Depends [.exposure] fun s => ExposureInRange s.exposure := fun s t h hs => by
  have e : t.exposure = s.exposure := h .exposure (by decide)
  dsimp only; rw [e]; exact hs

theorem exposure_off {qs : List Part} (h : Changes qs s t) (hq : apart [.exposure] qs = true)
    (hs : ExposureInRange s.exposure) : ExposureInRange t.exposure := exposure_depends.of_changes h hq hs

theorem exposure_evaluate (b : Bank) (f : FrameRecord) (h : ExposureInRange s.exposure) :
    ExposureInRange (exposureEvaluate b f s).1.exposure := by
  obtain ⟨settings, plan⟩ := (exposureInRange_iff _).mp h
  have converged : ∀ stale inBand, (setConverged stale inBand s).exposure.settings.InRange ∧
      ExposureInRange (setConverged stale inBand s).exposure := by
    intro stale inBand
    unfold setConverged
    split
    · exact ⟨settings, h⟩
    · exact ⟨settings, (exposureInRange_iff _).mpr ⟨settings, plan.1, plan.2⟩⟩
  unfold exposureEvaluate
  dsimp only
  split
  · exact h
  · split
    · exact (converged _ _).2
    · obtain ⟨hs, hg, once⟩ := splitCode_inRange settings _ _ _
      exact exposure_publishPlan _ hs hg once (converged _ _).1

theorem exposure_evaluationDone (h : ExposureInRange s.exposure) : ExposureInRange (evaluationDone s).exposure := by
  unfold evaluationDone
  split
  · exact h
  · split
    · unfold evaluate
      exact exposure_off ((((focusEvaluate_only _ _ _ _ _).changes.trans (setBank_changes _ _ _)).trans
        (dropBankField_changes _ _ _)).trans (beginResult_changes _ _ _)) rfl (exposure_evaluate _ _ h)
    · exact h

theorem exposure_start (h : ExposureInRange s.exposure) : ExposureInRange (start s).exposure := by
  have initial : ∀ u : State, u.exposure.settings.InRange → ExposureInRange (startExposure u).exposure := fun u hu =>
    (exposureInRange_iff _).mpr ⟨hu, ⟨Nat.zero_le _, nofun⟩, nofun⟩
  have pools := exposure_off (startPools_changes s) rfl h
  rw [start_eq]
  refine exposure_off ((changes_lens _ _).trans (startLink_changes _)) rfl ?_
  exact exposure_off (changes_steady _ _) rfl (initial _ ((exposureInRange_iff _).mp pools).1)

theorem exposure_applyHoldable (o : Order) (p : Posted) (h : ExposureInRange s.exposure) :
    ExposureInRange (applyHoldable o p s).1.exposure := by
  obtain ⟨settings, plan⟩ := (exposureInRange_iff _).mp h
  cases o
  case loadWeights => exact (exposureInRange_iff _).mpr ⟨settings, plan.1, plan.2⟩
  case meterMode => exact (exposureInRange_iff _).mpr ⟨clampMetering_inRange _, plan.1, plan.2⟩
  case exposureLock => exact (exposureInRange_iff _).mpr ⟨settings, plan.1, plan.2⟩
  case focusSet => exact exposure_off (applyFocusSet_changes s p) rfl h
  case zoomTo => exact exposure_off (applyZoomTo_changes s p) rfl h
  all_goals exact h

theorem exposure_reset : ExposureInRange State.reset.exposure :=
  (exposureInRange_iff _).mpr
    ⟨⟨by decide, by decide, by decide, by decide, by decide, by decide, by decide⟩, ⟨by decide, nofun⟩, nofun⟩

theorem exposure_kept : BlocksKept [.exposure] fun s => ExposureInRange s.exposure where
  blocks := by decide
  depends := exposure_depends
  assert s h := h
  rise s a := exposure_reset
  event s c f hp ho hf hs := by
    cases c
    case evaluationDone => cases hf; exact exposure_evaluationDone hs
    all_goals first | cases (show true = false from hp) | cases ho
  take s o p hp _ hs := by
    have held := fun {apply : Posted → State → State × Answer} h => exposure_depends.holdOr (apply := apply) (p := p) rfl hs h
    cases o
    case start => exact exposure_depends.answered (apply := applyStart) rfl (by rw [applyStart_fst]; exact exposure_start hs)
    case loadWeights => exact held (apply := applyLoadWeights) (exposure_applyHoldable .loadWeights p hs)
    case meterMode => exact held (apply := applyMeterMode) (exposure_applyHoldable .meterMode p hs)
    case exposureLock => exact held (apply := applyExposureLock) (exposure_applyHoldable .exposureLock p hs)
    all_goals cases (show true = false from hp)
  arrive s t hs :=
    exposure_depends.arrive rfl (fun s o p => exposure_applyHoldable o p) (fun s => exposure_off (cutFilling_changes s) rfl)
      (fun s g b => exposure_off (claimBank_changes s g b) rfl) (fun s g o t id => exposure_off (giveToBank_changes s g o t id) rfl)
      (fun s k b g f => exposure_off (applyCrop_changes s k b _) rfl)
      (fun s k b => exposure_off (handOnBank_changes s k b) rfl) t hs
  failed s o := exposure_off (ownerFailed_changes s o) rfl

/-! ### Steadying -/

theorem steady_depends : Depends [.steady] fun s => SteadyInRange s.steady := fun s t h hs => by
  have e : t.steady = s.steady := h .steady (by decide)
  dsimp only; rw [e]; exact hs

theorem steady_off {qs : List Part} (h : Changes qs s t) (hq : apart [.steady] qs = true)
    (hs : SteadyInRange s.steady) : SteadyInRange t.steady := steady_depends.of_changes h hq hs

theorem integrate_within (k : Nat) (a r : Int) : (integrate k a r).natAbs ≤ 8388607 := by
  unfold integrate angleTop
  rw [clampInt_eq (by omega)]
  omega

/-- A sample with a run of at most 255 (R142, R143). -/
theorem SteadyInRange.withSample {u : Steady} (h : SteadyInRange u) (time : Time) (rx ry : Int) {run : Nat} (k : Nat)
    (hr : run ≤ 255) : SteadyInRange (u.withSample time rx ry run k) := by
  have angles : (u.nextAngles k rx ry).1.natAbs ≤ 8388607 ∧ (u.nextAngles k rx ry).2.natAbs ≤ 8388607 := by
    unfold Steady.nextAngles
    split
    · exact ⟨integrate_within _ _ _, integrate_within _ _ _⟩
    · exact h.angles
  have still : u.state ≠ .active → (u.nextAngles k rx ry).1 = 0 ∧ (u.nextAngles k rx ry).2 = 0 := by
    intro hu
    unfold Steady.nextAngles
    rw [if_neg hu]
    exact h.still hu
  refine ⟨angles, still, ⟨hr, fun quiet => ?_⟩, h.figure, h.offset⟩
  have quiet : decide (0 < u.settings.qn ∧ u.settings.qn ≤ run) = true := quiet
  have := of_decide_eq_true quiet
  show 0 < run
  omega

theorem steady_missingSample (time : Time) (h : SteadyInRange s.steady) :
    SteadyInRange (missingSample time s).steady := h.withSample time _ _ _ (by omega)

theorem steady_acceptedSample (time : Time) (x y : Int) (h : SteadyInRange s.steady) :
    SteadyInRange (acceptedSample time x y s).steady := by
  have run : ∀ rx ry, s.steady.nextRun rx ry ≤ 255 := by
    intro rx ry
    unfold Steady.nextRun
    split <;> omega
  exact h.withSample time _ _ _ (run _ _)

theorem steady_faultedSample (time : Time) (h : SteadyInRange s.steady) :
    SteadyInRange (faultedSample time s).steady :=
  ⟨h.angles, h.still, ⟨by simp [faultedSample, setSteady], by simp [faultedSample, setSteady]⟩, h.figure, h.offset⟩

/-- The unit with its angles at 0. -/
theorem SteadyInRange.atRest {u v : Steady} (h : SteadyInRange u) (hx : v.ax = 0) (hy : v.ay = 0)
    (run : v.quietRun ≤ 255 ∧ (v.quiet = true → 0 < v.quietRun)) (hm : v.m = u.m) (ox : v.ox = u.ox) (oy : v.oy = u.oy) :
    SteadyInRange v :=
  ⟨by simp [hx, hy], fun _ => ⟨hx, hy⟩, run, hm ▸ h.figure, by rw [ox, oy]; exact h.offset⟩

theorem steady_sensingFaulted (h : SteadyInRange s.steady) : SteadyInRange (sensingFaulted s).steady := by
  unfold sensingFaulted
  split
  · exact h
  · exact h.atRest rfl rfl h.run rfl rfl rfl

theorem steady_sensingCleared (h : SteadyInRange s.steady) : SteadyInRange (sensingCleared s).steady := by
  unfold sensingCleared
  split
  · exact h.atRest rfl rfl ⟨by simp [setSteady], by simp [setSteady]⟩ rfl rfl rfl
  · exact h

theorem steady_withSettings {u : Steady} (v : SteadySettings) (h : SteadyInRange u) : SteadyInRange (u.withSettings v) := by
  unfold Steady.withSettings
  split
  · split
    · exact h.atRest rfl rfl h.run rfl rfl rfl
    · exact ⟨h.angles, h.still, h.run, h.figure, h.offset⟩
  · split
    · exact ⟨h.angles, h.still, h.run, h.figure, h.offset⟩
    · exact h.atRest rfl rfl h.run rfl rfl rfl
  · exact ⟨h.angles, h.still, h.run, h.figure, h.offset⟩

theorem steady_sensingMissing (h : SteadyInRange s.steady) : SteadyInRange (sensingMissing s).steady := by
  have counted := fun n => steady_off (setFails_changes s .sensing n) rfl h
  unfold sensingMissing
  dsimp only
  split
  · exact steady_faultedSample _ h
  · split
    · exact steady_faultedSample _ (steady_sensingFaulted (steady_off (changes_link _ _) rfl (counted _)))
    · exact steady_missingSample _ (counted _)

theorem steady_endMissing (x : Exchange) (h : SteadyInRange s.steady) : SteadyInRange (endMissing x s).steady := by
  refine steady_off (checkParked_changes _) rfl ?_
  unfold deliverMissing
  split
  · exact steady_sensingMissing h
  · exact steady_off (motorExchangeMissing_changes _ _ _ _) rfl h

theorem steady_endAccepted (x : Exchange) (pl : List Byte) (h : SteadyInRange s.steady) :
    SteadyInRange (endAccepted x pl s).steady := by
  have closed := steady_off (closeExchange_changes s) rfl h
  refine steady_off (checkParked_changes _) rfl ?_
  unfold deliverAccepted
  split
  · unfold deliverSensed
    dsimp only
    split
    · exact steady_faultedSample _ closed
    · exact steady_acceptedSample _ _ _ (steady_off ((setFails_changes _ _ _).trans (supplyReading_only _ _ _ _).changes) rfl
        closed)
  · dsimp only
    split
    · exact steady_off ((setFails_changes _ _ _).trans (homedReply_only _ _).changes) rfl closed
    · exact steady_off ((setFails_changes _ _ _).trans (movedReply_only _ _ _ _ _).changes) rfl closed

theorem steady_replyDiscarded (line : List Byte) (h : SteadyInRange s.steady) :
    SteadyInRange (replyDiscarded line s).steady := by
  unfold replyDiscarded
  split
  · split
    · exact steady_off (nextTurn_changes _) rfl (steady_endMissing _
        (steady_off ((countHeader_changes s _ _).trans (setCounters_changes _ _)) rfl h))
    · exact h
  · exact h

theorem steady_replyAccepted (sort : Request → Bool) (line : List Byte) (h : SteadyInRange s.steady) :
    SteadyInRange (replyAccepted sort line s).steady := by
  unfold replyAccepted
  split
  · split
    · split
      · exact steady_off (nextTurn_changes _) rfl (steady_endAccepted _ _ (steady_off (countHeader_changes s _ _) rfl h))
      · exact h
    · exact h
  · exact h

theorem steady_roundExpired (h : SteadyInRange s.steady) : SteadyInRange (roundExpired s).steady := by
  have ended : SteadyInRange (match s.link.exchange with | some x => endMissing x s | none => s).steady := by
    split
    · exact steady_endMissing _ h
    · exact h
  unfold roundExpired
  split
  · exact if c : _ then by rw [if_pos c]; exact ended else by
      rw [if_neg c]; exact steady_off (beginRound_changes _) rfl ended
  · exact h

theorem steady_start (h : SteadyInRange s.steady) : SteadyInRange (start s).steady := by
  have rest : ∀ u : State, SteadyInRange u.steady → SteadyInRange (startSteady u).steady := fun u hu =>
    hu.atRest rfl rfl ⟨Nat.zero_le _, nofun⟩ rfl rfl rfl
  have blocks : SteadyInRange (startBlocks s).steady :=
    rest _ (steady_off ((startPools_changes s).trans (changes_exposure _ _)) rfl h)
  rw [start_eq]
  exact steady_off (beginRound_changes _) rfl (steady_sensingCleared (steady_off ((changes_lens _ _).trans
    (changes_link _ _)) rfl blocks))

theorem steady_applyHoldable (o : Order) (p : Posted) (h : SteadyInRange s.steady) :
    SteadyInRange (applyHoldable o p s).1.steady := by
  cases o
  case steadyMode => exact steady_withSettings _ h
  case focusSet => exact steady_off (applyFocusSet_changes s p) rfl h
  case zoomTo => exact steady_off (applyZoomTo_changes s p) rfl h
  all_goals exact h

theorem steady_applyCrop (k b : Nat) (g : Geometry) (f : FrameRecord) (h : SteadyInRange s.steady) :
    SteadyInRange (applyCrop k b (cropResult s g f) s).steady := by
  obtain ⟨⟨-, -, ex, ey⟩, hm⟩ := cropResult_fits s g f
  exact steady_off (latchIf_changes _ _ _) rfl ⟨h.angles, h.still, h.run, hm, ex, ey⟩

theorem steady_reset : SteadyInRange State.reset.steady :=
  ⟨by decide, fun _ => ⟨rfl, rfl⟩, ⟨by decide, nofun⟩, by decide, by decide⟩

theorem steady_kept : BlocksKept [.steady] fun s => SteadyInRange s.steady where
  blocks := by decide
  depends := steady_depends
  assert s h := h
  rise s a := steady_reset
  event s c f hp ho hf hs := by
    cases c
    case roundStart => cases hf; exact steady_roundExpired hs
    case replyDiscarded line => cases hf; exact steady_replyDiscarded line hs
    case sensed line => cases hf; exact steady_replyAccepted _ line hs
    case moved line => cases hf; exact steady_replyAccepted _ line hs
    case homed line => cases hf; exact steady_replyAccepted _ line hs
    case settleTimeout id =>
      cases hf
      unfold settleExpired
      dsimp only
      split
      · refine steady_off (checkParked_changes _) rfl ?_
        split
        · exact steady_off ((becomeIdle_only s id).trans (focusArrived_only _)).changes rfl hs
        · exact steady_off (becomeIdle_only s id).changes rfl hs
      · exact hs
    all_goals first | cases (show true = false from hp) | cases ho
  take s o p hp _ hs := by
    cases o
    case start => exact steady_depends.answered (apply := applyStart) rfl (by rw [applyStart_fst]; exact steady_start hs)
    case steadyMode => exact steady_depends.holdOr (apply := applySteadyMode) rfl hs (steady_withSettings _ hs)
    case lensRestart =>
      refine steady_depends.answered (apply := applyLensRestart) rfl ?_
      have cleared : SteadyInRange (clearLinkFailures s).steady := steady_sensingCleared hs
      unfold applyLensRestart
      dsimp only
      split
      · exact cleared
      · exact cleared
    all_goals cases (show true = false from hp)
  arrive s t hs :=
    steady_depends.arrive rfl (fun s o p => steady_applyHoldable o p) (fun s => steady_off (cutFilling_changes s) rfl)
      (fun s g b => steady_off (claimBank_changes s g b) rfl) (fun s g o t id => steady_off (giveToBank_changes s g o t id) rfl)
      (fun s k b g f => steady_applyCrop k b g f)
      (fun s k b => steady_off (handOnBank_changes s k b) rfl) t hs
  failed s o := steady_off (ownerFailed_changes s o) rfl

/-! ### Crop offsets -/

theorem offsets_depends : Depends [.frames] OffsetsInMargins := fun s t h hs => by
  have e : t.frames = s.frames := h .frames (by decide)
  unfold OffsetsInMargins
  rw [e]
  exact hs

theorem offsets_off {qs : List Part} (h : Changes qs s t) (hq : apart [.frames] qs = true) (hs : OffsetsInMargins s) :
    OffsetsInMargins t := offsets_depends.of_changes h hq hs

/-- Only the geometry and the map count. -/
theorem offsets_of_map (hs : OffsetsInMargins s) (hg : t.frames.geometry = s.frames.geometry)
    (hm : ∀ e ∈ t.frames.map, e ∈ s.frames.map) : OffsetsInMargins t := fun g h e he =>
  hs g (hg ▸ h) e (hm e he)

/-- A map whose offsets are 0 fits any margins. -/
theorem offsets_of_zero (h : ∀ e ∈ t.frames.map, e.ox = 0 ∧ e.oy = 0) : OffsetsInMargins t := fun g _ e he => by
  obtain ⟨hx, hy⟩ := h e he
  simp [hx, hy]

/-- The entry of a logical buffer, or the identity entry beyond the map, fits the margins. -/
theorem offsets_entry (hs : OffsetsInMargins s) {g : Geometry} (hg : s.frames.geometry = some g) (k : Nat) :
    OffsetFits g (s.entry k).ox (s.entry k).oy := by
  unfold State.entry
  by_cases hk : k < s.frames.map.length
  · rw [List.getD_eq_getElem _ _ hk]
    exact hs g hg _ (List.getElem_mem hk)
  · rw [List.getD_eq_default _ _ (by omega)]
    exact ⟨Nat.zero_le _, Nat.zero_le _, rfl, rfl⟩

theorem offsets_setEntry (hs : OffsetsInMargins s) (k : Nat) (e : MapEntry)
    (he : ∀ g, s.frames.geometry = some g → OffsetFits g e.ox e.oy) : OffsetsInMargins (setEntry k e s) := by
  intro g hg x hx
  rcases List.mem_or_eq_of_mem_set hx with hx | rfl
  · exact hs g hg x hx
  · exact he g hg

theorem offsets_remap {k : Nat} (hr : remap k s = some t) (hs : OffsetsInMargins s) : OffsetsInMargins t := by
  simp only [remap] at hr
  split at hr
  · split at hr
    · cases hr
      exact offsets_setEntry (s := setFree _ s) hs k _ fun g hg => offsets_entry hs hg k
    · cases hr
  · cases hr; exact hs

theorem offsets_rebuilt (hs : OffsetsInMargins s) : OffsetsInMargins { s with frames := s.frames.rebuilt } := by
  unfold Frames.rebuilt
  split
  · exact hs
  · next g hg =>
    intro g' hg' e he
    obtain ⟨k, -, rfl⟩ := List.mem_map.mp he
    exact offsets_entry hs hg' k

theorem offsets_pins : PinsKept [.frames] OffsetsInMargins where
  depends := offsets_depends
  off := by decide
  pin s t b n ht hs := by
    rw [(pin_some s ht).2.2.2.2]
    exact offsets_of_map hs rfl fun e he => he
  release s b hs := by
    rcases release_cases s b with ⟨-, e⟩ | ⟨-, e⟩ <;> rw [e]
    · exact hs
    · exact offsets_of_map hs rfl fun e he => he

/-- A frame in any buffer of a pool of geometry `g` keeps the offsets in its margins. -/
theorem offsets_fill (g : Geometry) (b : Nat) :
    FillKept [.frames] g b fun s => s.frames.geometry = some g ∧ OffsetsInMargins s where
  depends s t h hs := by
    have e : t.frames = s.frames := h .frames (by decide)
    exact ⟨e ▸ hs.1, offsets_depends s t h hs.2⟩
  off := by decide
  pin s t b n ht hs := by
    have kept := offsets_pins.pin s t b n ht hs.2
    rw [(pin_some s ht).2.2.2.2] at kept ⊢
    exact ⟨hs.1, kept⟩
  release s b hs := by
    have kept := offsets_pins.release s b hs.2
    rcases release_cases s b with ⟨-, e⟩ | ⟨-, e⟩ <;> rw [e] at kept ⊢
    · exact hs
    · exact ⟨hs.1, kept⟩
  beside := by decide
  record s f hs := hs
  crop s k ox oy hf hs :=
    ⟨hs.1, offsets_setEntry hs.2 k _ fun g' hg' => by cases hs.1.symm.trans hg'; exact hf⟩
  cut s c f _ hs := hs
  number s n hs := hs

theorem remap_geometry {k : Nat} (hr : remap k s = some t) : t.frames.geometry = s.frames.geometry := by
  simp only [remap] at hr
  split at hr
  · split at hr <;> cases hr
    rfl
  · cases hr; rfl

theorem offsets_arrive (t : HostTransaction) (hs : OffsetsInMargins s) : OffsetsInMargins (arrive t s).1 := by
  refine offsets_depends.arriveRaw rfl t hs fun w g hw hg => ?_
  have late : ∀ u, Changes [.status] s u → OffsetsInMargins u := fun u h => offsets_off h rfl hs
  refine offerRawWrite_keeps late ?_ ((offsets_fill g _).pixelWrite _ _ _ ⟨hg, hs⟩).2 hs
  cases hr : remap ((t.addr.toNat - w.base) / w.bufsz) s with
  | none => unfold frameStart; rw [hr]; exact hs
  | some u => exact ((offsets_fill g _).frameStart hr rfl ⟨(remap_geometry hr).trans hg, offsets_remap hr hs⟩).2

theorem offsets_freshFrames (g : Geometry) (s : State) : OffsetsInMargins { s with frames := g.freshFrames } :=
  offsets_of_zero fun e he => by
    obtain ⟨k, -, rfl⟩ := List.mem_map.mp he
    exact ⟨rfl, rfl⟩

theorem offsets_checkParked (hs : OffsetsInMargins s) : OffsetsInMargins (checkParked s) := by
  unfold checkParked
  split
  · exact offsets_off ((changes_partState _ .config).trans (changes_link _ s.link.quieted)) rfl (offsets_rebuilt hs)
  · exact hs

theorem offsets_evaluationDone (h : OffsetsInMargins s) : OffsetsInMargins (evaluationDone s) := by
  have dropped : ∀ b id u, OffsetsInMargins u → OffsetsInMargins (dropBankField b id u) := by
    intro b id u hu
    unfold dropBankField
    split
    · exact hu
    · exact hu
  unfold evaluationDone
  split
  · exact h
  · split
    · unfold evaluate
      exact offsets_off (beginResult_changes _ _ _) rfl (dropped _ _ _ (offsets_off (((exposureEvaluate_changes s _ _).trans
        (focusEvaluate_only _ _ _ _ _).changes).trans (setBank_changes _ _ _)) rfl h))
    · exact h

end Sys2Proof.Machine
end

section
/-! PROOFS. The part state under the motors' replies, and what keeps a property of the pool through the ends of exchanges
and the settle timer. -/

namespace Sys2Proof.Machine
set_option Elab.async false

variable {s t u : State}

/-! ### The part state -/

/-- The part state stays, or homing ends in RUNNING (R191). -/
def PartGoesOn (s t : State) : Prop := t.partState = s.partState ∨ (s.partState = .homing ∧ t.partState = .running)

namespace PartGoesOn

theorem of_eq (h : t.partState = s.partState) : PartGoesOn s t := .inl h

theorem trans (h : PartGoesOn s t) (k : PartGoesOn t u) : PartGoesOn s u := by
  rcases h with h | ⟨hs, ht⟩
  · rcases k with k | ⟨kt, ku⟩
    · exact .inl (k.trans h)
    · exact .inr ⟨h ▸ kt, ku⟩
  · rcases k with k | ⟨kt, ku⟩
    · exact .inr ⟨hs, k.trans ht⟩
    · rw [ht] at kt; cases kt

theorem ite {c : Prop} [Decidable c] (h : PartGoesOn s t) (k : PartGoesOn s u) : PartGoesOn s (if c then t else u) := by
  split <;> assumption

theorem config_iff (h : PartGoesOn s t) : t.partState = .config ↔ s.partState = .config := by
  rcases h with h | ⟨hs, ht⟩
  · rw [h]
  · simp [hs, ht]

theorem parking_iff (h : PartGoesOn s t) : t.partState = .parking ↔ s.partState = .parking := by
  rcases h with h | ⟨hs, ht⟩
  · rw [h]
  · simp [hs, ht]

end PartGoesOn

theorem LensOnly.goesOn (h : LensOnly s t) : PartGoesOn s t := .of_eq h.changes.partState_eq

theorem endOfHoming_goesOn (s : State) : PartGoesOn s (endOfHoming s) := by
  have told : PartGoesOn s { s with partState := if s.partState = .homing then .running else s.partState } := by
    unfold PartGoesOn
    dsimp only
    split
    · next h => exact .inr ⟨h, rfl⟩
    · exact .inl rfl
  have parked : ∀ u : State, LensOnly u (setZoomHomed false (parkFocus (parkZoom u))) := fun u => by
    have zoom : LensOnly u (parkZoom u) := .ite ((setMotor_only u .zoom _).trans (giveTarget_only _ _ _ _)) .refl
    exact zoom.trans ((LensOnly.ite (giveFocus_only _ _ _) .refl).trans (setZoomHomed_only _ _))
  exact told.trans (parked _).goesOn

theorem leftHoming_goesOn (id : MotorId) (s : State) : PartGoesOn s (leftHoming id s) := by
  cases id with
  | zoom =>
    show PartGoesOn s (zoomLeftHoming s)
    unfold zoomLeftHoming
    split
    · exact (setMotor_only s .focus _).goesOn
    · exact .of_eq rfl
    · exact endOfHoming_goesOn s
  | focus => exact endOfHoming_goesOn s

theorem faultMotor_goesOn (id : MotorId) (m : Motor) (why : MotorFault) (s : State) :
    PartGoesOn s (faultMotor id m why s) := by
  have faulted : LensOnly s
      (latch .lensFault (setMotor id { m with state := .faulted, fault := why, zoomToPending := false } s)) :=
    (setMotor_only s id _).trans (latch_only _ _)
  have lost := faulted.trans (LensOnly.ite (c := id = .focus) (focusMotorLost_only _) .refl)
  unfold faultMotor
  exact .ite (lost.goesOn.trans (leftHoming_goesOn _ _)) lost.goesOn

theorem movedReply_goesOn (id : MotorId) (n a : Int) (ref : Bool) (s : State) :
    PartGoesOn s (movedReply id n a ref s) := by
  unfold movedReply movedHoming movedAway
  exact .ite (.ite (setMotor_only s id _).goesOn (.ite (faultMotor_goesOn _ _ _ _) (setMotor_only s id _).goesOn))
    (.ite ((faultMotor_goesOn _ _ _ _).trans (zoomMoved_only _ _ _).goesOn)
      (((setMotor_only s id _).trans (zoomMoved_only _ _ _)).trans (compareMotor_only _ _)).goesOn)

theorem homedReply_goesOn (id : MotorId) (s : State) : PartGoesOn s (homedReply id s) := by
  unfold homedReply
  dsimp only
  split
  · cases id
    · exact (((setMotor_only s .zoom _).trans (setZoomHomed_only _ true)).trans
        (zoomChanged_only _)).goesOn.trans (leftHoming_goesOn .zoom _)
    · exact (setMotor_only s .focus _).goesOn.trans (leftHoming_goesOn .focus _)
  · exact .of_eq rfl

theorem stallMotors_goesOn (s : State) : PartGoesOn s (stallMotors s) := by
  have stopped : ∀ l c, LensOnly s (latch .stall (latchIf c .lensFault (setLens l s))) := fun l c =>
    (LensOnly.of_lens (latchIf_only _ _ _)).trans (latch_only _ _)
  have lost : ∀ (b : MotorState) (w : State), LensOnly w (stalledFocus b w) := fun b w =>
    .ite (focusMotorLost_only w) .refl
  unfold stallMotors stalledHoming
  exact .ite ((((stopped _ _).trans (lost _ _)).goesOn).trans (endOfHoming_goesOn _))
    (.ite ((((stopped _ _).trans (lost _ _)).goesOn).trans (leftHoming_goesOn .zoom _))
      (((stopped _ _).trans (lost _ _)).goesOn))

theorem supplyReading_goesOn (v i period : Nat) (s : State) : PartGoesOn s (supplyReading v i period s) := by
  have current : ∀ w, PartGoesOn w (overCurrentRule i w) := by
    intro w; unfold overCurrentRule; dsimp only; repeat' split
    all_goals exact .of_eq rfl
  have low : ∀ w, PartGoesOn w (lensLowRule v w) := by
    intro w; unfold lensLowRule; dsimp only; repeat' split
    all_goals exact .of_eq rfl
  have stall : ∀ w, PartGoesOn w (stallRule i w) := fun w => by
    unfold stallRule
    exact .ite (.ite (PartGoesOn.trans (.of_eq rfl) (stallMotors_goesOn _)) (.of_eq rfl)) (.of_eq rfl)
  unfold supplyReading
  exact (PartGoesOn.trans (t := setSupply (s.lens.supply.sampled v i period) s) (.of_eq rfl) (current _)).trans
    ((stall _).trans (low _))

theorem setFails_goesOn (t : Target) (n : Nat) (s : State) : PartGoesOn s (setFails t n s) :=
  .of_eq (setFails_changes s t n).partState_eq

theorem motorExchangeMissing_goesOn (t : Target) (id : MotorId) (r : Request) (s : State) :
    PartGoesOn s (motorExchangeMissing t id r s) := by
  have missed : PartGoesOn s (motorMissing id r (setFails t (s.link.fails t + 1) s)) :=
    (setFails_goesOn t _ s).trans (motorMissing_only _ _ _).goesOn
  unfold motorExchangeMissing
  exact .ite (missed.trans (faultMotor_goesOn _ _ _ _)) missed

/-! ### Ends of exchanges -/

/-- What an exchange that ends missing changes before the lens may be parked. -/
def exchangeParts : List Part := [.link, .lens, .focus, .partState, .status, .steady]

theorem deliverMissing_ends (x : Exchange) (s : State) :
    Changes exchangeParts s (deliverMissing x s) ∧ PartGoesOn s (deliverMissing x s) := by
  unfold deliverMissing
  split
  · exact ⟨(sensingMissing_changes s).mono (by decide), .of_eq (sensingMissing_changes s).partState_eq⟩
  · exact ⟨(motorExchangeMissing_changes s _ _ _).mono (by decide), motorExchangeMissing_goesOn _ _ _ s⟩

theorem deliverAccepted_ends (x : Exchange) (pl : List Byte) (s : State) :
    Changes exchangeParts s (deliverAccepted x pl s) ∧ PartGoesOn s (deliverAccepted x pl s) := by
  unfold deliverAccepted
  split
  · unfold deliverSensed
    dsimp only
    split
    · exact ⟨(faultedSample_changes s _).mono (by decide), .of_eq rfl⟩
    · exact ⟨(((setFails_changes s _ _).trans (supplyReading_only _ _ _ _).changes).trans
        (acceptedSample_changes _ _ _ _)).mono (by decide),
        ((setFails_goesOn _ _ s).trans (supplyReading_goesOn _ _ _ _)).trans (.of_eq rfl)⟩
  · dsimp only
    split
    · exact ⟨((setFails_changes s _ _).trans (homedReply_only _ _).changes).mono (by decide),
        (setFails_goesOn _ _ s).trans (homedReply_goesOn _ _)⟩
    · exact ⟨((setFails_changes s _ _).trans (movedReply_only _ _ _ _ _).changes).mono (by decide),
        (setFails_goesOn _ _ s).trans (movedReply_goesOn _ _ _ _ _)⟩

/-- What keeps a property through the ends of exchanges: it does not look at the lens, the link and the sensors, the end of
homing keeps it, and so does the parked lens. -/
structure RepliesKept (ps : List Part) (P : State → Prop) : Prop where
  depends : Depends ps P
  aside   : apart ps [.link, .lens, .focus, .status, .steady, .freeCount] = true
  goesOn  : ∀ s, s.partState = .homing → P s → P { s with partState := .running }
  park    : ∀ s, P s → P (checkParked s)

namespace RepliesKept

variable {ps : List Part} {P : State → Prop} (k : RepliesKept ps P)
include k

theorem off {qs : List Part} (h : Changes qs s t) (hq : qs ⊆ [.link, .lens, .focus, .status, .steady, .freeCount])
    (hs : P s) : P t := k.depends.of_changes (h.mono hq) k.aside hs

/-- The end of an exchange, before the lens may be parked. -/
theorem of_ends (h : Changes exchangeParts s t ∧ PartGoesOn s t) (hs : P s) : P t := by
  have beside : ∀ v : State, v = { s with partState := t.partState } → P v → P t := fun v hv hp => by
    refine k.off (qs := [.link, .lens, .focus, .status, .steady]) (fun p hp => ?_) (by decide) hp
    by_cases hq : p = .partState
    · rw [hq, hv]; rfl
    · rw [hv]
      refine ((changes_partState { s with partState := t.partState } s.partState).trans h.1) p ?_
      simp_all [exchangeParts]
  rcases h.2 with e | ⟨hh, e⟩
  · exact beside s (by rw [e]) hs
  · exact beside _ (by rw [e]) (k.goesOn s hh hs)

theorem endMissing (x : Exchange) (hs : P s) : P (endMissing x s) :=
  k.park _ (k.of_ends (deliverMissing_ends x _)
    (k.off ((closeExchange_changes s).trans (setCounters_changes _ _)) (by decide) hs))

theorem endAccepted (x : Exchange) (pl : List Byte) (hs : P s) : P (endAccepted x pl s) :=
  k.park _ (k.of_ends (deliverAccepted_ends x pl _) (k.off (closeExchange_changes s) (by decide) hs))

theorem replyDiscarded (line : List Byte) (hs : P s) : P (replyDiscarded line s) := by
  unfold Machine.replyDiscarded
  split
  · split
    · exact k.off (nextTurn_changes _) (by decide) (k.endMissing _
        (k.off ((countHeader_changes s _ _).trans (setCounters_changes _ _)) (by decide) hs))
    · exact hs
  · exact hs

theorem replyAccepted (sort : Request → Bool) (line : List Byte) (hs : P s) : P (replyAccepted sort line s) := by
  unfold Machine.replyAccepted
  split
  · split
    · split
      · exact k.off (nextTurn_changes _) (by decide) (k.endAccepted _ _ (k.off (countHeader_changes s _ _) (by decide) hs))
      · exact hs
    · exact hs
  · exact hs

theorem roundExpired (hs : P s) : P (roundExpired s) := by
  have ended : P (match s.link.exchange with | some x => Machine.endMissing x s | none => s) := by
    split
    · exact k.endMissing _ hs
    · exact hs
  unfold Machine.roundExpired
  split
  · exact if c : _ then by rw [if_pos c]; exact ended else by
      rw [if_neg c]; exact k.off (beginRound_changes _) (by decide) ended
  · exact hs

theorem settleExpired (id : MotorId) (hs : P s) : P (settleExpired id s) := by
  have idle := k.off (becomeIdle_only s id).changes (by decide) hs
  unfold Machine.settleExpired
  dsimp only
  split
  · refine k.park _ ?_
    split
    · exact k.off (focusArrived_only _).changes (by decide) idle
    · exact idle
  · exact hs

/-- The commands that end an exchange, the round timer and the settle timer keep it. -/
theorem event {c : Instr} {f : State → State} (hc : eventParts c = replyParts) (ho : orderRow c = none)
    (hf : eventOf c = some f) (hs : P s) : P (f s) := by
  cases c
  case roundStart => cases hf; exact k.roundExpired hs
  case replyDiscarded line => cases hf; exact k.replyDiscarded line hs
  case sensed line => cases hf; exact k.replyAccepted _ line hs
  case moved line => cases hf; exact k.replyAccepted _ line hs
  case homed line => cases hf; exact k.replyAccepted _ line hs
  case settleTimeout id => cases hf; exact k.settleExpired id hs
  all_goals simp [eventParts, orderRow, replyParts, evaluationParts] at hc ho

end RepliesKept

/-! ### The crop offsets -/

theorem offsets_replies : RepliesKept [.frames] OffsetsInMargins where
  depends := offsets_depends
  aside := by decide
  goesOn s _ hs := hs
  park s hs := offsets_checkParked hs

theorem offsets_start (hs : OffsetsInMargins s) : OffsetsInMargins (start s) := by
  have frames : OffsetsInMargins (startFrames s) := by
    unfold startFrames
    split
    · exact offsets_freshFrames _ s
    · exact hs
  rw [start_eq]
  refine offsets_off ((changes_lens _ _).trans (startLink_changes _)) rfl ?_
  unfold startBlocks startPools
  exact offsets_off ((changes_partState _ _).trans ((changes_store _ _).trans ((startBanks_changes _).trans
    ((changes_exposure _ _).trans (changes_steady _ _))))) rfl frames

theorem offsets_cutFilling (hs : OffsetsInMargins s) : OffsetsInMargins (cutFilling s) := by
  unfold cutFilling cutRecord
  split
  · exact offsets_off (((releaseBank_changes _ _).trans (latch_changes _ _)).trans (setCounters_changes _ _)) rfl
      (s := setRecord _ _ s) hs
  · exact hs

theorem offsets_stop (hs : OffsetsInMargins s) : OffsetsInMargins (stop s) :=
  offsets_checkParked (offsets_off ((LensOnly.ite (c := (stopStore (cutFilling (cancelHeld
    { s with partState := .parking }))).focus.state.isSearching = true) (failSearch_only _ _) .refl).changes.trans
      (parkLens_only _).changes) rfl (offsets_pins.stopStore (offsets_cutFilling
        (offsets_off ((changes_partState s .parking).trans (cancelHeld_changes _)) rfl hs))))

theorem offsets_setupFrames (p : Posted) (hs : OffsetsInMargins s) : OffsetsInMargins (applySetupFrames p s).1 := by
  unfold applySetupFrames setupFrames
  dsimp only
  split
  · exact hs
  · split
    · exact hs
    · exact offsets_of_zero fun e he => by
        obtain ⟨k, -, rfl⟩ := List.mem_map.mp he
        exact ⟨rfl, rfl⟩

theorem offsets_kept : BlocksKept [.frames] OffsetsInMargins where
  blocks := by decide
  depends := offsets_depends
  assert s h := h
  rise s a := nofun
  event s c f hp ho hf hs := by
    cases c
    case evaluationDone => cases hf; exact offsets_evaluationDone hs
    all_goals first | cases (show true = false from hp) | exact offsets_replies.event rfl ho hf hs | cases ho
  take s o p hp _ hs := by
    cases o
    case setupFrames => exact offsets_depends.answered rfl (offsets_setupFrames p hs)
    case start => exact offsets_depends.answered (apply := applyStart) rfl (by rw [applyStart_fst]; exact offsets_start hs)
    case stop => exact offsets_depends.answered (apply := applyStop) rfl (by rw [applyStop_fst]; exact offsets_stop hs)
    case shoot => exact offsets_pins.takeShoot p hs
    case releaseShot => exact offsets_depends.answered rfl (offsets_pins.applyReleaseShot p hs)
    case closeSlot => exact offsets_depends.answered rfl (offsets_pins.applyCloseSlot p hs)
    all_goals cases (show true = false from hp)
  arrive s t := offsets_arrive t
  failed s o := offsets_off (ownerFailed_changes s o) rfl

/-- Settles O58: the settings are clamped when taken, the split stays between S_min and S_max_eff and below the greatest
gain, the angles are clamped at each sample, and an offset is clamped and made even before it reaches the map. -/
theorem stepKeepsExposureAndSteadyInRange : Obligations.StepKeepsExposureAndSteadyInRange :=
  ⟨fun _ _ => exposure_kept.kept.step, fun _ _ => steady_kept.kept.step, fun _ _ => offsets_kept.kept.step⟩

end Sys2Proof.Machine
end

section
/-! PROOFS. The pool stays divided among map, pins and free list (O59). -/

namespace Sys2Proof.Machine
set_option Elab.async false

variable {s t : State}

/-! ### The Frames block alone -/

theorem stateOf_eq (s : State) (b : Nat) : s.frames.stateOf b = (s.record b).state := rfl

theorem record_state_of_ge {b : Nat} (h : s.frames.table.length ≤ b) : (s.record b).state = .empty := by
  unfold State.record
  rw [List.getD_eq_default _ _ h]
  rfl

theorem phys_mem_mapped {k : Nat} (h : k < s.frames.map.length) : s.phys k ∈ s.frames.mapped := by
  unfold State.phys State.entry Frames.mapped
  rw [List.getD_eq_getElem _ _ h]
  exact List.mem_map.mpr ⟨_, List.getElem_mem h, rfl⟩

theorem owner_isSome_iff (b : Nat) : (s.owner b).isSome = true ↔ b ∈ s.frames.mapped := by
  unfold State.owner Frames.mapped
  rw [List.findIdx?_isSome, List.any_eq_true]
  simp only [List.mem_map, beq_iff_eq]

theorem setRecord_stateOf (b : Nat) (f : FrameRecord) (c : Nat) :
    (setRecord b f s).frames.stateOf c = (s.record c).state ∨ (c = b ∧ (setRecord b f s).frames.stateOf c = f.state) := by
  rw [stateOf_eq]
  by_cases hc : c = b
  · subst hc
    by_cases hb : c < s.frames.table.length
    · exact .inr ⟨rfl, by rw [record_setRecord s hb]⟩
    · have same : (setRecord c f s).frames.table.length ≤ c := by simpa [setRecord] using Nat.le_of_not_lt hb
      exact .inl (by rw [record_state_of_ge same, record_state_of_ge (Nat.le_of_not_lt hb)])
  · exact .inl (by rw [record_setRecord_of_ne s hc])

namespace PoolDivided

variable {f h : Frames} {g : Geometry}

/-- What counts: the mapped buffers, the free list, the size of the table, and the states of the unmapped records. -/
theorem of_states (d : PoolDivided f g) (map : h.mapped = f.mapped) (free : h.free = f.free)
    (size : h.table.length = f.table.length) (states : ∀ b, b ∉ f.mapped → h.stateOf b = f.stateOf b) :
    PoolDivided h g where
  mapSize := by
    have e := congrArg List.length map
    simp only [Frames.mapped, List.length_map] at e
    rw [e]; exact d.mapSize
  tableSize := size ▸ d.tableSize
  distinct := map ▸ d.distinct
  inPool := map ▸ d.inPool
  rising := free ▸ d.rising
  free b hb := by
    obtain ⟨lt, unmapped, state⟩ := d.free b (free ▸ hb)
    exact ⟨lt, map ▸ unmapped, by rw [states b unmapped]; exact state⟩
  pinned b lt unmapped nofree := by
    rw [map] at unmapped
    rw [states b unmapped]
    exact d.pinned b lt unmapped (free ▸ nofree)

/-- A FILLING record is mapped. -/
theorem mapped_of_filling (d : PoolDivided f g) {b : Nat} (hb : f.stateOf b = .filling) : b ∈ f.mapped := by
  by_contra unmapped
  by_cases lt : b < g.l + g.s
  · by_cases free : b ∈ f.free
    · rcases (d.free b free).2.2 with e | e <;> rw [hb] at e <;> cases e
    · have e := d.pinned b lt unmapped free
      rw [hb] at e; cases e
  · unfold Frames.stateOf at hb
    rw [List.getD_eq_default _ _ (by rw [d.tableSize]; omega)] at hb
    cases hb

end PoolDivided

/-- A pool just set up is divided (R20). -/
theorem freshFrames_divided (g : Geometry) : PoolDivided g.freshFrames g := by
  have mapped : g.freshFrames.mapped = List.range g.l := by
    simp [Frames.mapped, Geometry.freshFrames, List.map_map, Function.comp_def]
  have empty : ∀ b, g.freshFrames.stateOf b = .empty := by
    intro b
    by_cases hb : b < g.l + g.s
    · simp [Frames.stateOf, Geometry.freshFrames, List.getD_eq_getElem?_getD, hb, FrameRecord.empty]
    · simp [Frames.stateOf, Geometry.freshFrames, List.getD_eq_getElem?_getD, hb, FrameRecord.empty]
  have spare : ∀ b, b ∈ g.freshFrames.free ↔ g.l ≤ b ∧ b < g.l + g.s := by
    intro b
    simp only [Geometry.freshFrames, Geometry.spares, List.mem_map, List.mem_range]
    exact ⟨by rintro ⟨a, ha, rfl⟩; omega, fun h => ⟨b - g.l, by omega, by omega⟩⟩
  exact
    { mapSize := by simp [Geometry.freshFrames]
      tableSize := by simp [Geometry.freshFrames]
      distinct := mapped ▸ List.nodup_range
      inPool := fun b hb => by rw [mapped, List.mem_range] at hb; omega
      rising := by
        simp only [Geometry.freshFrames, Geometry.spares, List.pairwise_map]
        exact (List.pairwise_lt_range).imp (by omega)
      free := fun b hb => by
        have := (spare b).mp hb
        exact ⟨this.2, by rw [mapped, List.mem_range]; omega, .inr (empty b)⟩
      pinned := fun b lt unmapped nofree => by
        rw [mapped, List.mem_range] at unmapped
        exact absurd ((spare b).mpr ⟨by omega, lt⟩) nofree }

/-! ### Pins, releases and the target of a frame start -/

theorem divided_setRecord {g : Geometry} (d : PoolDivided s.frames g) {b : Nat} {f : FrameRecord}
    (h : b ∈ s.frames.mapped ∨ f.state = (s.record b).state) : PoolDivided (setRecord b f s).frames g := by
  refine d.of_states rfl rfl (by simp [setRecord]) fun c hc => ?_
  rcases setRecord_stateOf (s := s) b f c with e | ⟨rfl, e⟩
  · exact e
  · rcases h with mapped | same
    · exact absurd mapped hc
    · exact e.trans same

theorem divided_pin {g : Geometry} (d : PoolDivided s.frames g) {b n : Nat} (hp : pin b n s = some t) :
    PoolDivided t.frames g := by
  obtain ⟨complete, -, -, -, rfl⟩ := pin_some s hp
  have state : ∀ c, ((setRecord b { s.record b with state := .pinned } s).frames.stateOf c = (s.record c).state ∧ c ≠ b) ∨
      (c = b ∧ (setRecord b { s.record b with state := .pinned } s).frames.stateOf c = .pinned) := by
    intro c
    by_cases hc : c = b
    · refine .inr ⟨hc, ?_⟩
      rcases setRecord_stateOf (s := s) b { s.record b with state := .pinned } c with e | ⟨-, e⟩
      · subst hc
        have lt : c < s.frames.table.length := by
          by_contra ge
          rw [record_state_of_ge (Nat.le_of_not_lt ge)] at complete
          cases complete
        rw [stateOf_eq, record_setRecord s lt]
      · exact e
    · refine .inl ⟨?_, hc⟩
      rw [stateOf_eq, record_setRecord_of_ne s hc]
  exact
    { mapSize := d.mapSize
      tableSize := by simpa using d.tableSize
      distinct := d.distinct
      inPool := d.inPool
      rising := d.rising.filter _
      free := fun c hc => by
        obtain ⟨mem, ne⟩ := List.mem_filter.mp hc
        obtain ⟨lt, unmapped, st⟩ := d.free c mem
        rcases state c with ⟨e, -⟩ | ⟨rfl, -⟩
        · exact ⟨lt, unmapped, by rw [stateOf_eq] at st; exact e.symm ▸ st⟩
        · simp at ne
      pinned := fun c lt unmapped nofree => by
        rcases state c with ⟨e, ne⟩ | ⟨-, e⟩
        · have old : c ∉ s.frames.free := fun mem => nofree (List.mem_filter.mpr ⟨mem, by simpa using ne⟩)
          exact e.trans (d.pinned c lt unmapped old)
        · exact e }

theorem divided_release {g : Geometry} (d : PoolDivided s.frames g) (b : Nat) : PoolDivided (release b s).frames g := by
  rcases release_cases s b with ⟨-, e⟩ | ⟨pinned, e⟩ <;> rw [e]
  · exact d
  · have lt : b < s.frames.table.length := by
      by_contra ge
      rw [record_state_of_ge (Nat.le_of_not_lt ge)] at pinned
      cases pinned
    by_cases mapped : b ∈ s.frames.mapped
    · rw [if_pos ((owner_isSome_iff b).mpr mapped)]
      exact divided_setRecord (f := { s.record b with state := .complete }) d (.inl mapped)
    · rw [if_neg fun h => mapped ((owner_isSome_iff b).mp h)]
      have other : ∀ c, c ≠ b → (setRecord b { s.record b with state := .complete } s).frames.stateOf c =
          (s.record c).state := fun c hc => by rw [stateOf_eq, record_setRecord_of_ne s hc]
      exact
        { mapSize := d.mapSize
          tableSize := by simpa using d.tableSize
          distinct := d.distinct
          inPool := d.inPool
          rising := insertFree_rising d.rising
          free := fun c hc => by
            by_cases hb : c = b
            · subst hb
              exact ⟨d.tableSize ▸ lt, mapped, .inl (by
                show (setRecord c { s.record c with state := .complete } s).frames.stateOf c = _
                rw [stateOf_eq, record_setRecord s lt])⟩
            · obtain ⟨lt', unmapped, st⟩ := d.free c ((mem_insertFree.mp hc).resolve_left hb)
              exact ⟨lt', unmapped, by rw [stateOf_eq] at st; exact (other c hb).symm ▸ st⟩
          pinned := fun c lt' unmapped nofree => by
            have hb : c ≠ b := fun h => nofree (mem_insertFree.mpr (.inl h))
            exact (other c hb).trans (d.pinned c lt' unmapped fun h => nofree (mem_insertFree.mpr (.inr h))) }

/-- A remapped target is the lowest free buffer, and the pinned one leaves the map (R26). -/
theorem divided_remap {g : Geometry} (d : PoolDivided s.frames g) {k : Nat} (hk : k < s.frames.map.length)
    (hr : remap k s = some t) : PoolDivided t.frames g := by
  simp only [remap] at hr
  split at hr
  · next pinned =>
    split at hr
    · next f rest hf =>
      cases hr
      have rising := d.rising
      rw [hf] at rising
      obtain ⟨lowest, rising⟩ := List.pairwise_cons.mp rising
      obtain ⟨lt, unmapped, -⟩ := d.free f (by rw [hf]; exact List.mem_cons_self ..)
      have mapped : (setEntry k { s.entry k with phys := f } (setFree rest s)).frames.mapped = s.frames.mapped.set k f := by
        simp [Frames.mapped, setEntry, setFree, List.map_set]
      have old : s.frames.mapped[k]? = some (s.phys k) := by
        simp [Frames.mapped, State.phys, State.entry, hk]
      have stays : ∀ b, b ∈ s.frames.mapped → b ≠ s.phys k → b ∈ s.frames.mapped.set k f := by
        intro b hb hne
        obtain ⟨i, hi⟩ := List.mem_iff_getElem?.mp hb
        refine List.mem_iff_getElem?.mpr ⟨i, ?_⟩
        rw [List.getElem?_set_ne fun e => hne (by subst e; rw [hi] at old; exact Option.some.inj old)]
        exact hi
      have member : ∀ b, b ∈ s.frames.mapped.set k f → b ∈ s.frames.mapped ∨ b = f := fun b =>
        List.mem_or_eq_of_mem_set
      have self : f ∈ s.frames.mapped.set k f := List.mem_iff_getElem?.mpr
        ⟨k, List.getElem?_set_self (by simpa [Frames.mapped] using hk)⟩
      exact
        { mapSize := by simpa [setEntry, setFree] using d.mapSize
          tableSize := d.tableSize
          distinct := by
            rw [mapped]
            exact d.distinct.set unmapped
          inPool := fun b hb => by
            rw [mapped] at hb
            rcases member b hb with h | rfl
            · exact d.inPool b h
            · exact lt
          rising := rising
          free := fun b hb => by
            have hb : b ∈ rest := hb
            obtain ⟨lt', unmapped', st⟩ := d.free b (by rw [hf]; exact List.mem_cons_of_mem _ hb)
            refine ⟨lt', fun h => ?_, st⟩
            rw [mapped] at h
            rcases member b h with h | rfl
            · exact unmapped' h
            · exact absurd (lowest b hb) (by omega)
          pinned := fun b lt' unmapped' nofree => by
            rw [mapped] at unmapped'
            by_cases hb : b = s.phys k
            · subst hb; exact pinned
            · refine d.pinned b lt' (fun h => unmapped' (stays b h hb)) fun h => ?_
              rw [hf] at h
              rcases List.mem_cons.mp h with rfl | h
              · exact unmapped' self
              · exact nofree h }
    · cases hr
  · cases hr; exact d

/-! ### Filling a frame -/

/-- The pool of geometry `g` is divided, and buffer `b` is mapped. -/
def Divided (g : Geometry) (b : Nat) (s : State) : Prop :=
  s.frames.geometry = some g ∧ PoolDivided s.frames g ∧ b ∈ s.frames.mapped

theorem divided_setEntry {g : Geometry} {b : Nat} (k : Nat) (ox oy : Int) (h : Divided g b s) :
    Divided g b (setEntry k { s.entry k with ox := ox, oy := oy } s) := by
  obtain ⟨hg, d, hb⟩ := h
  have mapped : (setEntry k { s.entry k with ox := ox, oy := oy } s).frames.mapped = s.frames.mapped := by
    by_cases hk : k < s.frames.map.length
    · have old : s.phys k = s.frames.mapped[k]'(by simpa [Frames.mapped] using hk) := by
        simp [Frames.mapped, State.phys, State.entry, hk]
      show (s.frames.map.set k _).map MapEntry.phys = s.frames.mapped
      rw [List.map_set]
      show s.frames.mapped.set k (s.phys k) = _
      rw [old, List.set_getElem_self]
    · simp [Frames.mapped, setEntry, List.set_eq_of_length_le (Nat.le_of_not_lt hk)]
  exact ⟨hg, d.of_states mapped rfl rfl fun _ _ => rfl, mapped ▸ hb⟩

theorem divided_fill (g : Geometry) (b : Nat) : FillKept [.frames] g b (Divided g b) where
  depends s t h hs := by
    have e : t.frames = s.frames := h .frames (by decide)
    unfold Divided
    rw [e]
    exact hs
  off := by decide
  pin s t b n ht hs := by
    have kept := divided_pin hs.2.1 ht
    rw [(pin_some s ht).2.2.2.2] at kept ⊢
    exact ⟨hs.1, kept, hs.2.2⟩
  release s c hs := by
    have kept := divided_release hs.2.1 c
    rcases release_cases s c with ⟨-, e⟩ | ⟨-, e⟩ <;> rw [e] at kept ⊢
    · exact hs
    · exact ⟨hs.1, kept, hs.2.2⟩
  beside := by decide
  record s f hs := ⟨hs.1, divided_setRecord hs.2.1 (.inl hs.2.2), hs.2.2⟩
  crop s k ox oy _ hs := divided_setEntry k ox oy hs
  cut s c f hc hs := ⟨hs.1, divided_setRecord hs.2.1 (.inl (hs.2.1.mapped_of_filling hc)), hs.2.2⟩
  number s n hs := ⟨hs.1, hs.2.1.of_states rfl rfl rfl fun _ _ => rfl, hs.2.2⟩

/-! ### The invariant -/

theorem pool_depends : Depends [.frames, .windows, .partState] PoolHolds := fun s t h hs => by
  have frames : t.frames = s.frames := h .frames (by decide)
  have windows : t.windows = s.windows := h .windows (by decide)
  have part : t.partState = s.partState := h .partState (by decide)
  unfold PoolHolds
  rw [frames, windows, part]
  exact hs

theorem pool_off {qs : List Part} (h : Changes qs s t) (hq : apart [.frames, .windows, .partState] qs = true)
    (hs : PoolHolds s) : PoolHolds t := pool_depends.of_changes h hq hs

/-- A change of the Frames block alone that keeps the geometry and the division. -/
theorem pool_of_divided (hs : PoolHolds s) (ht : t = { s with frames := t.frames })
    (hg : t.frames.geometry = s.frames.geometry)
    (hd : ∀ g, PoolDivided s.frames g → PoolDivided t.frames g) : PoolHolds t := by
  obtain ⟨window, divided⟩ := hs
  have windows : t.windows = s.windows := by rw [ht]
  have part : t.partState = s.partState := by rw [ht]
  refine ⟨fun g h => windows ▸ window g (hg ▸ h), fun h => ?_⟩
  obtain ⟨g, eg, d⟩ := divided (part ▸ h)
  exact ⟨g, hg.trans eg, hd g d⟩

theorem pool_pins : PinsKept [.frames, .windows, .partState] PoolHolds where
  depends := pool_depends
  off := by decide
  pin s t b n ht hs :=
    pool_of_divided hs (by rw [(pin_some s ht).2.2.2.2]) (by rw [(pin_some s ht).2.2.2.2]) fun g d => divided_pin d ht
  release s b hs :=
    pool_of_divided hs (by rcases release_cases s b with ⟨-, e⟩ | ⟨-, e⟩ <;> rw [e])
      (by rcases release_cases s b with ⟨-, e⟩ | ⟨-, e⟩ <;> rw [e]) fun g d => divided_release d b

/-- Outside HOMING and RUNNING only the window counts (R38). -/
theorem pool_of_idle (window : ∀ g, s.frames.geometry = some g →
      ∃ w, s.windows.raw = some w ∧ w.size = g.l * w.bufsz ∧ 0 < w.bufsz)
    (h1 : s.partState ≠ .homing) (h2 : s.partState ≠ .running) : PoolHolds s :=
  ⟨window, fun h => absurd h (by simp [h1, h2])⟩

theorem rebuilt_geometry (f : Frames) : f.rebuilt.geometry = f.geometry := by
  unfold Frames.rebuilt
  split
  · rfl
  · rfl

theorem pool_checkParked (hs : PoolHolds s) : PoolHolds (checkParked s) := by
  unfold checkParked
  split
  · refine pool_of_idle (fun g hg => hs.1 g ?_) nofun nofun
    rw [← rebuilt_geometry]
    exact hg
  · exact hs

theorem pool_replies : RepliesKept [.frames, .windows, .partState] PoolHolds where
  depends := pool_depends
  aside := by decide
  goesOn s h hs := ⟨hs.1, fun _ => hs.2 (.inl h)⟩
  park s hs := pool_checkParked hs

theorem pool_evaluationDone (hs : PoolHolds s) : PoolHolds (evaluationDone s) := by
  have dropped : ∀ b id u, PoolHolds u → PoolHolds (dropBankField b id u) := by
    intro b id u hu
    unfold dropBankField
    split
    · exact pool_of_divided hu rfl rfl fun g d => divided_setRecord d (.inr rfl)
    · exact hu
  unfold evaluationDone
  split
  · exact hs
  · split
    · unfold evaluate
      exact pool_off (beginResult_changes _ _ _) rfl (dropped _ _ _ (pool_off (((exposureEvaluate_changes s _ _).trans
        (focusEvaluate_only _ _ _ _ _).changes).trans (setBank_changes _ _ _)) rfl hs))
    · exact hs

/-- The RAW window that handles an address is the one set up, in RUNNING, and holds the address (R6). -/
theorem decodeAddress_raw {a : Nat} {w : RawWindow} (h : s.decodeAddress a = .raw w) :
    s.partState = .running ∧ s.windows.raw = some w ∧ w.base ≤ a ∧ a < w.base + w.size := by
  unfold State.decodeAddress at h
  dsimp only at h
  split at h
  · cases h
  · split at h
    · next r hr =>
      cases h
      split at hr
      · next running =>
        obtain ⟨raw, has⟩ := Option.filter_eq_some_iff.mp hr
        exact ⟨running, raw, of_decide_eq_true has⟩
      · simp [within] at hr
    all_goals cases h

/-- The logical buffer of an address in the RAW window is one of the map (R8). -/
theorem raw_buffer_mapped (hs : PoolHolds s) {a : Nat} {w : RawWindow} {g : Geometry} (hw : s.decodeAddress a = .raw w)
    (hg : s.frames.geometry = some g) : PoolDivided s.frames g ∧ (a - w.base) / w.bufsz < s.frames.map.length := by
  obtain ⟨running, raw, low, high⟩ := decodeAddress_raw hw
  obtain ⟨g', eg, d⟩ := hs.2 (.inr running)
  cases hg.symm.trans eg
  obtain ⟨w', raw', size, pos⟩ := hs.1 g hg
  cases raw.symm.trans raw'
  refine ⟨d, ?_⟩
  rw [d.mapSize, Nat.div_lt_iff_lt_mul pos, ← size]
  omega

theorem pool_arrive (t : HostTransaction) (hs : PoolHolds s) : PoolHolds (arrive t s).1 := by
  refine pool_depends.arriveRaw rfl t hs fun w g hw hg => ?_
  obtain ⟨d, hk⟩ := raw_buffer_mapped hs hw hg
  have late : ∀ u, Changes [.status] s u → PoolHolds u := fun u h => pool_off h rfl hs
  have filled : ∀ b u, Changes arrivalParts s u → Divided g b u → PoolHolds u := fun b u h hu =>
    ⟨fun g' hg' => by rw [h.windows_eq]; exact hs.1 g' (hg.trans (hu.1.symm.trans hg')), fun _ => ⟨g, hu.1, hu.2.1⟩⟩
  refine offerRawWrite_keeps late ?_ (filled _ _ ((pixelWrite_changes s g _ _ _ t).mono (by decide))
    ((divided_fill g _).pixelWrite _ _ t ⟨hg, d, phys_mem_mapped hk⟩)) hs
  cases hr : remap ((t.addr.toNat - w.base) / w.bufsz) s with
  | none => unfold frameStart; rw [hr]; exact hs
  | some u =>
    have du := divided_remap d hk hr
    have hk' : (t.addr.toNat - w.base) / w.bufsz < u.frames.map.length := by rw [du.mapSize, ← d.mapSize]; exact hk
    exact filled _ _ (frameStart_changes s g _ t) ((divided_fill g _).frameStart hr rfl
      ⟨(remap_geometry hr).trans hg, du, phys_mem_mapped hk'⟩)

theorem bufsz_pos {g : Geometry} (h : g.ok = true) : 0 < g.bufsz := by
  simp only [Geometry.ok, Bool.and_eq_true, decide_eq_true_eq] at h
  obtain ⟨⟨⟨⟨width, -⟩, stride⟩, -⟩, -⟩ := h
  have area : 1 ≤ g.stride * (g.h + 1) := Nat.mul_pos (by omega) (by omega)
  unfold Geometry.bufsz
  omega

theorem pool_setupFrames (p : Posted) (idle : s.partState = .config) (hs : PoolHolds s) :
    PoolHolds (applySetupFrames p s).1 := by
  unfold applySetupFrames setupFrames
  dsimp only
  split
  · exact hs
  · next ok =>
    split
    · exact hs
    · refine pool_of_idle (fun g hg => ?_) (by simp [dropWaitingBanks, idle]) (by simp [dropWaitingBanks, idle])
      cases hg
      exact ⟨_, rfl, rfl, bufsz_pos (by simpa using ok)⟩

theorem pool_start (setUp : s.frames.geometry.isSome = true) (hs : PoolHolds s) : PoolHolds (start s) := by
  obtain ⟨g, hg⟩ := Option.isSome_iff_exists.mp setUp
  have frames : (startFrames s).frames = g.freshFrames := by unfold startFrames; rw [hg]
  have homing : PoolHolds { startFrames s with partState := .homing } := by
    refine ⟨fun g' hg' => ?_, fun _ => ⟨g, by show (startFrames s).frames.geometry = _; rw [frames]; rfl, ?_⟩⟩
    · rw [show (startFrames s).frames = _ from frames] at hg'
      cases hg'
      show ∃ w, (startFrames s).windows.raw = some w ∧ _
      rw [(startFrames_changes s).windows_eq]
      exact hs.1 g hg
    · show PoolDivided (startFrames s).frames g
      rw [frames]
      exact freshFrames_divided g
  rw [start_eq]
  refine pool_off ((changes_lens _ _).trans (startLink_changes _)) rfl ?_
  unfold startBlocks startPools
  exact pool_off ((changes_store _ _).trans ((startBanks_changes _).trans ((changes_exposure _ _).trans
    (changes_steady _ _)))) rfl homing

theorem pool_stop (hs : PoolHolds s) : PoolHolds (stop s) := by
  have parking : PoolHolds { s with partState := .parking } := pool_of_idle hs.1 nofun nofun
  have cut : ∀ u, u.partState = .parking → PoolHolds u → PoolHolds (cutFilling u) := by
    intro u hu hp
    refine pool_of_idle (fun g hg => ?_) (by rw [(cutFilling_changes u).partState_eq, hu]; nofun)
      (by rw [(cutFilling_changes u).partState_eq, hu]; nofun)
    rw [(cutFilling_changes u).windows_eq]
    refine hp.1 g ?_
    rw [← hg]
    unfold cutFilling cutRecord
    split
    · exact (((releaseBank_changes _ _).trans (latch_changes _ _)).trans (setCounters_changes _ _)).frames_eq.symm ▸ rfl
    · rfl
  have cancelled := pool_off (cancelHeld_changes { s with partState := .parking }) rfl parking
  exact pool_checkParked (pool_off ((stopFocus_changes _).trans (parkLens_only _).changes) rfl (pool_pins.stopStore
    (cut _ (cancelHeld_changes { s with partState := .parking }).partState_eq cancelled)))

theorem pool_kept : BlocksKept [.frames, .windows, .partState] PoolHolds where
  blocks := by decide
  depends := pool_depends
  assert s h := h
  rise s a := ⟨nofun, fun h => by rcases h with h | h <;> cases h⟩
  event s c f hp ho hf hs := by
    cases c
    case evaluationDone => cases hf; exact pool_evaluationDone hs
    all_goals first | cases (show true = false from hp) | exact pool_replies.event rfl ho hf hs | cases ho
  take s o p hp allowed hs := by
    cases o
    case setupFrames => exact pool_depends.answered rfl (pool_setupFrames p (by simpa [Order.allowed] using allowed) hs)
    case start =>
      have setUp : s.frames.geometry.isSome = true := by
        simp only [Order.allowed, Bool.and_eq_true] at allowed
        exact allowed.2
      exact pool_depends.answered (apply := applyStart) rfl (by rw [applyStart_fst]; exact pool_start setUp hs)
    case stop => exact pool_depends.answered (apply := applyStop) rfl (by rw [applyStop_fst]; exact pool_stop hs)
    case setupStore =>
      refine pool_depends.answered (apply := applySetupStore) rfl ?_
      unfold applySetupStore
      dsimp only
      split
      · exact hs
      · split
        · exact pool_off (latchIf_changes _ _ _) rfl ⟨hs.1, hs.2⟩
        · exact hs
    case shoot => exact pool_pins.takeShoot p hs
    case releaseShot => exact pool_depends.answered rfl (pool_pins.applyReleaseShot p hs)
    case closeSlot => exact pool_depends.answered rfl (pool_pins.applyCloseSlot p hs)
    all_goals cases (show true = false from hp)
  arrive s t := pool_arrive t
  failed s o := pool_off (ownerFailed_changes s o) rfl

/-- Settles O59: a pin takes its buffer off the free list, a release puts an unmapped one back in its place, a remap
exchanges the pinned target for the lowest free buffer, and only mapped buffers fill or are cut. -/
theorem stepKeepsThePoolDivided : Obligations.StepKeepsThePoolDivided := fun _ _ => pool_kept.kept.step

end Sys2Proof.Machine
end

section
/-! PROOFS. The step, the resets and the arrival of host transactions. -/

namespace Sys2Proof.Machine
set_option Elab.async false

variable {s : State}

/-! ### The step -/

/-- No reply's header is due before its 2 µs have passed (R129). -/
theorem headerDue_of_early
    (h : ∀ x hd, s.link.exchange = some x → x.state = .reading hd → x.headerIn = false →
      (s.partTime - x.pollBase).toNat < 2) : s.headerDue = none := by
  refine Option.eq_none_iff_forall_ne_some.mpr fun ⟨x, hd⟩ due => ?_
  obtain ⟨hx, hs, hi, ht⟩ := (headerDue_iff s x hd).mp due
  exact absurd (h x hd hx hs hi) (Nat.not_lt.mpr ht)

theorem step_of_empty (hp : s.pending = []) (hr : s.resetN = true) :
    step s = .next (takeDueHeader { s with partTime := s.partTime + 1 }) := by
  simp only [step, hp, tick, hr, if_true]

/-- Settles O1: `step` is the match it states; a microsecond takes the header that comes in, if one is due. -/
theorem stepRunsTheFrontCommand : Obligations.StepRunsTheFrontCommand := by
  intro s
  refine ⟨fun c rest hp => ?_, fun hp hr => ?_, fun hp hr early => ?_, fun x h hp hr hx hs hi ht => ?_⟩
  · simp only [step, hp]
  · simp [step, hp, tick, hr]
  · rw [step_of_empty hp hr, takeDueHeader_of_none _ (headerDue_of_early early)]
  · refine ⟨_, step_of_empty hp hr, ?_⟩
    rw [settled_takeDueHeader _ ((headerDue_iff { s with partTime := s.partTime + 1 } x h).mpr ⟨hx, hs, hi, ht⟩), headerComesIn, countCorrected_eq]
    rfl

/-! ### Events -/

/-- Out of reset, a command that is one event completes with it (R19). -/
theorem exec_event {c : Instr} {f : State → State} (hc : eventOf c = some f) (hr : s.resetN = true) :
    exec c s = .next (finish s (f s)) := by rw [exec_of_eventOf s hc, event_of_out s hr]

/-- What an event makes of the state, the owners' requests set aside. -/
theorem event_settles {c : Instr} {f : State → State} {t : State} (hc : eventOf c = some f) (hr : s.resetN = true)
    (h : (f s).settled = t.settled) : ∃ u, exec c s = .next u ∧ u.settled = t.settled :=
  ⟨_, exec_event hc hr, by rw [settled_finish, h]⟩

/-- Settles O24: the two timers of an exchange, by the state they find. -/
theorem requestSentThenPolled : Obligations.RequestSentThenPolled := by
  intro s x h hr hx
  refine ⟨fun hs => event_settles rfl hr ?_, fun hs ht => event_settles rfl hr ?_⟩
  · simp only [requestSent, hx, hs, if_true, setLink]
  · have late : 8 ≤ elapsed s.partTime x.pollBase := ht
    simp only [pollExpired, hx, hs, late, and_self, if_true, pollReads]
    split <;> simp_all [setLink]

/-! ### Resets -/

/-- Settles O3: each event but the rise asks for RESET_N first, and the assertion drops the work by its definition. -/
theorem resetAssertDropsWork : Obligations.ResetAssertDropsWork := by
  refine ⟨fun c s hr hc => ?_, fun s hr => ⟨resetAsserted s, ?_, ?_⟩⟩
  · cases h : eventOf c with
    | some f => rw [exec_of_eventOf s h, event_of_reset s hr]
    | none =>
      cases c
      case resetNRise a => exact absurd rfl (hc a)
      case resetNAssert => simp [exec, execResetNAssert, hr]
      case arbiterTurn => simp [exec, execArbiterTurn, portEvent, hr]
      case memoryCompletion => simp [exec, execMemoryCompletion, portEvent, hr]
      case memoryTimeout => simp [exec, execMemoryTimeout, portEvent, hr]
      all_goals cases h
  · simp [exec, execResetNAssert, hr]
  · exact ⟨rfl, rfl, rfl, rfl, rfl, rfl, rfl, rfl, rfl, rfl, rfl, rfl, rfl, rfl, rfl, rfl, rfl, rfl, rfl, rfl, rfl, rfl,
      rfl, rfl, rfl⟩

theorem exec_resetNRise (a : BitVec 3) (hr : s.resetN = false) :
    exec (.resetNRise a) s = .next (requestAll (resetRisen a s)) := by
  simp [exec, execResetNRise, hr]

/-- What the owners ask for keeps the own transactions asked for before (R3). -/
theorem requestAll_own (s : State) : (requestStatus s).port.own <+: (requestAll s).port.own := by
  have reply : ∀ u : State, u.port.own <+: (requestReply u).port.own := by
    intro u
    rcases requestReply_cases u with h | ⟨a, n, bs, ms, h⟩ <;> rw [h]
    exact List.prefix_append _ _
  have store : ∀ u : State, u.port.own <+: (requestStore u).port.own := by
    intro u
    rcases requestStore_cases u with h | ⟨a, d, n, bs, ms, fc, r, sd, ld, h⟩ <;> rw [h]
    exact List.prefix_append _ _
  exact (reply _).trans (store _)

/-- After the rise the Status unit is the first to ask (R177). -/
theorem resetRisen_own (a : BitVec 3) (s : State) :
    ∃ x rest, (requestAll (resetRisen a s)).port.own = x :: rest ∧ x.owner = .status ∧
      x.addr = anchorAddress a + 0x600 := by
  obtain ⟨rest, h⟩ := requestAll_own (resetRisen a s)
  exact ⟨_, rest, h.symm, rfl, rfl⟩

theorem alertMaskDefault_bit (b : LatchedBit) : alertMaskDefault.getLsbD b.index = decide (b.kind = .fault) := by
  cases b <;> decide

/-- Settles O2: the reset values by definition, and the Status unit's request before any other. -/
theorem resetRiseGivesResetValues : Obligations.ResetRiseGivesResetValues := by
  intro s a hr
  refine ⟨_, exec_resetNRise a hr, ?_⟩
  simp only [requestAll_resetN, requestAll_partTime, requestAll_partState, requestAll_attn, requestAll_windows,
    requestAll_port_inbound, requestAll_port_view, requestAll_port_flight, requestAll_frames, requestAll_stats,
    requestAll_exposure, requestAll_focus, requestAll_lens, requestAll_link, requestAll_steady, requestAll_store_shots,
    requestAll_store_slots, requestAll_store_inflight, requestAll_store_closeQueue, requestAll_store_lastId,
    requestAll_store_recent, requestAll_orders_queue, requestAll_orders_hold, requestAll_orders_shadow,
    requestAll_status_latched, requestAll_status_counters, requestAll_status_published, requestAll_status_mask,
    requestAll_pending, requestAll_hostOut]
  have motors : ∀ id m, m = (requestAll (resetRisen a s)).motor id → m = Motor.unhomed := by
    intro id m hm
    rw [hm]
    cases id <;> simp only [State.motor, requestAll_lens] <;> rfl
  refine ⟨rfl, rfl, rfl, rfl, rfl, rfl, rfl, rfl, resetRisen_own a s, rfl, ⟨rfl, rfl, rfl, rfl, rfl, rfl⟩, rfl, rfl,
    ⟨rfl, rfl, rfl, fun id m hm => ?_⟩, ⟨rfl, rfl, rfl, rfl, rfl, rfl, rfl, rfl, rfl, rfl, rfl⟩, rfl,
    ⟨rfl, rfl, rfl, rfl, rfl, rfl⟩, ⟨rfl, rfl, rfl⟩, ⟨rfl, rfl, rfl, fun b => ?_⟩, rfl, rfl⟩
  · rw [motors id m hm]
    exact ⟨rfl, rfl, rfl, rfl, rfl, rfl, rfl, rfl, rfl, rfl, rfl, rfl, rfl⟩
  · exact alertMaskDefault_bit b

theorem turns_reset : BanksTakeTurns State.reset := (turns_iff .bank0).mpr (.of_idle (.inl rfl) nofun)

/-- Settles O60: every queue is empty, every table has its fixed size, no bank works and no frames are set up. -/
theorem invariantsHoldAtReset : Obligations.InvariantsHoldAtReset := by
  refine ⟨fun id => ?_, turns_reset, ?_, ?_, exposure_reset, steady_reset, nofun, nofun, nofun⟩
  · cases id <;> exact ⟨Nat.zero_le _, Nat.zero_le _, Nat.zero_le _⟩
  · exact { inbound := by decide, queue := by decide, hold := by decide, shadow := List.length_replicate
            image := by decide, dirty := by decide, carried := nofun, history := by decide, trail := by decide
            recent := by decide, shots := by decide, shotDirty := by decide, slotDirty := by decide
            knots := by decide, weights := by decide }
  · have empty : ∀ b, (State.reset.record b).state ≠ .filling := fun b => nofun
    exact { one := fun o => by cases o <;> decide
            writer := nofun, turns := turns_reset
            single := fun b c hb => absurd hb (empty b), filling := fun _ b id hb => absurd hb (empty b) }

end Sys2Proof.Machine
end

section
/-! PROOFS. The arrival of host transactions, the arbiter's turns and the writes into the windows. -/

namespace Sys2Proof.Machine
set_option Elab.async false

variable {s u : State}

/-! ### The inbound queue -/

/-- A well-formed head leaves the queue as it is, whatever waits behind it (R1). -/
theorem splitMalformed_cons_of_wellFormed {t : HostTransaction} (ts : List HostTransaction) (h : isMalformed t = false) :
    splitMalformed (t :: ts) = ([], t :: ts) := by
  simp only [splitMalformed, h, Bool.false_eq_true, if_false]

theorem flushMalformed_of_split {ts : List HostTransaction} (hq : s.port.inbound = ts)
    (h : splitMalformed ts = ([], ts)) : flushMalformed s = s := by
  subst hq
  simp only [flushMalformed, h, List.append_nil]

/-- Settles O4: the tail of a queue with room, and its malformed head completed at once. -/
theorem hostTransactionJoinsTheQueue : Obligations.HostTransactionJoinsTheQueue := by
  intro s t hr wf
  refine ⟨_, exec_event (f := acceptHost t) rfl hr, fun full => ?_, fun room kept => ?_, fun bad empty => ?_⟩
  all_goals rw [settled_finish]
  · rw [acceptHost, if_neg (Nat.not_lt.mpr full)]
  · have split : splitMalformed (s.port.inbound ++ [t]) = ([], s.port.inbound ++ [t]) := by
      cases hq : s.port.inbound with
      | nil =>
        rcases kept with good | nonempty
        · exact splitMalformed_cons_of_wellFormed [] good
        · exact absurd hq nonempty
      | cons x xs => exact splitMalformed_cons_of_wellFormed (xs ++ [t]) (wf x (by simp [hq]))
    rw [acceptHost, if_pos room, flushMalformed_of_split rfl split]
    rfl
  · simp only [acceptHost, empty, List.length_nil, flushMalformed, splitMalformed, bad, setPort, List.nil_append]
    simp [State.settled, empty]

/-! ### Turns -/

/-- Issuing does not look at what `settled` sets aside. -/
theorem issue_settled {s u : State} (h : u.settled = s.settled) (k : FlightKind) (a : Nat) (d : Direction) (n : Nat)
    (bs : List Byte) (ms : List Bool) :
    (issue k a d n bs ms u).settled = (issue k a d n bs ms s).settled :=
  (congrArg (fun w => (issue k a d n bs ms w).settled) h :)

/-- The owners' requests join the tail of the own queue, stamped now (R3). -/
theorem requestAll_appends (s : State) :
    ∃ l, (requestAll s).port.own = s.port.own ++ l ∧ ∀ x ∈ l, x.requested = s.partTime := by
  have status : ∃ l, (requestStatus s).port.own = s.port.own ++ l ∧ ∀ x ∈ l, x.requested = s.partTime := by
    rcases requestStatus_cases s with h | ⟨c, -, h⟩ <;> rw [h]
    · exact ⟨[], by simp, nofun⟩
    · exact ⟨_, rfl, by simp⟩
  have reply : ∀ u : State, ∃ l, (requestReply u).port.own = u.port.own ++ l ∧ ∀ x ∈ l, x.requested = u.partTime := by
    intro u
    rcases requestReply_cases u with h | ⟨a, n, bs, ms, h⟩ <;> rw [h]
    · exact ⟨[], by simp, nofun⟩
    · exact ⟨_, rfl, by simp⟩
  have store : ∀ u : State, ∃ l, (requestStore u).port.own = u.port.own ++ l ∧ ∀ x ∈ l, x.requested = u.partTime := by
    intro u
    rcases requestStore_cases u with h | ⟨a, d, n, bs, ms, fc, r, sd, ld, h⟩ <;> rw [h]
    · exact ⟨[], by simp, nofun⟩
    · exact ⟨_, rfl, by simp⟩
  have time : (requestStatus s).partTime = s.partTime :=
    (congrArg State.partTime (settled_requestStatus s) :)
  have time' : (requestReply (requestStatus s)).partTime = s.partTime :=
    (congrArg State.partTime (settled_requestReply _) :).trans time
  obtain ⟨l, hl, fl⟩ := status
  obtain ⟨m, hm, fm⟩ := reply (requestStatus s)
  obtain ⟨n, hn, fn⟩ := store (requestReply (requestStatus s))
  refine ⟨l ++ m ++ n, ?_, fun x hx => ?_⟩
  · rw [requestAll, hn, hm, hl, List.append_assoc, List.append_assoc, List.append_assoc]
  · simp only [List.mem_append] at hx
    rcases hx with (h | h) | h
    · exact fl x h
    · exact (fm x h).trans time
    · exact (fn x h).trans time'

/-- With no own transaction that has waited 20 µs, none has after the requests made at the turn (R16). -/
theorem agedOwn_requestAll (h : ∀ x ∈ s.port.own.head?, elapsed s.partTime x.requested < 20) :
    (requestAll s).agedOwn = none := by
  obtain ⟨l, hl, fresh⟩ := requestAll_appends s
  unfold State.agedOwn
  rw [hl, requestAll_partTime]
  split
  · next x rest hq =>
    rw [if_neg]
    have waited : elapsed s.partTime x.requested < 20 := by
      cases ho : s.port.own with
      | nil =>
        rw [ho, List.nil_append] at hq
        rw [fresh x (by simp [hq])]
        simp [elapsed]
      | cons y ys =>
        rw [ho] at hq
        cases hq
        exact h x (by simp [ho])
    omega
  · rfl

/-- An idle port out of reset gives a turn. -/
theorem giveTurn_of_idle (hf : s.port.flight = none) (ht : s.port.told = []) :
    giveTurn s = takeTurn (s.port.inbound.length + 1) (requestAll s) := by
  have idle : s.port.idle = true := by simp [Port.idle, hf, ht]
  simp only [giveTurn, idle, if_true]

theorem issueOwn_settled {x : OwnTransaction} (rest : List OwnTransaction) (h : u.settled = s.settled) :
    (issueOwn x rest u).settled = (issued s s.port (.own x.owner) x.addr x.dir x.len x.data x.mask).settled :=
  issue_settled (s := s) (u := setPort { u.port with own := rest } u) h _ _ _ _ _ _

theorem takeTurn_of_agedOwn (n : Nat) {x : OwnTransaction} {rest : List OwnTransaction}
    (h : s.agedOwn = some (x, rest)) : takeTurn (n + 1) s = issueOwn x rest s := by
  simp only [takeTurn, h]

/-- The first turn for a piece of the VIEW read (R11, R16). -/
theorem takeTurn_of_piece (n : Nat) {v : ViewRead} {p : Piece} {ps : List Piece} (h : s.agedOwn = none)
    (hv : s.port.view = some v) (hp : v.pieces = p :: ps) : takeTurn (n + 1) s = issuePiece v p ps s := by
  simp only [takeTurn, h, hv, hp]

/-- The turn of the head host transaction (R16). -/
theorem takeTurn_of_host (n : Nat) {t : HostTransaction} {ts : List HostTransaction} (h : s.agedOwn = none)
    (hv : s.port.view = none) (hq : s.port.inbound = t :: ts) :
    takeTurn (n + 1) s =
      if (carryOut t (arrive t s).2 (arrive t s).1).2 then
        takeTurn n (finish s (carryOut t (arrive t s).2 (arrive t s).1).1)
      else finish s (carryOut t (arrive t s).2 (arrive t s).1).1 := by
  simp only [takeTurn, h, hv, hq]

theorem takeTurn_of_own (n : Nat) (h : s.agedOwn = none) (hv : s.port.view = none) (hq : s.port.inbound = []) :
    takeTurn (n + 1) s = ownTurn s := by
  simp only [takeTurn, h, hv, hq]

/-- Settles O5: the branches of `takeTurn`, after requests that join the own queue at its tail. -/
theorem arbiterTurnFollowsItsOrder : Obligations.ArbiterTurnFollowsItsOrder := by
  intro s hr
  have row := exec_arbiterTurn s hr
  refine ⟨fun busy => by rw [row, giveTurn_of_busy s busy], fun hf ht => ?_⟩
  rw [giveTurn_of_idle hf ht] at row
  obtain ⟨l, hl, -⟩ := requestAll_appends s
  refine ⟨fun x rest ho aged => ⟨_, row, ?_⟩, fun young => ⟨fun v p ps hv hp => ⟨_, row, ?_⟩,
    fun t rest hv hq hd => ⟨_, row, ?_⟩, fun x rest hv hq ho => ⟨_, row, ?_⟩⟩⟩
  · have first : (requestAll s).agedOwn = some (x, rest ++ l) := by
      simp only [State.agedOwn, hl, ho, List.cons_append, requestAll_partTime, if_pos aged]
    rw [takeTurn_of_agedOwn _ first]
    exact issueOwn_settled _ (settled_requestAll s)
  · rw [takeTurn_of_piece _ (agedOwn_requestAll young) (by simpa using hv) hp]
    exact (congrArg (fun w => (issuePiece v p ps w).settled) (settled_requestAll s) :)
  · rw [takeTurn_of_host _ (agedOwn_requestAll young) (by simpa using hv) (by simpa using hq)]
    have same : (requestAll s).decodeAddress t.addr.toNat = .none := by
      simpa only [State.decodeAddress, requestAll_windows, requestAll_partState] using hd
    simp only [arrive, same, carryOut, Bool.false_eq_true, if_false, settled_finish]
    exact issue_settled (settled_requestAll s) _ _ _ _ _ _
  · rw [takeTurn_of_own _ (agedOwn_requestAll young) (by simpa using hv) (by simpa using hq)]
    simp only [ownTurn, hl, ho, List.cons_append]
    exact issueOwn_settled _ (settled_requestAll s)

/-! ### RAW writes -/

/-- What a frame start carries (R25). -/
theorem isFrameStart_iff (o : Nat) (t : HostTransaction) :
    isFrameStart o t = true ↔
      o = 0 ∧ 32 ≤ t.len ∧ (∀ i < 32, t.mask.getD i false = true) ∧ t.data.getD 0 0 = 0x57#8 ∧ t.data.getD 1 0 = 0x4A#8 := by
  have marker : readLe t.data 0 2 = 0x4A57 ↔ t.data.getD 0 0 = 0x57#8 ∧ t.data.getD 1 0 = 0x4A#8 := by
    have b0 := (byteAt t.data 0).isLt
    have b1 := (byteAt t.data 1).isLt
    constructor
    · intro h
      simp only [readLe, Nat.zero_add] at h
      exact ⟨BitVec.eq_of_toNat_eq (show (byteAt t.data 0).toNat = 0x57 by omega),
        BitVec.eq_of_toNat_eq (show (byteAt t.data 1).toNat = 0x4A by omega)⟩
    · rintro ⟨h0, h1⟩
      simp only [readLe, byteAt, h0, h1]
      rfl
  simp only [isFrameStart, Bool.and_eq_true, beq_iff_eq, decide_eq_true_eq, List.all_eq_true, List.mem_range, marker]
  tauto

/-- Settles O8: a write below offset 32 is a frame start or torn. -/
theorem tornHeaderIsDropped : Obligations.TornHeaderIsDropped := by
  intro s g k o t ho torn
  have no : isFrameStart o t ≠ true := by
    rw [Ne, isFrameStart_iff]
    rintro ⟨h0, hlen, hmask, hb0, hb1⟩
    rcases torn with h | h | ⟨i, hi, h⟩ | h | h
    · omega
    · omega
    · rw [hmask i hi] at h; cases h
    · exact h hb0
    · exact h hb1
  simp only [offerRawWrite, ho, if_true, no, tornHeader]
  rfl

end Sys2Proof.Machine
end

section
/-! PROOFS. Writes into the PICTURE window and into the order ring. -/

namespace Sys2Proof.Machine
set_option Elab.async false

variable {s : State}

/-! ### PICTURE writes -/

theorem slot?_setSlot {j : Nat} {x : Slot} (y : Slot) (h : s.slot? j = some x) : (setSlot j y s).slot? j = some y := by
  obtain ⟨hj, -⟩ := List.getElem?_eq_some_iff.mp h
  simp only [State.slot?, setSlot, List.getElem?_set_self hj]

theorem slot?_setSlot_of_ne {i j : Nat} (y : Slot) (h : i ≠ j) : (setSlot j y s).slot? i = s.slot? i := by
  simp only [State.slot?, setSlot, List.getElem?_set_ne h.symm]

/-- Settles O11: the verdict follows the slot's state. -/
theorem pictureWriteNeedsALiveSlot : Obligations.PictureWriteNeedsALiveSlot := by
  intro s j e
  refine ⟨fun x hx live => ?_, fun dead => ?_⟩
  · have others : ∀ y i, i ≠ j → (setSlot j y s).slot? i = s.slot? i := fun y i hi => slot?_setSlot_of_ne y hi
    rcases live with h | h
    · exact ⟨_, by simp only [slotWrite, hx, h], slot?_setSlot _ hx, others _⟩
    · by_cases he : x.high < e
      · refine ⟨setSlot j { x with high := e } s, by simp only [slotWrite, hx, h, if_pos he], ?_, others _⟩
        rw [slot?_setSlot _ hx, Nat.max_eq_right he.le, ← h]
      · refine ⟨s, by simp only [slotWrite, hx, h, if_neg he], ?_, fun _ _ => rfl⟩
        rw [hx, Nat.max_eq_left (by omega), ← h]
  · unfold slotWrite
    dsimp only
    split
    · rfl
    · next x hx =>
      obtain ⟨notReserved, notFilling⟩ := dead x hx
      split
      · next h => exact absurd h notReserved
      · next h => exact absurd h notFilling
      · rfl

/-! ### Writes of the order ring -/

/-- A stretch of a list, by its elements. -/
theorem take_drop_eq {l d : List Byte} {off : Nat} (hl : off + d.length ≤ l.length)
    (h : ∀ j, off ≤ j → j < off + d.length → l.getD j 0 = d.getD (j - off) 0) : (l.drop off).take d.length = d := by
  refine List.ext_getElem (by simp; omega) fun i hi hd => ?_
  have same := h (off + i) (by omega) (by omega)
  rw [Nat.add_sub_cancel_left, List.getD_eq_getElem _ _ (by omega), List.getD_eq_getElem _ _ hd] at same
  simpa using same

/-- A write of one whole order slot includes its post word and no other's (R179). -/
theorem coversPostWord_iff {i j : Nat} : coversPostWord (64 * i) 64 (List.replicate 64 true) j = true ↔ j = i := by
  simp only [coversPostWord, List.all_eq_true, List.mem_range, Bool.and_eq_true, decide_eq_true_eq]
  constructor
  · intro h
    obtain ⟨⟨first, -⟩, -⟩ := h 0 (by omega)
    obtain ⟨⟨-, last⟩, -⟩ := h 3 (by omega)
    omega
  · rintro rfl x hx
    refine ⟨by omega, ?_⟩
    rw [List.getD_replicate _ (by omega)]

/-- A write of one whole order slot with a sequence posts that slot alone (R179). -/
theorem postedSlots_of_slot {i : Nat} {shadow : List Byte} (hi : i < 16) (hs : byteAt shadow (64 * i + 60) ≠ 0) :
    postedSlots shadow (64 * i) 64 (List.replicate 64 true) = [i] := by
  have one : ∀ j ∈ List.range 16, (coversPostWord (64 * i) 64 (List.replicate 64 true) j &&
      byteAt shadow (64 * j + 60) != 0) = (j == i) := by
    intro j _
    by_cases hj : j = i
    · rw [hj, coversPostWord_iff.mpr rfl]; simpa using hs
    · have no := Bool.eq_false_iff.mpr (mt coversPostWord_iff.mp hj)
      rw [no, Bool.false_and]
      exact (beq_eq_false_iff_ne.mpr hj).symm
  rw [postedSlots, List.filter_congr one, List.filter_beq, List.count_eq_one_of_mem List.nodup_range (by simpa using hi)]
  rfl

/-- A ring write with every byte of a slot enabled replaces the slot's bytes (R178). -/
theorem writeBytes_slot {buf data : List Byte} {off : Nat} (hd : data.length = 64) (hf : off + 64 ≤ buf.length) (j : Nat) :
    (writeBytes buf off data (List.replicate 64 true)).getD j 0 =
      if off ≤ j ∧ j < off + 64 then data.getD (j - off) 0 else buf.getD j 0 := by
  by_cases hj : j < buf.length
  · rw [writeBytes_getD _ _ _ _ (by simp [hd]) _ hj, hd]
    refine if_congr ⟨fun ⟨a, b, _⟩ => ⟨a, b⟩, fun ⟨a, b⟩ => ⟨a, b, List.getD_replicate _ (by omega)⟩⟩ rfl rfl
  · rw [if_neg (by omega), List.getD_eq_default _ _ (by rw [writeBytes_length]; omega),
      List.getD_eq_default _ _ (by omega)]

/-- Settles O12: a write of one whole slot enters the shadow and posts that slot. -/
theorem orderSlotWritePosts : Obligations.OrderSlotWritePosts := by
  intro s i t hi hshadow hlen hdata hmask hseq
  have bytes := writeBytes_slot hdata (show 64 * i + 64 ≤ s.orders.shadow.length by omega)
  have posted : postedSlots (writeBytes s.orders.shadow (64 * i) t.data (List.replicate 64 true)) (64 * i) 64
      (List.replicate 64 true) = [i] := by
    refine postedSlots_of_slot hi ?_
    rw [byteAt, bytes, if_pos (by omega), Nat.add_sub_cancel_left]
    exact hseq
  have slot : ((writeBytes s.orders.shadow (64 * i) t.data (List.replicate 64 true)).drop (64 * i)).take 64 = t.data := by
    have := take_drop_eq (l := writeBytes s.orders.shadow (64 * i) t.data (List.replicate 64 true)) (d := t.data)
      (off := 64 * i) (by rw [writeBytes_length]; omega) fun j h1 h2 => by rw [bytes, if_pos (by omega)]
    rwa [hdata] at this
  have shown : showOrderWrite (64 * i) t s = postSlot (setOrders { s.orders with
      shadow := writeBytes s.orders.shadow (64 * i) t.data (List.replicate 64 true) } s) i := by
    simp only [showOrderWrite, hlen, hmask, posted, List.foldl_cons, List.foldl_nil]
  rw [shown]
  refine ⟨fun j => ?_, fun room => ?_, fun full => ?_⟩
  · rw [← bytes]
    unfold postSlot
    dsimp only
    split <;> rfl
  · simp only [postSlot, setOrders_orders, if_pos room, Orders.slotBytes, slot]
    exact ⟨trivial, trivial⟩
  · simp only [postSlot, setOrders_orders, if_neg (Nat.not_lt.mpr full), Orders.slotBytes, slot]
    exact ⟨rfl, rfl, rfl, rfl⟩

end Sys2Proof.Machine
end

section
/-! PROOFS. What the owners request at the end of an event, and how transactions end. -/

namespace Sys2Proof.Machine
set_option Elab.async false

variable {s t u : State}

/-! ### Dirty marks -/

theorem mem_dirtyIndices {l : List Bool} {i : Nat} : i ∈ dirtyIndices l ↔ l.getD i false = true := by
  simp only [dirtyIndices, List.mem_filter, List.mem_range, and_iff_right_iff_imp]
  intro h
  by_contra hi
  rw [List.getD_eq_default _ _ (Nat.not_lt.mp hi)] at h
  cases h

/-- The first dirty entry is the lowest. -/
theorem le_of_dirtyIndices {l : List Bool} {i e : Nat} {rest : List Nat} (h : dirtyIndices l = i :: rest)
    (he : l.getD e false = true) : i ≤ e := by
  have rising : (dirtyIndices l).Pairwise (· < ·) := List.pairwise_lt_range.filter _
  have hm := mem_dirtyIndices.mpr he
  rw [h] at rising hm
  rcases List.mem_cons.mp hm with rfl | hm
  · exact Nat.le_refl _
  · exact (List.rel_of_pairwise_cons rising hm).le

theorem dirtyIndices_ne_nil {l : List Bool} {e : Nat} (he : l.getD e false = true) : dirtyIndices l ≠ [] :=
  List.ne_nil_of_mem (mem_dirtyIndices.mpr he)

theorem getD_set_true {l : List Bool} {e : Nat} (he : e < l.length) : (l.set e true).getD e false = true := by
  rw [List.getD_eq_getElem _ _ (by simpa using he), List.getElem_set_self]

theorem getD_set_of_ne {l : List Bool} {e i : Nat} (b : Bool) (h : i ≠ e) : (l.set i b).getD e false = l.getD e false := by
  simp only [List.getD_eq_getElem?_getD, List.getElem?_set_ne h]

/-! ### Requests -/

/-- The Status unit's request comes first, then the Order unit's, then the Store's (R177). -/
theorem finish_eq (s t : State) :
    ∃ d, (d = true ∨ d = t.status.dirty) ∧
      finish s t = requestStore (requestReply (requestStatus { t with status := { t.status with dirty := d } })) := by
  unfold finish requestAll
  split
  · exact ⟨_, .inr rfl, rfl⟩
  · exact ⟨true, .inl rfl, rfl⟩

/-- The Store requests last, from its own part of the state as the event left it (R175). -/
theorem finish_requestStore (s t : State) : ∃ v, finish s t = requestStore v ∧ v.store = t.store ∧ v.windows = t.windows := by
  obtain ⟨d, -, h⟩ := finish_eq s t
  have first : ∀ u : State, (requestReply (requestStatus u)).store = u.store ∧
      (requestReply (requestStatus u)).windows = u.windows := by
    intro u
    rcases requestStatus_cases u with h | ⟨c, -, h⟩ <;> rw [h]
    · rcases requestReply_cases u with h | ⟨a, n, bs, ms, h⟩ <;> rw [h] <;> exact ⟨rfl, rfl⟩
    · generalize hv : requestOwnWrite .status _ _ _ = v
      have same : v.store = u.store ∧ v.windows = u.windows := by rw [← hv]; exact ⟨rfl, rfl⟩
      rcases requestReply_cases v with h | ⟨a, n, bs, ms, h⟩ <;> rw [h] <;> exact same
  exact ⟨_, h, first _⟩

/-- A dirty shot entry is requested before anything else of the Store (R175). -/
theorem requestStore_shot {e : Nat} {l : List Nat} (hr : u.store.request = none)
    (hd : dirtyIndices u.store.shotDirty = e :: l) :
    (requestStore u).store =
      { u.store with shotDirty := u.store.shotDirty.set e false, request := some (.shotMirror e) } := by
  simp only [requestStore, hr, hd, requestShotMirror]
  rfl

theorem requestStore_slot {j : Nat} {l : List Nat} (hr : u.store.request = none)
    (hs : dirtyIndices u.store.shotDirty = []) (hd : dirtyIndices u.store.slotDirty = j :: l) :
    (requestStore u).store =
      { u.store with slotDirty := u.store.slotDirty.set j false, request := some (.slotMirror j) } := by
  simp only [requestStore, hr, hs, hd, requestSlotMirror]
  rfl

/-- The Order unit requests its dirty entries once none is carried (R185). -/
theorem finish_carried (h : t.orders.carried = none) {i : Nat} (hd : t.orders.dirty.getD i false = true) :
    (finish s t).orders.carried = some t.orders.dirty := by
  have store : ∀ v, (requestStore v).orders = v.orders := by
    intro v
    rcases requestStore_cases v with h | ⟨a, d, n, bs, ms, fc, r, sd, ld, h⟩
    · rw [h]
    · rw [h]; rfl
  have status : ∀ v, (requestStatus v).orders = v.orders := by
    intro v
    rcases requestStatus_cases v with h | ⟨c, -, h⟩
    · rw [h]
    · rw [h]; rfl
  obtain ⟨d, -, e⟩ := finish_eq s t
  rw [e, store]
  generalize hv : requestStatus { t with status := { t.status with dirty := d } } = v
  have same : v.orders = t.orders := by rw [← hv, status]
  obtain ⟨lo, rest, hl⟩ := List.exists_cons_of_ne_nil (dirtyIndices_ne_nil hd)
  simp only [requestReply, same, h, hl]
  rfl

/-- The content of the status block is not changed by the owners' requests. -/
theorem content_finish (s t : State) : (finish s t).content = t.content :=
  (congrArg State.content (settled_finish s t) :)

/-- With none being written and the dirty mark set, a copy of the block as it stands is taken (R198). -/
theorem finish_writing (hw : t.status.writing = none) (hd : t.status.dirty = true) :
    (finish s t).status.writing = some { seq := (t.status.seq + 1) % 65536, content := (finish s t).content } := by
  have store : ∀ v, (requestStore v).status = v.status := by
    intro v
    rcases requestStore_cases v with h | ⟨a, d, n, bs, ms, fc, r, sd, ld, h⟩
    · rw [h]
    · rw [h]; rfl
  have reply : ∀ v, (requestReply v).status = v.status := by
    intro v
    rcases requestReply_cases v with h | ⟨a, n, bs, ms, h⟩
    · rw [h]
    · rw [h]; rfl
  rw [content_finish]
  obtain ⟨d, hd', e⟩ := finish_eq s t
  have dirty : d = true := by rcases hd' with h | h <;> simp [h, hd]
  rw [e, store, reply, dirty]
  simp only [requestStatus, hw]
  rfl

/-! ### Completions to the host -/

theorem flushMalformed_hostOut (s : State) : s.hostOut <+: (flushMalformed s).hostOut := List.prefix_append _ _

/-- The completion of the head host transaction is the first that follows (R1, R2). -/
theorem completeHead_hostOut {x : HostTransaction} {rest : List HostTransaction} (st : Status) (data : List Byte)
    (h : s.port.inbound = x :: rest) :
    s.hostOut ++ [{ tag := x.tag, status := st, data := data }] <+: (completeHead st data s).hostOut := by
  unfold completeHead
  rw [h]
  exact flushMalformed_hostOut (setPort { s.port with inbound := rest, view := none }
    (sendCompletion { tag := x.tag, status := st, data := data } s))

theorem completeHead_prefix (st : Status) (data : List Byte) (s : State) : s.hostOut <+: (completeHead st data s).hostOut := by
  cases h : s.port.inbound with
  | nil => simp [completeHead, h]
  | cons x rest => exact (List.prefix_append _ _).trans (completeHead_hostOut st data h)

theorem endFlight_prefix (x : Flight) (st : Status) (data : List Byte) (s : State) :
    s.hostOut <+: (endFlight x st data s).hostOut := by
  unfold endFlight
  cases x.kind with
  | host picture =>
    refine List.IsPrefix.trans ?_ (completeHead_prefix _ _ _)
    rw [(reportPicture_changes _ x picture st data).hostOut_eq]
    exact List.prefix_refl _
  | piece =>
    dsimp only
    unfold endPiece
    split
    · exact List.prefix_refl _
    · split
      · exact completeHead_prefix _ _ (setPort { s.port with flight := none } s)
      · dsimp only
        split
        · exact completeHead_prefix _ _ (setPort { s.port with flight := none } s)
        · exact List.prefix_refl _
  | own o => rw [(endOwn_changes _ o st data).hostOut_eq (by decide)]; exact List.prefix_refl _

theorem eventOf_hostOut {c : Instr} {f : State → State} (h : eventOf c = some f) (s : State) :
    s.hostOut <+: (f s).hostOut := by
  have changed := eventOf_changes s h
  cases c
  case hostTransactionAccept t =>
    cases h
    show s.hostOut <+: (acceptHost t s).hostOut
    unfold acceptHost
    split
    · exact flushMalformed_hostOut (setPort { s.port with inbound := s.port.inbound ++ [t] } s)
    · exact List.prefix_refl _
  all_goals rw [changed.hostOut_eq (of_decide_eq_true rfl)]

/-- No command takes a completion back: the host's list only grows (R1). -/
theorem hostOut_kept (l : List HostCompletion) : Kept fun s => l <+: s.hostOut where
  pending s _ h := h
  time s _ h := h
  request s h := by simpa using h
  dirty s h := h
  assert s h := h
  rise s a h := h
  event s c f hf _ h := h.trans (eventOf_hostOut hf s)
  header s x hd h := by rw [(headerComesIn_changes s x hd).hostOut_eq]; exact h
  arrive s t _ h := by rw [(arrive_changes s t).hostOut_eq]; exact h
  carry s t hd _ h := by
    unfold carryOut
    split
    · exact h
    · exact h.trans (completeHead_prefix _ _ _)
    · exact h
    · exact h.trans (completeHead_prefix _ _ _)
  own s x rest _ _ h := h
  piece s v p ps _ h := h
  ended s x st data _ _ h := h.trans (endFlight_prefix x st data s)
  late s h := h

end Sys2Proof.Machine
end

section
/-! PROOFS. What every operation of the lens and the focus keeps of their blocks: the settings, the tracking table, the
size of the trail; and that it clears no latched bit. -/

namespace Sys2Proof.Machine
set_option Elab.async false

variable {s t u : State}

/-- The settings, the tracking table and the size of the trail are as before, and no latched bit is cleared. -/
structure Steers (s t : State) : Prop where
  settings : t.lens.settings = s.lens.settings
  knots    : t.lens.knots = s.lens.knots
  area     : t.focus.settings = s.focus.settings
  trail    : s.focus.trail.length ≤ 8 → t.focus.trail.length ≤ 8
  latched  : ∀ i, s.status.latched.getLsbD i = true → t.status.latched.getLsbD i = true

namespace Steers

theorem refl (s : State) : Steers s s := ⟨rfl, rfl, rfl, id, fun _ => id⟩

theorem trans (h : Steers s t) (k : Steers t u) : Steers s u :=
  ⟨k.settings.trans h.settings, k.knots.trans h.knots, k.area.trans h.area, k.trail ∘ h.trail,
    fun i => k.latched i ∘ h.latched i⟩

theorem ite {c : Prop} [Decidable c] (h : Steers s t) (k : Steers s u) : Steers s (if c then t else u) := by
  split <;> assumption

/-- What leaves the two units and the latched bits alone. -/
theorem of_eq (hl : t.lens = s.lens) (hf : t.focus = s.focus) (hs : t.status.latched = s.status.latched) : Steers s t := by
  constructor <;> simp [hl, hf, hs]

theorem setMotor (id : MotorId) (m : Motor) (s : State) : Steers s (setMotor id m s) := by
  refine ⟨by simp, by simp, by simp, by simp, by simp⟩

theorem latch (b : LatchedBit) (s : State) : Steers s (latch b s) :=
  ⟨rfl, rfl, rfl, id, fun i h => by simp only [Machine.latch, BitVec.getLsbD_or, h, Bool.true_or]⟩

theorem latchIf (c : Bool) (b : LatchedBit) (s : State) : Steers s (latchIf c b s) := .ite (latch b s) (.refl s)

theorem setFocusState (st : FocusState) (s : State) : Steers s (setFocusState st s) := ⟨rfl, rfl, rfl, id, fun _ => id⟩

theorem setSearch (r : SearchRecord) (s : State) : Steers s (setSearch r s) := ⟨rfl, rfl, rfl, id, fun _ => id⟩

theorem setSupply (p : Supply) (s : State) : Steers s (setSupply p s) := ⟨rfl, rfl, rfl, id, fun _ => id⟩

theorem setZoomHomed (b : Bool) (s : State) : Steers s (setZoomHomed b s) := ⟨rfl, rfl, rfl, id, fun _ => id⟩

/-! ### Targets and settling -/

theorem becomeIdle (id : MotorId) (s : State) : Steers s (becomeIdle id s) := (setMotor id _ s).trans (latchIf _ _ _)

theorem enterSettling (id : MotorId) (s : State) : Steers s (enterSettling id s) :=
  .ite ((setMotor id _ s).trans (becomeIdle id _)) (setMotor id _ s)

theorem giveTarget (id : MotorId) (clears : Bool) (target : Nat) (s : State) : Steers s (giveTarget id clears target s) := by
  have taken := fun m => setMotor id m s
  have settle := fun m => (setMotor id m s).trans (enterSettling id _)
  unfold Machine.giveTarget
  dsimp only
  split
  · exact .refl s
  · exact .refl s
  · exact .refl s
  · exact .ite (.ite (settle _) (taken _)) (.refl s)
  · exact .ite (taken _) (taken _)
  · exact .ite (settle _) (taken _)
  · exact .ite (taken _) (taken _)

theorem focusArrived (s : State) : Steers s (focusArrived s) := by
  unfold Machine.focusArrived
  dsimp only
  split
  · exact .ite ((setSearch _ s).trans (setFocusState _ _)) (.refl s)
  · exact .ite ((setFocusState _ s).trans (latch _ _)) (.refl s)
  · exact .refl s

theorem giveFocus (clears : Bool) (target : Nat) (s : State) : Steers s (giveFocus clears target s) :=
  (giveTarget .focus clears target s).trans (focusArrived _)

/-! ### The search -/

theorem failSearch (r : FocusFailure) (s : State) : Steers s (failSearch r s) := (setFocusState _ s).trans (latch _ _)

theorem focusMotorLost (s : State) : Steers s (focusMotorLost s) := .ite (failSearch _ s) (.refl s)

theorem zoomChanged (s : State) : Steers s (zoomChanged s) := by
  have told : Steers s (focusOnZoomChange s) := by
    unfold focusOnZoomChange
    split
    · exact failSearch _ s
    · exact setFocusState _ s
    · exact .refl s
  exact told.trans (giveFocus _ _ _)

theorem goSample (pos : Nat) (r : SearchRecord) (s : State) : Steers s (goSample pos r s) :=
  ((setSearch _ s).trans (setFocusState _ _)).trans (giveFocus _ _ _)

theorem fineStep (r : SearchRecord) (b : TrailEntry) (s : State) : Steers s (fineStep r b s) := by
  have final : ∀ d, Steers s { s with focus := { s.focus with d := d, search := some r, state := .searching .final } } :=
    fun d => ⟨rfl, rfl, rfl, id, fun _ => id⟩
  exact (final _).trans (giveFocus _ _ _)

theorem failSearchBack (why : FocusFailure) (r : SearchRecord) (s : State) : Steers s (failSearchBack why r s) :=
  (failSearch why s).trans (giveFocus _ _ _)

theorem rangeEnd (r : SearchRecord) (b : TrailEntry) (s : State) : Steers s (rangeEnd r b s) := by
  unfold Machine.rangeEnd
  exact .ite (goSample _ _ s) (.ite ((setSearch r s).trans (failSearchBack _ _ _)) (fineStep _ _ s))

theorem takeFrame (nf : Nat) (r : SearchRecord) (s : State) : Steers s (takeFrame nf r s) := by
  have joined : ∀ e, Steers s { s with focus := { s.focus with trail := (e :: s.focus.trail).take 8 } } := fun e =>
    ⟨rfl, rfl, rfl, fun _ => List.length_take_le _ _, fun _ => id⟩
  unfold Machine.takeFrame
  exact (joined _).trans (.ite (fineStep _ _ _) (.ite (rangeEnd _ _ _) (goSample _ _ _)))

theorem countFrame (c : Time) (r : SearchRecord) (s : State) : Steers s (countFrame c r s) := by
  unfold Machine.countFrame
  exact .ite (.ite ((setSearch _ s).trans (failSearchBack _ _ _)) (setSearch _ s)) (.refl s)

theorem resolveUnmetered (s : State) : Steers s (resolveUnmetered s) := by
  unfold Machine.resolveUnmetered
  split
  · exact countFrame _ _ s
  · exact .refl s

theorem focusEvaluate (cells : List Nat) (copy : RecordCopy) (level : Nat) (noData : Bool) (s : State) :
    Steers s (focusEvaluate cells copy level noData s).1 := by
  unfold Machine.focusEvaluate
  dsimp only
  split
  · split
    · exact takeFrame _ _ s
    · exact countFrame _ _ s
  · exact .refl s

/-! ### Homing, replies and the supply monitor -/

theorem endOfHoming (s : State) : Steers s (endOfHoming s) := by
  have told : Steers s { s with partState := if s.partState = .homing then .running else s.partState } :=
    .of_eq rfl rfl rfl
  have zoom : ∀ u, Steers u (parkZoom u) := fun u => .ite ((setMotor .zoom _ u).trans (giveTarget _ _ _ _)) (.refl u)
  have focus : ∀ u, Steers u (parkFocus u) := fun u => .ite (giveFocus _ _ u) (.refl u)
  exact ((told.trans (zoom _)).trans (focus _)).trans (setZoomHomed _ _)

theorem leftHoming (id : MotorId) (s : State) : Steers s (leftHoming id s) := by
  cases id with
  | zoom =>
    show Steers s (zoomLeftHoming s)
    unfold zoomLeftHoming
    split
    · exact setMotor .focus _ s
    · exact .refl s
    · exact endOfHoming s
  | focus => exact endOfHoming s

theorem faultMotor (id : MotorId) (m : Motor) (why : MotorFault) (s : State) : Steers s (faultMotor id m why s) := by
  have lost : Steers s (if id = .focus then Machine.focusMotorLost (Machine.latch .lensFault (Machine.setMotor id
      { m with state := .faulted, fault := why, zoomToPending := false } s)) else Machine.latch .lensFault
      (Machine.setMotor id { m with state := .faulted, fault := why, zoomToPending := false } s)) :=
    ((setMotor id _ s).trans (latch _ _)).trans (.ite (focusMotorLost _) (.refl _))
  unfold Machine.faultMotor
  exact .ite (lost.trans (leftHoming id _)) lost

theorem zoomMoved (id : MotorId) (z : Nat) (s : State) : Steers s (zoomMoved id z s) := .ite (zoomChanged s) (.refl s)

theorem compareMotor (id : MotorId) (s : State) : Steers s (compareMotor id s) := by
  unfold Machine.compareMotor
  exact (setMotor id _ s).trans (.ite (.trans (.ite (enterSettling id _) (.refl _)) (focusArrived _))
    (.ite (enterSettling id _) (.refl _)))

theorem movedReply (id : MotorId) (n a : Int) (ref : Bool) (s : State) : Steers s (movedReply id n a ref s) := by
  unfold Machine.movedReply movedHoming movedAway
  exact .ite (.ite (setMotor id _ s) (.ite (faultMotor id _ _ s) (setMotor id _ s)))
    (.ite ((faultMotor id _ _ s).trans (zoomMoved _ _ _))
      (((setMotor id _ s).trans (zoomMoved _ _ _)).trans (compareMotor _ _)))

theorem homedReply (id : MotorId) (s : State) : Steers s (homedReply id s) := by
  unfold Machine.homedReply
  dsimp only
  split
  · cases id
    · exact (((setMotor .zoom _ s).trans (setZoomHomed true _)).trans (zoomChanged _)).trans (leftHoming .zoom _)
    · exact (setMotor .focus _ s).trans (leftHoming .focus _)
  · exact .refl s

theorem motorMissing (id : MotorId) (r : Request) (s : State) : Steers s (motorMissing id r s) := by
  unfold Machine.motorMissing
  split
  · unfold movedMissing
    dsimp only
    split <;> exact setMotor id _ s
  · exact .refl s

theorem stallMotors (s : State) : Steers s (stallMotors s) := by
  have stopped : ∀ z f, Steers s (setLens { s.lens with zoom := z, focus := f } s) := fun z f =>
    ⟨rfl, rfl, rfl, id, fun _ => id⟩
  unfold Machine.stallMotors stalledFocus stalledHoming
  exact (((stopped _ _).trans (latchIf _ _ _)).trans (latch _ _)).trans
    (.trans (.ite (focusMotorLost _) (.refl _))
      (.ite (endOfHoming _) (.ite (leftHoming .zoom _) (.refl _))))

theorem supplyReading (v i period : Nat) (s : State) : Steers s (supplyReading v i period s) := by
  have current : ∀ u, Steers u (overCurrentRule i u) := fun u =>
    .ite (.ite (setSupply _ u) (.refl u)) (.ite ((setSupply _ u).trans (latch _ _)) (.refl u))
  have low : ∀ u, Steers u (lensLowRule v u) := fun u =>
    .ite (.ite (setSupply _ u) (.refl u)) (.ite ((setSupply _ u).trans (latch _ _)) (.refl u))
  have stall : ∀ u, Steers u (stallRule i u) := fun u => by
    unfold stallRule
    exact .ite (.ite ((setSupply _ u).trans (stallMotors _)) (setSupply _ u)) (setSupply _ u)
  exact (((setSupply _ s).trans (current _)).trans (stall _)).trans (low _)

theorem parkLens (s : State) : Steers s (parkLens s) := by
  have unhomed : Steers s (Machine.setZoomHomed false (setLens { s.lens with
      zoom := s.lens.zoom.unhomedAtStop, focus := s.lens.focus.unhomedAtStop } s)) := ⟨rfl, rfl, rfl, id, fun _ => id⟩
  unfold Machine.parkLens
  exact unhomed.trans (.trans (.ite ((setMotor .zoom _ _).trans (giveTarget _ _ _ _)) (.refl _))
    (.ite (giveFocus _ _ _) (.refl _)))

theorem zoomTo (target speed : Nat) (s : State) : Steers s (zoomTo target speed s) := by
  have cancelled : Steers s (cancelSearchForZoom s) := by
    unfold cancelSearchForZoom
    exact .ite ((failSearch _ s).trans (giveFocus _ _ _)) (.refl s)
  have done : ∀ u, Steers u (zoomDoneAtOnce u) := fun u => .ite ((setMotor .zoom _ u).trans (latch _ _)) (.refl u)
  exact ((cancelled.trans (setMotor .zoom _ _)).trans (giveTarget _ _ _ _)).trans (done _)

end Steers

end Sys2Proof.Machine
end

section
/-! PROOFS. No arrival, turn or end of a transaction clears a latched bit. -/

namespace Sys2Proof.Machine
set_option Elab.async false

variable {s t u : State}

/-- No latched bit of `s` is clear in `t`. -/
def Latches (s t : State) : Prop := ∀ i, s.status.latched.getLsbD i = true → t.status.latched.getLsbD i = true

namespace Latches

theorem refl (s : State) : Latches s s := fun _ => id

theorem trans (h : Latches s t) (k : Latches t u) : Latches s u := fun i => k i ∘ h i

theorem ite {c : Prop} [Decidable c] (h : Latches s t) (k : Latches s u) : Latches s (if c then t else u) := by
  split <;> assumption

theorem foldl {α : Type} {f : State → α → State} (h : ∀ s a, Latches s (f s a)) (l : List α) (s : State) :
    Latches s (l.foldl f s) := by
  induction l generalizing s with
  | nil => exact refl s
  | cons a l ih => exact (h s a).trans (ih _)

theorem of_steers (h : Steers s t) : Latches s t := h.latched

theorem of_changes {ps : List Part} (h : Changes ps s t) (hp : ps.contains .status = false) : Latches s t := fun i hi => by
  rw [h.status_eq (by simpa using hp)]
  exact hi

theorem latch (b : LatchedBit) (s : State) : Latches s (latch b s) := of_steers (Steers.latch b s)

theorem latchIf (c : Bool) (b : LatchedBit) (s : State) : Latches s (latchIf c b s) := of_steers (Steers.latchIf c b s)

theorem latchSome (b : Option LatchedBit) (s : State) : Latches s (latchSome b s) := by
  cases b with
  | none => exact refl s
  | some b => exact latch b s

/-- A latched bit and its counter. -/
theorem counted (f : Counters → Counters) (b : LatchedBit) (s : State) : Latches s (setCounters f (Machine.latch b s)) :=
  latch b s

/-! ### Arrivals -/

theorem choose (x : Inflight) (number b : Nat) (s : State) : Latches s (choose x number b s) := by
  unfold Machine.choose
  dsimp only
  split
  · next t slot entry hp _ _ =>
    have pinned : Latches s t := by
      simp only [pin] at hp
      split at hp <;> cases hp
      exact refl s
    exact ((pinned.trans (of_changes (reserve_changes _ _ _ _) rfl)).trans (of_changes (endShoot_changes _ _) rfl)).trans
      ((latchIf _ _ _).trans (latch _ _))
  · exact of_changes (endShoot_changes s _) rfl

theorem testFrame (number b : Nat) (s : State) : Latches s (testFrame s number b) := by
  unfold Machine.testFrame
  split
  · exact refl s
  · exact .ite (.ite (choose _ _ _ _) (refl s)) (refl s)

theorem decideShoot (x : Inflight) (s : State) : Latches s (decideShoot x s) := by
  unfold Machine.decideShoot
  split
  · exact .ite (choose _ _ _ _) (of_changes (endShoot_changes s _) rfl)
  · exact of_changes (endShoot_changes s _) rfl

theorem lookAhead (number b : Nat) (s : State) : Latches s (lookAhead number b s) := by
  have decided : ∀ u, Latches u (decideIfOver u) := fun u => by
    unfold decideIfOver
    split
    · exact .ite (decideShoot _ _) (refl u)
    · exact refl u
  unfold Machine.lookAhead
  split
  · exact refl s
  · next x _ =>
    exact (testFrame number b (setStore { s.store with inflight := some { x with ahead := x.ahead + 1 } } s)).trans
      (decided _)

theorem applyHoldable (o : Order) (p : Posted) (s : State) : Latches s (applyHoldable o p s).1 := by
  cases o
  case focusSet =>
    have taken : ∀ d, Steers s { s with focus := { s.focus with d := d, state := .locked } } := fun d =>
      ⟨rfl, rfl, rfl, id, fun _ => id⟩
    show Latches s (applyFocusSet p s).1
    unfold applyFocusSet
    split
    · exact refl s
    · exact of_steers ((taken _).trans (Steers.giveFocus _ _ _))
  case zoomTo =>
    show Latches s (applyZoomTo p s).1
    unfold applyZoomTo
    dsimp only
    split
    · exact refl s
    · exact refl s
    · exact refl s
    · exact of_steers (Steers.zoomTo _ _ s)
  all_goals exact refl s

theorem applyHeld (number : Nat) (s : State) : Latches s (applyHeld number s) := by
  have entry : ∀ s x, Latches s (applyEntry number s x) := by
    intro s x
    unfold applyEntry
    split
    · exact (applyHoldable _ _ s).trans (of_changes (makeReply_changes _ _ _ _ _) rfl)
    · exact refl s
  exact foldl entry _ (setOrders { s.orders with hold := s.orders.hold.filter Held.shoot } s)

theorem cutFilling (s : State) : Latches s (cutFilling s) := by
  unfold Machine.cutFilling
  split
  · exact (of_changes ((changes_frames s _).trans (releaseBank_changes _ _)) rfl).trans (latch _ _)
  · exact refl s

theorem claimBank (g : Geometry) (b : Nat) (s : State) : Latches s (claimBank g b s) := by
  unfold Machine.claimBank
  dsimp only
  split
  · exact of_changes ((changes_frames s _).trans (setBank_changes _ _ _)) rfl
  · exact latch _ (setRecord b _ s)

theorem handOnBank (k b : Nat) (s : State) : Latches s (handOnBank k b s) := by
  unfold Machine.handOnBank
  dsimp only
  split
  · exact of_changes (handOver_changes s _ _) rfl
  · exact of_steers (Steers.resolveUnmetered s)

theorem postSlot (s : State) (i : Nat) : Latches s (postSlot s i) := by
  unfold Machine.postSlot
  exact .ite (refl s) ((of_changes (makeReply_changes s _ _ _ _) rfl).trans (latch _ _))

theorem slotWrite (j e : Nat) (s : State) : Latches s (slotWrite j e s).1 := by
  have dropped := latch .protect s
  have written : ∀ x, Latches s (setSlot j x s) := fun _ => refl s
  unfold Machine.slotWrite
  dsimp only
  split
  · exact dropped
  · split
    · exact written _
    · exact .ite (written _) (refl s)
    · exact dropped

end Latches

/-- A latched bit stays through every arrival. -/
theorem latched_arrival (i : Nat) : ArrivalKept fun s => s.status.latched.getLsbD i = true where
  counted s f b := Latches.counted f b s i
  held s n := Latches.applyHeld n s i
  cut s := Latches.cutFilling s i
  replaced s n b := Latches.of_changes (reportReplaced_changes s n b) rfl i
  claim s g b := Latches.claimBank g b s i
  give s g o t id := Latches.of_changes (giveToBank_changes s g o t id) rfl i
  crop s k b _ _ := Latches.latchIf _ _ (setSteady _ (setEntry k _ (setRecord b _ s))) i
  handOn s k b := Latches.handOnBank k b s i
  reported s n b := Latches.lookAhead n b
    (setStore { s.store with recent := ({ number := n, buffer := b } :: s.store.recent).take 7 } s) i
  shown s off t := Latches.foldl Latches.postSlot _
    (setOrders { s.orders with shadow := writeBytes s.orders.shadow off t.data t.mask } s) i
  slot s j e := Latches.slotWrite j e s i

/-- A latched bit stays through every turn of the port. -/
theorem latched_turn (i : Nat) : TurnKept fun s => s.status.latched.getLsbD i = true where
  request s h := by simpa using h
  dirty s h := h
  arrive s t _ h := Depends.arrival (ps := [.status])
    (fun u v same hu => by rw [(same .status (by simp) : v.status = u.status)]; exact hu) rfl (latched_arrival i) t h
  carry s t hd _ h := by
    refine Latches.of_changes (carryOut_changes s t hd) rfl i h
  own s x rest _ _ h := h
  piece s v p ps _ h := h

/-- A latched bit stays through the end of a host transaction and of the VIEW read. -/
theorem Latches.endFlight (x : Flight) (st : Status) (data : List Byte) (s : State)
    (hk : (∃ picture, x.kind = .host picture) ∨ x.kind = .piece) : Latches s (endFlight x st data s) := by
  have reported : ∀ picture u, Latches u (reportPicture x picture st data u) := by
    intro picture u
    unfold reportPicture
    split
    · unfold reportRead
      split
      · exact refl u
      · refine .trans ?_ (latchSome _ _)
        unfold setDrained
        exact .ite (refl u) (refl u)
    · exact refl u
  unfold Machine.endFlight
  rcases hk with ⟨picture, hk⟩ | hk <;> simp only [hk]
  · exact (reported picture (setPort { s.port with flight := none } s)).trans
      (of_changes (ps := [.hostOut, .port]) (completeHead_changes _ _ _) rfl)
  · exact of_changes ((changes_port s _).trans (endPiece_changes _ st data)) rfl

end Sys2Proof.Machine
end

section
/-! PROOFS. The ends of memory transactions: completions, the response timer, and what the owners are told. -/

namespace Sys2Proof.Machine
set_option Elab.async false

variable {s t u : State}

/-! ### What an owner makes of a failure -/

/-- What the failure of an own transaction leaves of the blocks it touches. -/
structure OwnerKept (t v : State) : Prop where
  image     : v.orders.image = t.orders.image
  shots     : v.store.shots = t.store.shots
  counters  : v.status.counters = t.status.counters
  published : v.status.published = t.status.published

theorem endClose_shots (j : Nat) (rest : List CloseWork) (f : Slot → Slot) (t : State) :
    (endClose j rest f t).store.shots = t.store.shots ∧ (endClose j rest f t).store.closeQueue = rest := by
  unfold endClose
  dsimp only
  split <;> exact ⟨rfl, rfl⟩

theorem closeFailed_cons {w : CloseWork} {rest : List CloseWork} (h : t.store.closeQueue = w :: rest) :
    closeFailed t =
      latch .closeFailed (endClose w.slot rest (fun x => { x with checkValid := false }) (clearStoreRequest t)) := by
  simp only [closeFailed, h]

theorem ownerFailed_keeps (o : Owner) (t : State) : OwnerKept t (ownerFailed o t) := by
  cases o with
  | orderUnit => simp only [ownerFailed, replyFailed]; split <;> exact ⟨rfl, rfl, rfl, rfl⟩
  | statistics =>
    simp only [ownerFailed, resultFailed]
    split
    · exact ⟨rfl, rfl, rfl, rfl⟩
    · next w _ =>
      have kept := endResult_changes t w
      exact ⟨congrArg Orders.image kept.orders_eq, congrArg Store.shots kept.store_eq,
        congrArg StatusUnit.counters kept.status_eq, congrArg StatusUnit.published kept.status_eq⟩
  | status => exact ⟨rfl, rfl, rfl, rfl⟩
  | store =>
    have close : OwnerKept t (closeFailed t) := by
      cases h : t.store.closeQueue with
      | nil => simp only [closeFailed, h]; exact ⟨rfl, rfl, rfl, rfl⟩
      | cons w rest =>
        rw [closeFailed_cons h]
        have kept := endClose_changes (clearStoreRequest t) w.slot rest fun x => { x with checkValid := false }
        exact ⟨congrArg Orders.image kept.orders_eq, (endClose_shots _ _ _ _).1,
          (congrArg StatusUnit.counters kept.status_eq :), (congrArg StatusUnit.published kept.status_eq :)⟩
    simp only [ownerFailed, storeFailed]
    split
    · exact ⟨rfl, rfl, rfl, rfl⟩
    · exact ⟨rfl, rfl, rfl, rfl⟩
    · exact ⟨rfl, rfl, rfl, rfl⟩
    · exact close
    · exact close

/-- The slot whose close ends is CLOSED, and no other changes (R169, R170). -/
theorem endClose_slots (j : Nat) (rest : List CloseWork) (f : Slot → Slot) (t : State) :
    (∀ i, i ≠ j → (endClose j rest f t).slot? i = t.slot? i) ∧
      ∀ x, t.slot? j = some x → (endClose j rest f t).slot? j = some { f x with state := .closed } := by
  have same : ∀ i, (setCloseQueue rest t).slot? i = t.slot? i := fun _ => rfl
  unfold endClose
  dsimp only
  rw [same]
  refine ⟨fun i hi => ?_, fun x hx => ?_⟩
  · split
    · rw [slot?_setSlot_of_ne _ hi, same]
    · exact same i
  · rw [hx]
    exact slot?_setSlot _ (s := setCloseQueue rest t) hx

/-- The Statistics unit gives its bank up (R58). -/
theorem resultFailed_some {w : ResultWriter} (h : t.stats.writer = some w) :
    (resultFailed t).stats.writer = none ∧ (resultFailed t).stats.newest = t.stats.newest ∧
      (resultFailed t).bank w.bank = Bank.released ∧
      (resultFailed t).bank w.bank.other =
        if (t.bank w.bank.other).state = .waiting then { t.bank w.bank.other with state := .evaluating }
        else t.bank w.bank.other := by
  have e : resultFailed t = endResult w t := by simp only [resultFailed, h]
  have aside : ∀ v : State, (freeBank w.bank v).stats.newest = v.stats.newest := by
    intro v
    have set : ∀ (id : BankId) (b : Bank) (v : State), (setBank id b v).stats.newest = v.stats.newest := by
      intro id b v; cases id <;> rfl
    simp only [freeBank, wakeWaiting]
    split <;> simp only [set]
  obtain ⟨freed, other⟩ := freeBank_banks { t with stats := { t.stats with writer := none } } w.bank
  rw [e]
  refine ⟨?_, aside _, freed, ?_⟩
  · exact (freeBank_changes { t with stats := { t.stats with writer := none } } w.bank).writer_eq
  · rw [endResult, other]
    cases w.bank <;> rfl

/-- The state an owner is told of a failure in: nothing in flight, and these bits latched beside. -/
def State.abandoned (s : State) (bits : BitVec 28) : State :=
  { s with
    port := { s.port with flight := none }
    status := { s.status with latched := s.status.latched ||| bits } }

theorem storeFailed_shot {e : Nat} (h : t.store.request = some (.shotMirror e)) :
    storeFailed t =
      { t with store := { t.store with shotDirty := t.store.shotDirty.set e true, request := none } } := by
  simp only [storeFailed, h]
  rfl

theorem storeFailed_slot {j : Nat} (h : t.store.request = some (.slotMirror j)) :
    storeFailed t =
      { t with store := { t.store with slotDirty := t.store.slotDirty.set j true, request := none } } := by
  simp only [storeFailed, h]
  rfl

theorem storeFailed_close (h : t.store.request = some .piece ∨ ∃ n, t.store.request = some (.trailer n)) :
    storeFailed t = closeFailed t := by
  rcases h with h | ⟨n, h⟩ <;> simp only [storeFailed, h]

/-- A failed mirror write of a shot entry is asked for again, unless a lower one is dirty (R175). -/
theorem shotMirror_again {e : Nat} (v : State) (h : t.store.request = some (.shotMirror e))
    (he : e < t.store.shotDirty.length) :
    ∃ i, i ≤ e ∧ (finish v (storeFailed t)).store.request = some (.shotMirror i) ∧
      (i = e ∨ (finish v (storeFailed t)).store.shotDirty.getD e false = true) := by
  rw [storeFailed_shot h]
  obtain ⟨w, hw, hs, -⟩ := finish_requestStore v
    { t with store := { t.store with shotDirty := t.store.shotDirty.set e true, request := none } }
  have dirty : w.store.shotDirty.getD e false = true := by rw [hs]; exact getD_set_true he
  obtain ⟨i, l, hl⟩ := List.exists_cons_of_ne_nil (dirtyIndices_ne_nil dirty)
  rw [hw, requestStore_shot (by rw [hs]) hl]
  refine ⟨i, le_of_dirtyIndices hl dirty, rfl, ?_⟩
  by_cases hi : i = e
  · exact .inl hi
  · exact .inr ((getD_set_of_ne _ hi).trans dirty)

/-- A failed mirror write of a slot record is asked for again, unless another mirror comes before it (R175). -/
theorem slotMirror_again {j : Nat} (v : State) (h : t.store.request = some (.slotMirror j))
    (hj : j < t.store.slotDirty.length) :
    (∃ e, (finish v (storeFailed t)).store.request = some (.shotMirror e) ∧
        (finish v (storeFailed t)).store.slotDirty.getD j false = true) ∨
      ∃ i, i ≤ j ∧ (finish v (storeFailed t)).store.request = some (.slotMirror i) ∧
        (i = j ∨ (finish v (storeFailed t)).store.slotDirty.getD j false = true) := by
  rw [storeFailed_slot h]
  obtain ⟨w, hw, hs, -⟩ := finish_requestStore v
    { t with store := { t.store with slotDirty := t.store.slotDirty.set j true, request := none } }
  have dirty : w.store.slotDirty.getD j false = true := by rw [hs]; exact getD_set_true hj
  rw [hw]
  cases hd : dirtyIndices w.store.shotDirty with
  | cons e l =>
    rw [requestStore_shot (by rw [hs]) hd]
    exact .inl ⟨e, rfl, dirty⟩
  | nil =>
    obtain ⟨i, l, hl⟩ := List.exists_cons_of_ne_nil (dirtyIndices_ne_nil dirty)
    rw [requestStore_slot (by rw [hs]) hd hl]
    refine .inr ⟨i, le_of_dirtyIndices hl dirty, rfl, ?_⟩
    by_cases hi : i = j
    · exact .inl hi
    · exact .inr ((getD_set_of_ne _ hi).trans dirty)

/-- The Order unit asks for the entries a failed reply write carried again (R185). -/
theorem reply_again {marks : List Bool} (v : State) (h : t.orders.carried = some marks)
    (hl : marks.length = t.orders.dirty.length) {i : Nat} (hi : marks.getD i false = true) :
    (finish v (replyFailed t)).orders.carried = some (List.zipWith or t.orders.dirty marks) := by
  have e : replyFailed t =
      setOrders { t.orders with carried := none, dirty := List.zipWith or t.orders.dirty marks } t := by
    simp only [replyFailed, h]
  have dirty : (List.zipWith or t.orders.dirty marks).getD i false = true := by
    have hm : i < marks.length := by
      by_contra hlen
      rw [List.getD_eq_default _ _ (Nat.not_lt.mp hlen)] at hi
      cases hi
    rw [List.getD_eq_getElem _ _ hm] at hi
    rw [List.getD_eq_getElem _ _ (by simp; omega), List.getElem_zipWith, hi, Bool.or_true]
  rw [e]
  exact finish_carried rfl dirty

theorem stats_not_mem_parts {o : Owner} (h : o ≠ .statistics) : Part.stats ∉ o.parts := by
  cases o with
  | statistics => exact absurd rfl h
  | orderUnit | status | store => decide

theorem store_not_mem_parts {o : Owner} (h : o ≠ .store) : Part.store ∉ o.parts := by
  cases o with
  | store => exact absurd rfl h
  | orderUnit | status | statistics => decide

/-- What an owner makes of the failure of its transaction, at the end of the event (R18). -/
theorem failureTold (s v : State) (o : Owner) (bits : BitVec 28) :
    FailureTold s (finish v (ownerFailed o (s.abandoned bits))) o bits := by
  have changed := ownerFailed_changes (s.abandoned bits) o
  have mine := ownerFailed_parts (s.abandoned bits) o
  obtain ⟨image, shots, counters, published⟩ := ownerFailed_keeps o (s.abandoned bits)
  constructor
  · simp only [finish_port_flight, finish_port_inbound, finish_port_view, finish_hostOut, finish_frames, finish_exposure,
      finish_focus, finish_lens, finish_link, finish_steady, finish_orders_image, finish_store_shots,
      finish_status_counters, finish_status_published, finish_attn]
    rw [changed.port_eq, image, shots, counters, published]
    exact ⟨rfl, rfl, rfl, changed.hostOut_eq, changed.frames_eq, changed.exposure_eq, changed.focus_eq, changed.lens_eq,
      changed.link_eq, changed.steady_eq, rfl, rfl, rfl, rfl, changed.attn_eq⟩
  · simp only [finish_stats, finish_store_slots, finish_store_closeQueue]
    refine ⟨fun ho => mine.stats_eq (stats_not_mem_parts ho), fun ho => ?_⟩
    rw [mine.store_eq (store_not_mem_parts ho)]
    exact ⟨rfl, rfl⟩
  · intro mirror
    rw [finish_status_latched]
    cases o with
    | orderUnit => rw [mine.status_eq (by decide)]; rfl
    | statistics => rw [mine.status_eq (by decide)]; rfl
    | status => rfl
    | store =>
      rcases mirror rfl with ⟨e, h⟩ | ⟨j, h⟩
      · rw [ownerFailed, storeFailed_shot (t := s.abandoned bits) h]; rfl
      · rw [ownerFailed, storeFailed_slot (t := s.abandoned bits) h]; rfl
  · rintro rfl w hw
    obtain ⟨writer, newest, freed, other⟩ := resultFailed_some (t := s.abandoned bits) hw
    have bank : ∀ id, (finish v (ownerFailed .statistics (s.abandoned bits))).bank id =
        (resultFailed (s.abandoned bits)).bank id := by
      intro id
      cases id <;> simp only [State.bank, finish_stats] <;> rfl
    rw [bank, bank, finish_stats, freed]
    refine ⟨writer, newest, rfl, other.trans ?_⟩
    cases w.bank <;> rfl
  · rintro rfl request w rest hq
    have e : ownerFailed .store (s.abandoned bits) = closeFailed (s.abandoned bits) := storeFailed_close request
    have slots : ∀ j, (finish v (closeFailed (s.abandoned bits))).slot? j = (closeFailed (s.abandoned bits)).slot? j :=
      fun j => by simp only [State.slot?, finish_store_slots]
    obtain ⟨others, closed⟩ := endClose_slots w.slot rest (fun x => { x with checkValid := false })
      (clearStoreRequest (s.abandoned bits))
    rw [e]
    simp only [slots, finish_store_closeQueue, finish_status_latched]
    rw [closeFailed_cons (t := s.abandoned bits) hq]
    refine ⟨(endClose_shots _ _ _ _).2, ?_, others, closed⟩
    have kept := endClose_changes (clearStoreRequest (s.abandoned bits)) w.slot rest fun x => { x with checkValid := false }
    simp only [latch, kept.status_eq]
    rfl
  · rintro rfl e he hl
    refine ⟨?_, shotMirror_again v (t := s.abandoned bits) he hl⟩
    rw [finish_store_slots, ownerFailed, storeFailed_shot (t := s.abandoned bits) he]
    rfl
  · rintro rfl j hj hl
    refine ⟨?_, slotMirror_again v (t := s.abandoned bits) hj hl⟩
    rw [finish_store_slots, ownerFailed, storeFailed_slot (t := s.abandoned bits) hj]
    rfl
  · rintro rfl marks hm hlen hdirty ⟨i, hi⟩
    exact reply_again v (t := s.abandoned bits) hm (hlen.trans hdirty.symm) hi
  · rintro rfl
    exact finish_writing rfl rfl

/-! ### Ends of the transaction in flight -/

/-- The end of a transaction, and then the port's next turn. -/
theorem turn_after_end {c : Instr} {v : State} (hv : v.resetN = true) (h : exec c s = .next (giveTurn v)) :
    exec c s = exec .arbiterTurn v := by rw [h, exec_arbiterTurn v hv]

theorem endFlight_resetN (x : Flight) (st : Status) (data : List Byte) (s v : State) :
    (finish v (endFlight x st data s)).resetN = s.resetN := by
  rw [finish_resetN, (endFlight_changes s x st data).resetN_eq]

/-- The completion of a host transaction is the first of its command (R2). -/
theorem endTurn_hostOut {x : Flight} {c : HostTransaction} (st : Status) (data : List Byte)
    (v : State) {l : List Byte} (hr : s.resetN = true)
    (h : s.hostOut ++ [{ tag := c.tag, status := st, data := l }] <+: (endFlight x st data s).hostOut) :
    ∃ later, (giveTurn (finish v (endFlight x st data s))).hostOut =
      s.hostOut ++ { tag := c.tag, status := st, data := l } :: later := by
  have turned := (hostOut_kept _).giveTurn (s := finish v (endFlight x st data s))
    (by rw [endFlight_resetN, hr]) (by simpa using h)
  obtain ⟨later, e⟩ := turned
  exact ⟨later, by rw [← e, List.append_assoc]; rfl⟩

theorem endFlight_host {x : Flight} {picture : Option (Nat × Nat)} {c : HostTransaction} {rest : List HostTransaction}
    (st : Status) (data : List Byte) (hk : x.kind = .host picture) (hq : s.port.inbound = c :: rest) :
    s.hostOut ++ [{ tag := c.tag, status := st, data := if x.dir = .read ∧ st = .ok then data else [] }] <+:
      (endFlight x st data s).hostOut := by
  have reported := reportPicture_changes (setPort { s.port with flight := none } s) x picture st data
  simp only [endFlight, hk, endHost]
  have := completeHead_hostOut (s := reportPicture x picture st data (setPort { s.port with flight := none } s)) st
    (if x.dir = .read ∧ st = .ok then data else []) (by rw [reported.port_eq]; exact hq)
  rwa [reported.hostOut_eq] at this

/-- A piece of the VIEW read that is not the last adds its data (R11). -/
theorem endFlight_piece {x : Flight} {v : ViewRead} (data : List Byte) (hk : x.kind = .piece)
    (hv : s.port.view = some v) (hp : v.pieces ≠ []) :
    endFlight x .ok data s =
      { s with port := { s.port with flight := none, view := some { v with data := v.data ++ data } } } := by
  have more : v.pieces.isEmpty = false := by simpa using hp
  simp [endFlight, hk, endPiece, setPort, hv, more]

/-- The last piece, or a failed one, completes the VIEW read (R11). -/
theorem endFlight_lastPiece {x : Flight} {v : ViewRead} {st : Status} (data : List Byte) (hk : x.kind = .piece)
    (hv : s.port.view = some v) (hp : st = .error ∨ v.pieces = []) :
    endFlight x st data s =
      completeHead st (if st = .ok then v.data ++ data else []) (setPort { s.port with flight := none } s) := by
  cases st with
  | error => simp only [endFlight, hk, endPiece, setPort_port, hv]; rfl
  | ok =>
    have last : v.pieces = [] := by simpa using hp
    simp [endFlight, hk, endPiece, setPort, hv, last]

theorem endFlight_own {x : Flight} {o : Owner} (st : Status) (data : List Byte) (hk : x.kind = .own o) :
    endFlight x st data s = endOwn o st data (setPort { s.port with flight := none } s) := by
  simp only [endFlight, hk]

theorem abandoned_zero (s : State) : s.abandoned 0 = setPort { s.port with flight := none } s := by
  simp [State.abandoned, setPort]

/-- Settles O13: each kind of transaction ends by its own rule, and the port's turn comes last. -/
theorem completionEndsTheTransaction : Obligations.CompletionEndsTheTransaction := by
  intro s tag st data hr
  refine ⟨fun x c rest picture hf ht hk hq => ?_, fun x v hf ht hk hv => ⟨fun hst hp => ?_, fun last c rest hq wf => ?_⟩,
    fun x o hf ht hk => ⟨fun hst => ?_, fun hst => ?_⟩, fun other => ?_⟩
  · obtain ⟨later, h⟩ := endTurn_hostOut st data s hr (endFlight_host st data hk hq)
    exact ⟨_, later, ht ▸ exec_memoryCompletion s st data hr hf, h⟩
  · have row := exec_memoryCompletion s st data hr hf
    subst ht hst
    refine ⟨_, turn_after_end (by rw [endFlight_resetN, hr]) row, ?_⟩
    rw [settled_finish, endFlight_piece data hk hv hp]
  · have row := exec_memoryCompletion s st data hr hf
    subst ht
    refine ⟨_, turn_after_end (by rw [endFlight_resetN, hr]) row, ?_⟩
    rw [settled_finish, endFlight_lastPiece data hk hv last,
      completeHead_of_wellFormed (s := setPort { s.port with flight := none } s) st _ hq wf]
    rfl
  · have row := exec_memoryCompletion s st data hr hf
    subst ht hst
    rw [giveTurn_of_busy _ (.inr (by rw [finish_port_told, endFlight_own .ok data hk]; simp [endOwn]))] at row
    refine ⟨_, row, ?_⟩
    rw [settled_finish, endFlight_own .ok data hk]
    rfl
  · have row := exec_memoryCompletion s st data hr hf
    subst ht hst
    refine ⟨_, turn_after_end (by rw [endFlight_resetN, hr]) row, ?_⟩
    rw [endFlight_own .error data hk, endOwn, ← abandoned_zero]
    exact failureTold s s o 0
  · simp only [exec, execMemoryCompletion, portEvent, hr, if_true, memoryCompletion]
    split
    · next x hx => rw [if_neg (other x hx)]
    · rfl

/-- Settles O14: an expired timer ends the transaction as failed, with MEM_TIMEOUT latched before; an early one does
nothing. -/
theorem timeoutAbandonsTheTransaction : Obligations.TimeoutAbandonsTheTransaction := by
  intro s x hr hf
  refine ⟨fun late => ?_, fun early => ?_⟩
  · have row := exec_memoryTimeout s hr hf late
    have turn := turn_after_end (by rw [endFlight_resetN]; exact hr) row
    refine ⟨fun c rest kind hq => ?_, fun c rest hk ⟨v, hv⟩ hq wf => ⟨_, turn, ?_⟩, fun o hk => ⟨_, turn, ?_⟩⟩
    · have sent : s.hostOut ++ [{ tag := c.tag, status := .error, data := [] }] <+:
          (endFlight x .error [] (latch .memTimeout s)).hostOut := by
        rcases kind with ⟨picture, hk⟩ | ⟨hk, v, hv⟩
        · simpa using endFlight_host (s := latch .memTimeout s) .error [] hk hq
        · rw [endFlight_lastPiece (s := latch .memTimeout s) [] hk hv (.inl rfl)]
          exact completeHead_hostOut (s := setPort { s.port with flight := none } (latch .memTimeout s)) .error [] hq
      obtain ⟨later, h⟩ := endTurn_hostOut (s := latch .memTimeout s) .error [] s hr sent
      refine ⟨_, later, row, (latched_turn _).giveTurn (by rw [endFlight_resetN]; exact hr) ?_, h⟩
      refine (latched_turn _).finish (Latches.endFlight x .error [] _ (kind.imp_right And.left) _ ?_)
      rw [latch, BitVec.getLsbD_or, show LatchedBit.memTimeout.mask.getLsbD LatchedBit.memTimeout.index = true by decide,
        Bool.or_true]
    · rw [settled_finish, endFlight_lastPiece (s := latch .memTimeout s) [] hk hv (.inl rfl)]
      have ended := completeHead_of_wellFormed (s := setPort { s.port with flight := none } (latch .memTimeout s))
        .error [] hq wf
      exact (congrArg State.settled ended :)
    · rw [endFlight_own .error [] hk, endOwn]
      exact failureTold s s o LatchedBit.memTimeout.mask
  · have no : ¬100 ≤ elapsed s.partTime x.issued := Nat.not_le.mpr early
    simp only [exec, execMemoryTimeout, portEvent, hr, if_true, memoryTimeout, hf, no, if_false]

end Sys2Proof.Machine
end

section
/-! PROOFS. What the owners make of the OK ends of their own transactions. -/

namespace Sys2Proof.Machine
set_option Elab.async false

variable {s t u : State}

/-- The owner that alone has been told acts, and has been told of nothing any more (R3). -/
theorem whenTold_only {r : Told} {o : Owner} (f : List Byte → State → State) (h : s.port.told = [r]) (ho : r.owner = o) :
    whenTold o f s = f r.data (setPort { s.port with told := [] } s) := by
  subst ho
  simp [whenTold, takeTold, h, setPort]

/-- What an owner asked for itself stands in the own queue at the event's end (R3). -/
theorem mem_finish_own {x : OwnTransaction} (h : x ∈ t.port.own) : x ∈ (finish s t).port.own := by
  have kept : ∀ v : State, v.port.own = t.port.own → x ∈ (requestAll v).port.own := by
    intro v hv
    obtain ⟨l, hl, -⟩ := requestAll_appends v
    rw [hl, hv]
    exact List.mem_append_left _ h
  unfold finish
  split
  · exact kept _ rfl
  · exact kept _ rfl

/-- Settles O19: the two halves of a result record. -/
theorem resultWriteDonePublishes : Obligations.ResultWriteDonePublishes := by
  intro s w r hr hw ht ho
  have run := exec_event (c := .resultWriteDone) rfl hr
  rw [whenTold_only _ ht ho] at run
  refine ⟨_, run, ?_⟩
  cases half : w.secondHalf with
  | false =>
    have e : resultWritten (setPort { s.port with told := [] } s) =
        requestOwnWrite .statistics (s.windows.control + 0x2000 + 512 * w.entry + 256) (w.bytes.drop 256)
          { setPort { s.port with told := [] } s with
            stats := { s.stats with writer := some { w with secondHalf := true } } } := by
      simp only [resultWritten, setPort, hw, half]
      rfl
    rw [e]
    refine ⟨by rw [finish_port_told]; rfl, fun _ => ⟨finish_stats _ _, ?_⟩, nofun, ?_⟩
    · exact ⟨_, mem_finish_own (List.mem_append_right _ (List.mem_singleton.mpr rfl)), rfl, rfl, rfl⟩
    · simp only [finish_exposure, finish_focus, finish_lens, finish_frames]
      exact ⟨rfl, rfl, rfl, rfl⟩
  | true =>
    have e : resultWritten (setPort { s.port with told := [] } s) =
        latch .frameDone (endResult w { setPort { s.port with told := [] } s with
          stats := { s.stats with newest := some w.entry } }) := by
      simp only [resultWritten, setPort, hw, half]
      rfl
    generalize hv : ({ setPort { s.port with told := [] } s with
          stats := { s.stats with newest := some w.entry } } : State) = v at e
    have writer : v.stats.writer = some w := by rw [← hv]; exact hw
    have ended : endResult w v = resultFailed v := by simp only [resultFailed, writer]
    obtain ⟨noWriter, newest, freed, other⟩ := resultFailed_some writer
    have changed := endResult_changes v w
    have bank : ∀ id, (finish s (latch .frameDone (endResult w v))).bank id = (resultFailed v).bank id := by
      intro id
      rw [← ended]
      cases id <;> simp only [State.bank, finish_stats] <;> rfl
    rw [e]
    refine ⟨?_, nofun, fun _ => ⟨?_, ?_, ?_, ?_, ?_, ?_⟩, ?_⟩
    · rw [finish_port_told]
      exact (congrArg Port.told changed.port_eq).trans (by rw [← hv]; rfl)
    · rw [finish_stats]
      exact (congrArg (fun x : State => x.stats.newest) ended).trans (newest.trans (by rw [← hv]))
    · rw [finish_stats]
      exact (congrArg (fun x : State => x.stats.writer) ended).trans noWriter
    · rw [bank, freed]; rfl
    · rw [finish_status_latched]
      exact congrArg (fun x : StatusUnit => x.latched ||| LatchedBit.frameDone.mask)
        (changed.status_eq.trans (by rw [← hv]; rfl))
    · intro waiting
      have same : v.bank w.bank.other = s.bank w.bank.other := by rw [← hv]; cases w.bank <;> rfl
      rw [bank, other, same, if_pos waiting]
    · intro waiting
      have same : v.bank w.bank.other = s.bank w.bank.other := by rw [← hv]; cases w.bank <;> rfl
      rw [bank, other, same, if_neg waiting]
    · simp only [finish_exposure, finish_focus, finish_lens, finish_frames]
      refine ⟨changed.exposure_eq.trans ?_, changed.focus_eq.trans ?_, changed.lens_eq.trans ?_,
        changed.frames_eq.trans ?_⟩ <;> rw [← hv] <;> rfl

/-! ### Replies, the status block and the mirrors -/

/-- ATTN is asserted exactly when a latched bit of the copy is selected by its mask (R197). -/
theorem attnOf_iff (c : BlockCopy) :
    attnOf (some c) = true ↔
      ∃ i < 28, c.content.latched.getLsbD i = true ∧ c.content.mask.getLsbD i = true := by
  simp only [attnOf, bne_iff_ne, ne_eq]
  constructor
  · intro h
    by_contra none
    refine h (BitVec.eq_of_getLsbD_eq fun i hi => ?_)
    have clear : ¬(c.content.latched.getLsbD i = true ∧ c.content.mask.getLsbD i = true) := fun both => none ⟨i, hi, both⟩
    simpa using clear
  · rintro ⟨i, -, hl, hm⟩ h
    have := congrArg (·.getLsbD i) h
    simp [hl, hm] at this

/-- With a mirror asked for, no lower preference stands before it (R175). -/
theorem requestStore_order (hr : u.store.request = none) :
    (∀ e, (requestStore u).store.request = some (.slotMirror e) → dirtyIndices u.store.shotDirty = []) ∧
      ((requestStore u).store.request = some .piece →
        dirtyIndices u.store.shotDirty = [] ∧ dirtyIndices u.store.slotDirty = []) := by
  cases hs : dirtyIndices u.store.shotDirty with
  | cons e l => rw [requestStore_shot hr hs]; exact ⟨nofun, nofun⟩
  | nil =>
    cases hl : dirtyIndices u.store.slotDirty with
    | cons j l => rw [requestStore_slot hr hs hl]; exact ⟨fun _ _ => rfl, nofun⟩
    | nil => exact ⟨fun _ _ => rfl, fun _ => ⟨rfl, rfl⟩⟩

/-- Settles O20: the three rows, each by what its owner makes of the OK end. -/
theorem replyStatusAndMirrorWritesEnd : Obligations.ReplyStatusAndMirrorWritesEnd := by
  intro s r hr ht
  refine ⟨fun ho => ?_, fun c ho hc => ?_, fun q ho hq mirror => ?_⟩
  · refine event_settles (c := .replyWriteDone) rfl hr ?_
    rw [whenTold_only _ ht ho]
    rfl
  · have run := exec_event (c := .statusRewriteDone) rfl hr
    rw [whenTold_only _ ht ho] at run
    refine ⟨_, run, ?_, ?_⟩
    · rw [finish_attn, ← attnOf_iff, ← hc]
      exact Iff.rfl
    · rw [settled_finish, finish_attn, ← hc]
      rfl
  · have run := exec_event (c := .mirrorWriteDone) rfl hr
    have e : mirrorWritten s = clearStoreRequest (setPort { s.port with told := [] } s) := by
      obtain ⟨e, rfl | rfl⟩ := mirror <;> simp only [mirrorWritten, hq, whenTold_only _ ht ho]
    rw [e] at run
    obtain ⟨v, hv, store, -⟩ := finish_requestStore s (clearStoreRequest (setPort { s.port with told := [] } s))
    have order := requestStore_order (u := v) (by rw [store]; rfl)
    rw [store] at order
    refine ⟨_, run, by rw [settled_finish]; rfl, ?_⟩
    rw [hv]
    exact order

/-! ### The close work -/

theorem trailerHead_layout (w : CloseWork) :
    trailerHead w =
      [0x52#8, 0x54#8, 0x57#8, 0x4A#8] ++
        [BitVec.ofNat 8 w.id, BitVec.ofNat 8 w.snapshot.focusAt.code, BitVec.ofNat 8 w.snapshot.gHdr,
          BitVec.ofNat 8 w.snapshot.aF] ++
        le w.snapshot.number 4 ++ le w.snapshot.tHdr 4 ++ le w.snapshot.zoomPos 2 ++ le w.ppd16 2 ++
        le w.snapshot.dAt 2 ++ le (w.snapshot.ox % 65536).toNat 2 ++ le (w.snapshot.oy % 65536).toNat 2 ++
        [BitVec.ofNat 8 w.snapshot.m, 0#8] ++ le w.length 4 ++ List.replicate 28 0#8 := rfl

/-- A piece more is fed into the CRC register, and after the last one the trailer stands (R168, R205). -/
theorem withPiece_eq (w : CloseWork) (data : List Byte) :
    (w.withPiece data).piece = w.piece + 1 ∧
      (256 * (w.piece + 1) < w.length →
        (w.withPiece data).crc = data.foldl crc32Byte w.crc ∧ (w.withPiece data).trailer = w.trailer) ∧
      (w.length ≤ 256 * (w.piece + 1) →
        (w.withPiece data).crc = (trailerHead w).foldl crc32Byte (data.foldl crc32Byte w.crc) ∧
          (w.withPiece data).trailer =
            some (trailerHead w ++ le ((w.withPiece data).crc ^^^ 0xFFFFFFFF#32).toNat 4)) := by
  have head : ∀ c n, trailerHead { w with crc := c, piece := n } = trailerHead w := fun _ _ => rfl
  by_cases last : w.length ≤ 256 * (w.piece + 1)
  · simp only [CloseWork.withPiece, if_pos last, CloseWork.withTrailer, head, crc32Feed, crc32Final, true_and]
    exact ⟨fun more => absurd last (Nat.not_le.mpr more), fun _ => trivial⟩
  · simp only [CloseWork.withPiece, if_neg last, crc32Feed, true_and]
    exact ⟨fun _ => trivial, fun all => absurd all last⟩

/-- Settles O21: the close work at the head of the queue takes a piece, or a part of its trailer. -/
theorem closeWorkEndsWithTheSlotClosed : Obligations.CloseWorkEndsWithTheSlotClosed := by
  refine ⟨fun s r w rest hr ht ho hq => ⟨fun request trailer => ?_, fun n request => ?_⟩, ?_⟩
  · have run := exec_event (c := .readBackPieceDone) rfl hr
    have e : pieceRead s = setCloseQueue (w.withPiece r.data :: rest)
        (clearStoreRequest (setPort { s.port with told := [] } s)) := by
      simp only [pieceRead, request, whenTold_only _ ht ho, pieceDone]
      simp only [setPort, hq]
    rw [e] at run
    obtain ⟨piece, more, last⟩ := withPiece_eq w r.data
    refine ⟨_, w.withPiece r.data, run, by rw [finish_store_closeQueue]; rfl, piece, ?_⟩
    simp only [finish_store_slots, finish_store_shots, finish_frames]
    exact ⟨rfl, rfl, rfl, fun h => (more h).imp_right (·.trans trailer), last⟩
  · have run := exec_event (c := .trailerWriteDone) rfl hr
    have e : trailerWritten s =
        if w.written + n < 64 then setCloseQueue ({ w with written := w.written + n } :: rest)
          (clearStoreRequest (setPort { s.port with told := [] } s))
        else endClose w.slot rest (fun x => { x with check := crc32Final w.crc, checkValid := true })
          (clearStoreRequest (setPort { s.port with told := [] } s)) := by
      simp only [trailerWritten, request, whenTold_only _ ht ho, trailerDone]
      simp only [setPort, hq]
    rw [e] at run
    have slots : ∀ (v : State) j, (finish s v).slot? j = v.slot? j := fun v j => by
      simp only [State.slot?, finish_store_slots]
    refine ⟨_, run, ?_⟩
    simp only [finish_store_shots, finish_frames, finish_store_closeQueue, finish_store_slots, slots]
    by_cases part : w.written + n < 64
    · simp only [if_pos part]
      exact ⟨rfl, rfl, fun _ => ⟨rfl, rfl⟩, fun all => absurd part (Nat.not_lt.mpr all)⟩
    · simp only [if_neg part]
      obtain ⟨shots, queue⟩ := endClose_shots w.slot rest
        (fun x => { x with check := crc32Final w.crc, checkValid := true })
        (clearStoreRequest (setPort { s.port with told := [] } s))
      obtain ⟨others, closed⟩ := endClose_slots w.slot rest
        (fun x => { x with check := crc32Final w.crc, checkValid := true })
        (clearStoreRequest (setPort { s.port with told := [] } s))
      exact ⟨shots, (endClose_changes _ _ _ _).frames_eq, fun h => absurd h part, fun _ => ⟨queue, others, closed⟩⟩
  · rintro w p focus rfl rfl
    rw [trailerHead_layout]
    cases w.snapshot.focusAt <;> rfl

end Sys2Proof.Machine
end

section
/-! PROOFS. Orders taken at the head of the queue, and the orders that change settings. -/

namespace Sys2Proof.Machine
set_option Elab.async false

variable {s t u : State}

/-! ### Takes -/

section
variable {o : Order} {p : Posted} {rest : List Posted}

/-- The row of the order at the head of the queue carries it out (R181). -/
theorem AtHead.runs (h : AtHead s o p rest) {c : Instr} (row : orderRow c = some o) :
    exec c s = .next (finish s (o.take p (s.dequeued rest))) := by
  rw [exec_orderRow s row, event_of_out s h.out, takeOrder_of_atHead s _ h]

/-- What a take makes of the state, the owners' requests set aside. -/
theorem AtHead.settles (h : AtHead s o p rest) {c : Instr} (row : orderRow c = some o)
    (e : (o.take p (s.dequeued rest)).settled = t.settled) : ∃ u, exec c s = .next u ∧ u.settled = t.settled :=
  ⟨_, h.runs row, by rw [settled_finish, e]⟩

/-- An order whose values are 0 gets the reply of its result. -/
theorem answered_replied {apply : Posted → State → State × Answer} {r : Result} (h : apply p s = (t, plainAnswer r)) :
    answered apply p s = t.replied p r := by
  rw [answered, h]
  rfl

/-- A holdable order without FRAME_ALIGNED is carried out at once (R186). -/
theorem holdOr_replied {apply : Posted → State → State × Answer} {r : Result} (h : apply p s = (t, plainAnswer r))
    (ha : p.aligned = false) : holdOr apply p s = t.replied p r := by
  rw [holdOr, h, ha]
  simp [State.replied, ha]

/-- CLAMPED tells whether the value taken is another than the one carried (R183). -/
theorem clampedOr_bne {α : Type} [BEq α] [LawfulBEq α] [DecidableEq α] (a b : α) :
    clampedOr (a != b) = if a = b then .ok else .clamped := by
  by_cases h : a = b <;> simp [clampedOr, h]

theorem choice_eq (off : Nat) : p.choice off = decide (byteAt p.bytes off ≠ 0#8) := by
  have value : p.field off 1 = (byteAt p.bytes off).toNat := by simp [Posted.field, readLe]
  have zero : (byteAt p.bytes off).toNat = 0 ↔ byteAt p.bytes off = 0#8 := by
    rw [← BitVec.toNat_inj]
    exact Iff.rfl
  rw [Posted.choice, value]
  by_cases h : byteAt p.bytes off = 0#8 <;> simp [zero, h]

/-- Settles O31: the two refusals and NOP, each with its reply's bytes. -/
theorem nopAndRefusedOrdersOnlyReply : Obligations.NopAndRefusedOrdersOnlyReply := by
  intro s p rest hr hq
  refine ⟨fun unknown => event_settles (c := .unknownOrder) rfl hr ?_, fun c o row code refused => ?_,
    fun h => h.settles rfl ?_⟩
  · simp only [takeHead, hq, unknown]
    rfl
  · refine ⟨_, by rw [exec_orderRow s row, event_of_out s hr], ?_⟩
    rw [settled_finish]
    simp only [takeOrder, takeHead, hq, code, beq_self_eq_true, if_true, whenAllowed, setOrders, refused,
      Bool.false_eq_true, if_false]
    rfl
  · cases ha : p.aligned <;>
      · simp only [Order.take, answered, applyNop, ha]
        rfl

/-- A holdable order is held or carried out (R186). -/
theorem take_of_holdable (h : o.holdable = true) : ∃ apply, o.take = holdOr apply := by
  cases o <;> simp [Order.holdable] at h <;> exact ⟨_, rfl⟩

/-- Settles O32: an aligned order joins the hold list while it has a place. -/
theorem alignedOrdersAreHeld : Obligations.AlignedOrdersAreHeld := by
  intro s c o p rest row holdable h aligned
  obtain ⟨apply, e⟩ := take_of_holdable holdable
  have held : o.take p (s.dequeued rest) =
      if s.orders.hold.length < 8 then
        setOrders { (s.dequeued rest).orders with hold := s.orders.hold ++ [{ order := p, shoot := false }] }
          (s.dequeued rest)
      else refuse p .noRoom (s.dequeued rest) := by
    rw [e, holdOr, if_pos aligned]
    rfl
  refine ⟨fun room => h.settles row ?_, fun full => h.settles row ?_⟩
  · rw [held, if_pos room]
    rfl
  · rw [held, if_neg (Nat.not_lt.mpr full)]
    rfl

end

/-! ### Settings -/

/-- Settles O38: three orders of the exposure unit, each a change of one setting. -/
theorem exposureOrdersTakeEffect : Obligations.ExposureOrdersTakeEffect := by
  intro s p rest ha
  refine ⟨fun h => h.settles rfl ?_, fun h v c hv hc => h.settles rfl ?_, fun h => h.settles rfl ?_⟩
  · exact congrArg State.settled (holdOr_replied rfl ha)
  · have clamped : clampMetering v = c := by
      rw [hc]
      simp only [clampMetering, clampNat_zero, clampNat_eq (Nat.min_le_left 669 v.sMin),
        clampNat_eq (show 1 ≤ 4095 by decide), clampNat_eq (show 1 ≤ 4096 by decide),
        clampInt_eq (show (-96 : Int) ≤ 96 by decide)]
    have e : applyMeterMode p (s.dequeued rest) =
        ({ s.dequeued rest with exposure := { s.exposure with settings := c } },
          plainAnswer (if c = v then .ok else .clamped)) := by
      simp only [applyMeterMode, ← hv, clamped, clampedOr_bne]
      rfl
    exact congrArg State.settled (holdOr_replied e ha)
  · have e : applyExposureLock p (s.dequeued rest) =
        ({ s.dequeued rest with exposure := { s.exposure with lock := decide (byteAt p.bytes 0 ≠ 0#8) } },
          plainAnswer .ok) := by
      rw [applyExposureLock, choice_eq]
      rfl
    exact congrArg State.settled (holdOr_replied e ha)

/-- Settles O39: the rectangle clamped to the image. -/
theorem focusAreaClampsToTheImage : Obligations.FocusAreaClampsToTheImage := by
  intro s p rest w h v c ha hd hwh hv hc
  have clamped : clampFocusSettings s.frames.geometry v = c := by
    rw [hc]
    cases hg : s.frames.geometry <;>
      · rw [hg] at hwh
        obtain ⟨rfl, rfl⟩ := Prod.mk.inj hwh
        simp only [clampFocusSettings, clampNat_zero, Option.map, Option.getD]
  have e : applyFocusArea p (s.dequeued rest) =
      ({ s.dequeued rest with focus := { s.focus with settings := c } },
        plainAnswer (if c = v then .ok else .clamped)) := by
    have same : (s.dequeued rest).frames.geometry = s.frames.geometry := rfl
    simp only [applyFocusArea, ← hv, same, clamped, clampedOr_bne]
    rfl
  exact hd.settles rfl (congrArg State.settled (holdOr_replied e ha))

/-- Only an OFF or ACTIVE unit follows the switch, with its angles 0 (R140, R141). -/
theorem withSettings_eq (u : Steady) (v : SteadySettings) :
    u.withSettings v =
      if u.state = .off ∧ v.on = true ∧ u.view = false then { u with settings := v, state := .active, ax := 0, ay := 0 }
      else if u.state = .active ∧ v.on = false then { u with settings := v, state := .off, ax := 0, ay := 0 }
      else { u with settings := v } := by
  unfold Steady.withSettings
  split
  · next h => simp [h]
  · next h => cases v.on <;> simp [h]
  · next h => simp [h]

/-- Settles O40: the settings, and the unit by its state. -/
theorem steadyModeSwitchesTheUnit : Obligations.SteadyModeSwitchesTheUnit := by
  intro s p rest v c ha hd hv hc
  have clamped : clampSteadySettings v = c := by
    rw [hc]
    simp only [clampSteadySettings, clampNat_zero, clampNat_eq (show 6 ≤ 14 by decide),
      clampNat_eq (show 2 ≤ max 6 (min 14 v.k) by omega)]
  have on : c.on = v.on := by rw [hc]
  have e : applySteadyMode p (s.dequeued rest) =
      ({ s.dequeued rest with steady := s.steady.withSettings c }, plainAnswer (if c = v then .ok else .clamped)) := by
    simp only [applySteadyMode, ← hv, clamped, clampedOr_bne]
    rfl
  rw [withSettings_eq, on] at e
  exact hd.settles rfl (congrArg State.settled (holdOr_replied e ha))

/-- Settles O41: the limits, and the sums. -/
theorem supplyOrdersTakeEffect : Obligations.SupplyOrdersTakeEffect := by
  intro s p rest
  refine ⟨fun h iHyst vHyst hi hv => ?_, fun h => h.settles rfl rfl⟩
  have answer : clampedOr (iHyst != p.field 2 2 || vHyst != p.field 8 2) =
      if iHyst = p.field 2 2 ∧ vHyst = p.field 8 2 then .ok else .clamped := by
    by_cases i : iHyst = p.field 2 2 <;> by_cases v : vHyst = p.field 8 2 <;> simp [clampedOr, i, v]
  have e : applySupplyLimits p (s.dequeued rest) =
      ({ s.dequeued rest with
          lens :=
            { s.lens with
              supply :=
                { s.lens.supply with
                  iWarn := p.field 0 2, iHyst := iHyst, iStall := p.field 4 2, vLow := p.field 6 2,
                  vHyst := vHyst, stallCount := 0 } } },
        plainAnswer (if iHyst = p.field 2 2 ∧ vHyst = p.field 8 2 then .ok else .clamped)) := by
    simp only [applySupplyLimits, clampNat_zero, ← hi, ← hv, answer]
    rfl
  exact h.settles rfl (congrArg State.settled (answered_replied e))

/-! ### Latched bits and the alert mask -/

theorem LatchedBit.index_lt (b : LatchedBit) : b.index < 28 := by cases b <;> decide

theorem LatchedBit.index_inj {b c : LatchedBit} (h : b.index = c.index) : b = c := by
  have named : ∀ b : LatchedBit, allBits[b.index]? = some b := by intro b; cases b <;> rfl
  exact Option.some.inj ((named b).symm.trans ((congrArg (allBits[·]?) h).trans (named c)))

theorem LatchedBit.mem_allBits (b : LatchedBit) : b ∈ allBits := by cases b <;> decide

/-- The mask of a bit selects it and no other. -/
theorem LatchedBit.mask_bit (b c : LatchedBit) : b.mask.getLsbD c.index = decide (b = c) := by
  have hc := c.index_lt
  by_cases h : b = c
  · subst h
    simp [LatchedBit.mask, hc]
  · have apart : c.index ≠ b.index := fun e => h (LatchedBit.index_inj e.symm)
    simp only [LatchedBit.mask, BitVec.getLsbD_shiftLeft, BitVec.getLsbD_one, h, decide_false]
    have : c.index < b.index ∨ c.index - b.index ≠ 0 := by omega
    rcases this with h | h <;> simp [h]

/-- A condition's bit is set exactly where the condition holds. -/
theorem conditionWord_bit (s : State) (b : LatchedBit) :
    (conditionWord s).getLsbD b.index = decide (condition s b = some true) := by
  have all : ∀ (l : List LatchedBit) (w : BitVec 28),
      (l.foldl (fun w b => if condition s b = some true then w ||| b.mask else w) w).getLsbD b.index =
        (w.getLsbD b.index || decide (b ∈ l ∧ condition s b = some true)) := by
    intro l
    induction l with
    | nil => simp
    | cons c l ih =>
      intro w
      rw [List.foldl_cons, ih]
      by_cases hc : condition s c = some true
      · rw [if_pos hc, BitVec.getLsbD_or, LatchedBit.mask_bit]
        by_cases e : c = b
        · subst e; simp [hc]
        · simp [e, Ne.symm e]
      · rw [if_neg hc]
        by_cases e : c = b
        · subst e; simp [hc]
        · simp [Ne.symm e]
  rw [conditionWord, all]
  simp [b.mem_allBits]

/-- Settles O42: the bits by the mask and the conditions, and the mask itself. -/
theorem statusOrdersTakeEffect : Obligations.StatusOrdersTakeEffect := by
  intro s p rest
  refine ⟨fun h => ⟨_, h.runs rfl, fun b => ?_, ?_⟩, fun h => h.settles rfl rfl⟩
  · have same : condition (s.dequeued rest) b = condition s b := by cases b <;> rfl
    rw [finish_status_latched]
    show (clearedBits s.status.latched p.mask28 (conditionWord (s.dequeued rest))).getLsbD b.index = _
    simp only [clearedBits, BitVec.getLsbD_or, BitVec.getLsbD_and, BitVec.getLsbD_not, conditionWord_bit, same,
      b.index_lt, decide_true, Bool.true_and]
    cases s.status.latched.getLsbD b.index <;> cases p.mask28.getLsbD b.index <;> simp
  · have counters : (if p.choice 4 then Counters.zero else s.status.counters) =
        if byteAt p.bytes 4 = 0#8 then s.status.counters else Counters.zero := by
      by_cases z : byteAt p.bytes 4 = 0#8 <;> simp [choice_eq, z]
    rw [settled_finish, finish_status_latched, ← counters]
    rfl

end Sys2Proof.Machine
end

section
/-! PROOFS. Giving a motor a target, and the orders of the focus and the zoom. -/

namespace Sys2Proof.Machine
set_option Elab.async false

variable {s t u : State}

/-! ### Giving a target -/

@[simp] theorem setMotor_self (id : MotorId) (s : State) : setMotor id (s.motor id) s = s := by cases id <;> rfl

theorem latchIf_latched (c : Bool) (b : LatchedBit) (s : State) :
    (latchIf c b s).status.latched = if c then s.status.latched ||| b.mask else s.status.latched := by
  cases c <;> rfl

/-- A bit just latched is set. -/
theorem latch_bit (b : LatchedBit) (s : State) : (latch b s).status.latched.getLsbD b.index = true := by
  simp [latch, LatchedBit.mask_bit]

/-- Giving a target changes the record of the motor, and may end a ZOOM_TO (R105, R113). -/
theorem giveTarget_eq (id : MotorId) (clears : Bool) (asked : Nat) (s : State) :
    ∃ b, (id = .focus → b = false) ∧
      giveTarget id clears asked s = latchIf b .zoomDone (setMotor id ((giveTarget id clears asked s).motor id) s) := by
  have taken : ∀ m : Motor, ∃ b, (id = .focus → b = false) ∧
      setMotor id m s = latchIf b .zoomDone (setMotor id ((setMotor id m s).motor id) s) := fun m =>
    ⟨false, fun _ => rfl, by rw [motor_setMotor]; rfl⟩
  have settle : ∀ m : Motor, ∃ b, (id = .focus → b = false) ∧
      enterSettling id (setMotor id m s) =
        latchIf b .zoomDone (setMotor id ((enterSettling id (setMotor id m s)).motor id) s) := by
    intro m
    unfold enterSettling becomeIdle
    dsimp only
    split
    · refine ⟨id == .zoom && m.zoomToPending, fun h => by rw [h]; rfl, ?_⟩
      simp only [motor_setMotor, setMotor_setMotor, latchIf_motor]
    · refine ⟨false, fun _ => rfl, ?_⟩
      simp only [motor_setMotor, setMotor_setMotor]
      rfl
  have same : ∃ b, (id = .focus → b = false) ∧ s = latchIf b .zoomDone (setMotor id (s.motor id) s) :=
    ⟨false, fun _ => rfl, by rw [setMotor_self]; rfl⟩
  unfold giveTarget
  dsimp only
  split
  · exact same
  · exact same
  · exact same
  · split
    · split
      · exact settle _
      · exact taken _
    · exact same
  · split
    · exact taken _
    · exact taken _
  · split
    · exact settle _
    · exact taken _
  · split
    · exact taken _
    · exact taken _

/-- Giving the focus motor a target changes its record alone. -/
theorem giveTarget_focus_eq (clears : Bool) (asked : Nat) (s : State) :
    giveTarget .focus clears asked s =
      { s with lens := { s.lens with focus := (giveTarget .focus clears asked s).lens.focus } } := by
  obtain ⟨b, hb, h⟩ := giveTarget_eq .focus clears asked s
  rw [hb rfl] at h
  exact h

/-- Giving a motor a target leaves the other motor and the Focus unit. -/
theorem giveTarget_others (id : MotorId) (clears : Bool) (asked : Nat) (s : State) :
    (∀ j, j ≠ id → (giveTarget id clears asked s).motor j = s.motor j) ∧
      (giveTarget id clears asked s).focus = s.focus := by
  obtain ⟨b, -, h⟩ := giveTarget_eq id clears asked s
  rw [h]
  refine ⟨fun j hj => by rw [latchIf_motor, motor_setMotor_of_ne _ hj], ?_⟩
  cases b <;> cases id <;> rfl

/-- A motor in these states takes no target (R105). -/
theorem giveTarget_refused {id : MotorId} {clears : Bool} {m : Motor} (hm : m = s.motor id)
    (h : m.state = .unhomed ∨ m.state = .homing ∨ m.state = .faulted ∨ (m.state = .stalled ∧ clears = false))
    (asked : Nat) : giveTarget id clears asked s = s := by
  subst hm
  rcases h with h | h | h | ⟨h, rfl⟩
  · simp only [giveTarget, h]
  · simp only [giveTarget, h]
  · simp only [giveTarget, h]
  · simp only [giveTarget, h, Bool.false_eq_true, if_false]

/-- Settles O43: the table of R105, a row of it for each state. -/
theorem givingATargetFollowsTheTable : Obligations.GivingATargetFollowsTheTable := by
  intro s id clears asked goal m n hm hn hg
  refine ⟨fun h => giveTarget_refused hm h asked, fun h1 h2 h3 h4 => ?_⟩
  obtain ⟨target, position, state, still, start, -⟩ := m.aimed_spec id s.lens.settings.backlash goal
  have aim : if id = .focus ∧ 0 < s.lens.settings.backlash ∧ goal < m.position ∧ s.lens.settings.backlash ≤ goal then
        (m.aimed id s.lens.settings.backlash goal).aim = goal - s.lens.settings.backlash ∧
          (m.aimed id s.lens.settings.backlash goal).overshoot = true
      else (m.aimed id s.lens.settings.backlash goal).aim = goal ∧
        (m.aimed id s.lens.settings.backlash goal).overshoot = false := by
    unfold Motor.aimed
    split <;> simp
  rw [giveTarget_motor] at hn
  simp only [← hm, ← hg] at hn
  cases hs : m.state <;> simp only [hs] at hn h1 h2 h3 h4
  case unhomed => exact absurd rfl h1
  case homing => exact absurd rfl h2
  case faulted => exact absurd rfl h3
  case idle =>
    by_cases at' : goal = m.position
    · rw [if_pos at'] at hn
      subst hn
      exact ⟨target, position, aim, fun h => absurd at' h, fun _ _ => ⟨state.trans hs, still⟩, fun _ => nofun,
        fun _ h => by simp at h, fun _ h => by simp at h⟩
    · rw [if_neg at'] at hn
      subst hn
      exact ⟨target, position, aim, fun _ => rfl, fun h => absurd h at', fun h => absurd h at', fun h => absurd h at',
        fun h => absurd h at'⟩
  case settling =>
    by_cases at' : goal = m.position
    · rw [if_pos at'] at hn
      subst hn
      exact ⟨target, position, aim, fun h => absurd at' h, fun _ => nofun, fun _ _ => ⟨state.trans hs, start⟩,
        fun _ h => by simp at h, fun _ h => by simp at h⟩
    · rw [if_neg at'] at hn
      subst hn
      exact ⟨target, position, aim, fun _ => rfl, fun h => absurd h at', fun h => absurd h at', fun h => absurd h at',
        fun h => absurd h at'⟩
  all_goals
    try rw [if_pos (h4 trivial)] at hn
    by_cases certain : goal = m.position ∧ m.uncertain = false
    · rw [if_pos certain] at hn
      obtain ⟨at', sure⟩ := certain
      by_cases now : s.settleTime id = 0
      · rw [if_pos now] at hn
        subst hn
        exact ⟨target, position, aim, fun h => absurd at' h, fun _ => nofun, fun _ => nofun,
          fun _ _ h => by simp [sure] at h, fun _ _ _ => by rw [if_pos now]; exact ⟨rfl, rfl⟩⟩
      · rw [if_neg now] at hn
        subst hn
        exact ⟨target, position, aim, fun h => absurd at' h, fun _ => nofun, fun _ => nofun,
          fun _ _ h => by simp [sure] at h, fun _ _ _ => by rw [if_neg now]; exact ⟨rfl, rfl⟩⟩
    · rw [if_neg certain] at hn
      subst hn
      exact ⟨target, position, aim, fun _ => rfl, fun _ => nofun, fun _ => nofun, fun _ _ _ => rfl,
        fun h _ sure => absurd ⟨h, sure⟩ certain⟩

/-! ### A search and the focus motor -/

/-- No search in TRAVEL or FINAL: where the focus motor stands changes nothing (R86, R93). -/
theorem focusArrived_of_not (h : s.focus.state ≠ .searching .travel) (h' : s.focus.state ≠ .searching .final) :
    focusArrived s = s := by
  unfold focusArrived
  dsimp only
  split
  · next hs _ => exact absurd hs h
  · next hs => exact absurd hs h'
  · rfl

/-- Without a search the focus motor is given a target and no more. -/
theorem giveFocus_of_not (clears : Bool) (asked : Nat) (h : s.focus.state.isSearching = false) :
    giveFocus clears asked s = giveTarget .focus clears asked s := by
  have focus := (giveTarget_others .focus clears asked s).2
  refine focusArrived_of_not ?_ ?_ <;>
    · rw [focus]
      intro e
      rw [e] at h
      cases h

/-- In TRAVEL, IDLE at the sample position, a search enters SAMPLE (R86). -/
theorem focusArrived_travel {r : SearchRecord} (h : s.focus.state = .searching .travel) (hr : s.focus.search = some r) :
    focusArrived s =
      if s.lens.focus.state = .idle ∧ s.lens.focus.position = r.sample then
        setFocusState (.searching .sample) (setSearch { r with resolved := 0, sampleStart := s.partTime } s)
      else s := by
  simp only [focusArrived, h, hr]

theorem focusArrived_final (h : s.focus.state = .searching .final) :
    focusArrived s =
      if s.lens.focus.state = .idle ∧ s.lens.focus.position = s.lens.focus.target then
        latch .focusLocked (setFocusState .locked s)
      else s := by
  simp only [focusArrived, h]

/-- What a search makes of where the focus motor stands is what R86 and R93 say. -/
theorem focusArrived_arrives (s : State) : SearchArrives s (focusArrived s) := by
  have lens : (focusArrived s).lens = s.lens := by
    unfold focusArrived
    dsimp only
    split
    · split <;> rfl
    · split <;> rfl
    · rfl
  constructor
  · intro r h hr idle here
    rw [lens] at idle here
    rw [focusArrived_travel h hr, if_pos ⟨idle, here⟩]
    rfl
  · intro r h hr away
    rw [lens] at away
    rw [focusArrived_travel h hr, if_neg (by tauto)]
  · intro h idle here
    rw [lens] at idle here
    rw [focusArrived_final h, if_pos ⟨idle, here⟩]
    exact ⟨rfl, latch_bit _ _⟩
  · intro h away
    rw [lens] at away
    rw [focusArrived_final h, if_neg (by tauto)]
  · intro h h'
    rw [focusArrived_of_not h h']

/-- In TRAVEL, the motor given a target and then IDLE at the sample position takes the search to SAMPLE (R86). -/
theorem giveFocus_travel {r : SearchRecord} (clears : Bool) (asked : Nat) (h : s.focus.state = .searching .travel)
    (hr : s.focus.search = some r) {m : Motor} (hm : (giveTarget .focus clears asked s).lens.focus = m) :
    giveFocus clears asked s =
      { s with
        lens := { s.lens with focus := m }
        focus :=
          if m.state = .idle ∧ m.position = r.sample then
            { s.focus with
              state := .searching .sample, search := some { r with resolved := 0, sampleStart := s.partTime } }
          else s.focus } := by
  rw [giveFocus, giveTarget_focus_eq, hm,
    focusArrived_travel (s := { s with lens := { s.lens with focus := m } }) (r := r) h hr]
  split <;> rfl

/-! ### What changes the motors, the Focus unit and the latched bits, and nothing else -/

/-- `t` is `s` but for the two motors, the Focus unit and the latched bits. -/
def MotorsOnly (s t : State) : Prop :=
  t = { s with
    lens := { s.lens with zoom := t.lens.zoom, focus := t.lens.focus }
    focus := t.focus
    status := { s.status with latched := t.status.latched } }

namespace MotorsOnly

theorem refl (s : State) : MotorsOnly s s := rfl

theorem trans (h : MotorsOnly s t) (k : MotorsOnly t u) : MotorsOnly s u := by
  unfold MotorsOnly at *
  rw [k, h]

theorem ite {c : Prop} [Decidable c] (h : MotorsOnly s t) (k : MotorsOnly s u) : MotorsOnly s (if c then t else u) := by
  split <;> assumption

theorem setMotor (id : MotorId) (m : Motor) (s : State) : MotorsOnly s (setMotor id m s) := by cases id <;> rfl

theorem latch (b : LatchedBit) (s : State) : MotorsOnly s (latch b s) := rfl

theorem latchIf (c : Bool) (b : LatchedBit) (s : State) : MotorsOnly s (latchIf c b s) := by cases c <;> rfl

theorem setFocusState (st : FocusState) (s : State) : MotorsOnly s (setFocusState st s) := rfl

theorem setSearch (r : SearchRecord) (s : State) : MotorsOnly s (setSearch r s) := rfl

theorem becomeIdle (id : MotorId) (s : State) : MotorsOnly s (becomeIdle id s) := (setMotor id _ s).trans (latchIf _ _ _)

theorem giveTarget (id : MotorId) (clears : Bool) (asked : Nat) (s : State) :
    MotorsOnly s (giveTarget id clears asked s) := by
  obtain ⟨b, -, h⟩ := giveTarget_eq id clears asked s
  rw [h]
  exact (setMotor id _ s).trans (latchIf _ _ _)

theorem focusArrived (s : State) : MotorsOnly s (focusArrived s) := by
  unfold Machine.focusArrived
  dsimp only
  split
  · exact .ite rfl (.refl s)
  · exact .ite rfl (.refl s)
  · exact .refl s

theorem giveFocus (clears : Bool) (asked : Nat) (s : State) : MotorsOnly s (giveFocus clears asked s) :=
  (giveTarget .focus clears asked s).trans (focusArrived _)

theorem failSearch (r : FocusFailure) (s : State) : MotorsOnly s (failSearch r s) := rfl

theorem zoomTo (target speed : Nat) (s : State) : MotorsOnly s (zoomTo target speed s) := by
  have cancelled : MotorsOnly s (cancelSearchForZoom s) := .ite ((failSearch _ s).trans (giveFocus _ _ _)) (.refl s)
  exact ((cancelled.trans (setMotor .zoom _ _)).trans (giveTarget _ _ _ _)).trans
    (.ite ((setMotor .zoom _ _).trans (latch _ _)) (.refl _))

end MotorsOnly

/-! ### Focus orders -/

/-- Settles O46: without a search the motor is given the track and nothing else changes. -/
theorem focusCancelAndSetGiveTheTrack : Obligations.FocusCancelAndSetGiveTheTrack := by
  intro s p rest
  refine ⟨fun h => h.settles rfl ?_, fun h ha hf => h.settles rfl ?_, fun h ha hf => h.settles rfl ?_⟩
  · refine congrArg State.settled (answered_replied ?_)
    rw [applyFocusCancel, giveFocus_of_not _ _ rfl]
    rfl
  · refine congrArg State.settled (holdOr_replied ?_ ha)
    have answer : clampedOr (p.field 0 2 != min 4096 (p.field 0 2)) = if p.field 0 2 ≤ 4096 then .ok else .clamped := by
      by_cases h : p.field 0 2 ≤ 4096
      · simp [clampedOr, h]
      · have h' : p.field 0 2 ≠ min 4096 (p.field 0 2) := by omega
        simp [clampedOr, h, h']
    have idle : ¬(s.dequeued rest).lens.focus.state = .faulted := hf
    simp only [applyFocusSet, if_neg idle, clampNat_zero, answer]
    rw [giveFocus_of_not _ _ rfl]
    rfl
  · refine congrArg State.settled (holdOr_replied ?_ ha)
    have lost : (s.dequeued rest).lens.focus.state = .faulted := hf
    rw [applyFocusSet, if_pos lost]

/-- Settles O44: the two refusals, and the search that begins with the motor given its first sample position. -/
theorem focusStartBeginsASearch : Obligations.FocusStartBeginsASearch := by
  intro s p rest h
  refine ⟨fun lost => h.settles rfl ?_, fun sound busy => h.settles rfl ?_,
    fun sound homed zoom pInf pNear lo hi ps r hI hN hlo hhi hps hr => ?_⟩
  · refine congrArg State.settled (answered_replied ?_)
    have lost' : (s.dequeued rest).lens.focus.state = .faulted := lost
    rw [applyFocusStart, if_pos lost']
  · refine congrArg State.settled (answered_replied ?_)
    have sound' : ¬(s.dequeued rest).lens.focus.state = .faulted := sound
    have busy' : (s.dequeued rest).lens.focus.state = .homing ∨ (s.dequeued rest).lens.zoom.state ≠ .idle := busy
    rw [applyFocusStart, if_neg sound', if_pos busy']
  · have top : min s.lens.settings.fmax ps = ps := by
      have h1 : hi ≤ s.lens.settings.fmax := hhi ▸ Nat.min_le_left _ _
      have h2 : lo ≤ hi := by omega
      omega
    have search : (s.dequeued rest).newSearch (max 8 (min 128 (p.field 1 2))) = r := by
      have low : lo ≤ hi := by omega
      have same : (s.dequeued rest).newSearch (max 8 (min 128 (p.field 1 2))) = s.newSearch (max 8 (min 128 (p.field 1 2))) :=
        rfl
      rw [same, hr]
      simp only [State.newSearch, clampNat_zero, ← hI, ← hN, ← hlo, ← hhi, clampNat_eq low, ← hps]
    have sound' : ¬(s.dequeued rest).lens.focus.state = .faulted := sound
    have free : ¬((s.dequeued rest).lens.focus.state = .homing ∨ (s.dequeued rest).lens.zoom.state ≠ .idle) := by
      rintro (h | h)
      · exact homed h
      · exact h zoom
    generalize hv : ({ s.dequeued rest with
        focus :=
          { s.focus with
            mode := if p.choice 0 then FigureMode.spot else FigureMode.wide
            trail := [], search := some r, state := .searching .travel } } : State) = v
    obtain ⟨m, hm⟩ : ∃ m, (giveTarget .focus true ps v).lens.focus = m := ⟨_, rfl⟩
    have motor : v.motor .focus = s.lens.focus := by rw [← hv]; rfl
    have table := givingATargetFollowsTheTable v .focus true ps ps s.lens.focus m motor.symm hm.symm
      (by rw [← hv]; exact top.symm)
    have e : applyFocusStart p (s.dequeued rest) =
        (giveFocus true ps v,
          plainAnswer (if p.field 1 2 = max 8 (min 128 (p.field 1 2)) then .taken else .clamped)) := by
      have sample : r.ps = ps := by rw [hr]
      simp only [applyFocusStart, if_neg sound', if_neg free, clampNat_eq (show 8 ≤ 128 by decide), beginSearch,
        search, sample, ← hv]
      rfl
    have given : giveFocus true ps v =
        { v with
          lens := { v.lens with focus := m }
          focus := if m.state = .idle ∧ m.position = ps then { v.focus with state := .searching .sample } else v.focus } := by
      rw [giveFocus_travel true ps (r := r) (by rw [← hv]) (by rw [← hv]) hm, hr, ← hv, hr]
      rfl
    have mode : (if p.choice 0 then FigureMode.spot else FigureMode.wide) =
        if byteAt p.bytes 0 = 0#8 then .wide else .spot := by
      by_cases z : byteAt p.bytes 0 = 0#8 <;> simp [choice_eq, z]
    rw [mode] at hv
    refine ⟨_, h.runs rfl, ?_⟩
    have run : Order.focusStart.take p (s.dequeued rest) =
        State.replied p (if p.field 1 2 = max 8 (min 128 (p.field 1 2)) then .taken else .clamped) (giveFocus true ps v) :=
      answered_replied e
    rw [run, given]
    simp only [finish_focus, finish_lens, settled_finish, State.replied, makeReply_focus, makeReply_lens]
    have taken : s.lens.focus.state ≠ .unhomed → m.target = ps ∧ m.position = s.lens.focus.position ∧
        (ps ≠ s.lens.focus.position → m.state = .moving) ∧
        (ps = s.lens.focus.position → s.lens.focus.state = .idle → m.state = .idle) := fun h1 => by
      obtain ⟨target, position, -, away, here, -⟩ := table.2 h1 homed sound fun _ => rfl
      exact ⟨target, position, away, fun h2 h3 => (here h2 h3).1⟩
    have focus : ∀ c : Prop, ∀ _ : Decidable c,
        (if c then { v.focus with state := .searching .sample } else v.focus) =
          { s.focus with
            mode := if byteAt p.bytes 0 = 0#8 then .wide else .spot
            trail := [], search := some r, state := if c then .searching .sample else .searching .travel } := by
      intro c _
      rw [← hv]
      split <;> rfl
    rw [focus]
    refine ⟨rfl, ?_, fun idle => ⟨fun here => ?_, fun away => ?_⟩, fun unhomed => ?_, fun homed' => (taken homed').1, ?_⟩
    · dsimp only
      split
      · exact .inr rfl
      · exact .inl rfl
    · obtain ⟨-, position, -, stays⟩ := taken (by rw [idle]; decide)
      have still := stays here.symm idle
      exact ⟨if_pos ⟨still, position.trans here⟩, still⟩
    · obtain ⟨-, -, moves, -⟩ := taken (by rw [idle]; decide)
      have moving := moves (Ne.symm away)
      exact ⟨if_neg (by rw [moving]; simp), moving⟩
    · have same : m = s.lens.focus := by
        rw [← hm, giveTarget_refused motor.symm (.inl unhomed)]
        exact motor
      exact ⟨if_neg (by rw [same, unhomed]; simp), same⟩
    · rw [← hv]
      rfl

/-! ### Zoom orders -/

/-- A search that ends for the zoom (R94): the Focus unit and the focus motor, and no more but the bit. -/
theorem cancelSearchForZoom_eq (h : s.focus.state.isSearching = true) :
    cancelSearchForZoom s =
      giveTarget .focus false s.trackHere (latch .focusFailed (setFocusState (.failed .cancelled) s)) := by
  rw [cancelSearchForZoom, if_pos h]
  exact giveFocus_of_not _ _ rfl

theorem zoomDoneAtOnce_zoom (s : State) :
    (zoomDoneAtOnce s).lens.zoom =
      if s.lens.zoom.zoomToPending ∧ s.lens.zoom.state = .idle ∧ s.lens.zoom.position = s.lens.zoom.target then
        { s.lens.zoom with zoomToPending := false }
      else s.lens.zoom := by
  unfold zoomDoneAtOnce
  dsimp only
  split <;> rfl

/-- What is left of the rest when a zoom order ends at once (R113). -/
theorem zoomDoneAtOnce_others (s : State) :
    (zoomDoneAtOnce s).focus = s.focus ∧ (zoomDoneAtOnce s).lens.focus = s.lens.focus := by
  unfold zoomDoneAtOnce
  dsimp only
  split <;> exact ⟨rfl, rfl⟩

/-- What a zoom that takes a target keeps of its record, and when it is then pending (R105, R106). -/
theorem giveTarget_zoom {target goal : Nat} {m n : Motor} (hm : m = s.motor .zoom)
    (hn : n = (giveTarget .zoom true target s).motor .zoom) (hg : goal = min s.zmax target) (h1 : m.state ≠ .unhomed)
    (h2 : m.state ≠ .homing) (h3 : m.state ≠ .faulted) :
    n.target = goal ∧ n.aim = goal ∧ n.speed = m.speed ∧ n.position = m.position ∧
      (m.position ≠ goal → n.state = .moving ∧ n.zoomToPending = m.zoomToPending) ∧
      (m.position = goal → m.state = .idle → n.state = .idle ∧ n.zoomToPending = m.zoomToPending) := by
  have aimed : m.aimed .zoom s.lens.settings.backlash goal =
      { m with target := goal, aim := goal, overshoot := false } := rfl
  have top : s.topPosition .zoom = s.zmax := rfl
  rw [giveTarget_motor] at hn
  simp only [← hm, top, ← hg, aimed, if_true] at hn
  have away : m.position ≠ goal → ¬(goal = m.position ∧ m.uncertain = false) := fun h k => h k.1.symm
  have moving : n = { m with target := goal, aim := goal, overshoot := false, state := .moving } →
      n.target = goal ∧ n.aim = goal ∧ n.speed = m.speed ∧ n.position = m.position ∧
        (m.position ≠ goal → n.state = .moving ∧ n.zoomToPending = m.zoomToPending) := by
    rintro rfl
    exact ⟨rfl, rfl, rfl, rfl, fun _ => ⟨rfl, rfl⟩⟩
  have stays : n = { m with target := goal, aim := goal, overshoot := false } →
      n.target = goal ∧ n.aim = goal ∧ n.speed = m.speed ∧ n.position = m.position ∧ n.state = m.state ∧
        n.zoomToPending = m.zoomToPending := by
    rintro rfl
    exact ⟨rfl, rfl, rfl, rfl, rfl, rfl⟩
  have settles : n = (if s.settleTime .zoom = 0 then
        { m with target := goal, aim := goal, overshoot := false, state := .idle, settleStart := s.partTime
                 stillSince := s.partTime, zoomToPending := false }
      else { m with target := goal, aim := goal, overshoot := false, state := .settling, settleStart := s.partTime }) →
      n.target = goal ∧ n.aim = goal ∧ n.speed = m.speed ∧ n.position = m.position := by
    rintro rfl
    split <;> exact ⟨rfl, rfl, rfl, rfl⟩
  cases hs : m.state <;> simp only [hs] at hn
  case unhomed => exact absurd hs h1
  case homing => exact absurd hs h2
  case faulted => exact absurd hs h3
  case idle | settling =>
    by_cases here : goal = m.position
    · obtain ⟨target, aim, speed, position, state, pending⟩ := stays (hn.trans ((if_pos here).trans (by rw [← hs])))
      exact ⟨target, aim, speed, position, fun h => absurd here.symm h, fun _ h => ⟨state.trans (hs.trans h), pending⟩⟩
    · obtain ⟨target, aim, speed, position, moves⟩ := moving (hn.trans (if_neg here))
      exact ⟨target, aim, speed, position, moves, fun h => absurd h.symm here⟩
  case moving | stalled =>
    by_cases here : goal = m.position ∧ m.uncertain = false
    · obtain ⟨target, aim, speed, position⟩ := settles (hn.trans (if_pos here))
      exact ⟨target, aim, speed, position, fun h => absurd here.1.symm h, fun _ => nofun⟩
    · obtain ⟨target, aim, speed, position, moves⟩ := moving (hn.trans (if_neg here))
      exact ⟨target, aim, speed, position, moves, fun _ => nofun⟩

/-- ZOOM_TO past its refusals: the zoom takes the target, and a search ends for it (R112). -/
structure ZoomGiven (s t : State) (goal speed : Nat) : Prop where
  target   : t.lens.zoom.target = goal
  aim      : t.lens.zoom.aim = goal
  speed    : t.lens.zoom.speed = speed
  position : t.lens.zoom.position = s.lens.zoom.position
  away     : s.lens.zoom.position ≠ goal → t.lens.zoom.state = .moving ∧ t.lens.zoom.zoomToPending = true
  here     : s.lens.zoom.position = goal → s.lens.zoom.state = .idle →
    t.lens.zoom.state = .idle ∧ t.lens.zoom.zoomToPending = false ∧
      t.status.latched.getLsbD LatchedBit.zoomDone.index = true
  alone    : s.focus.state.isSearching = false → t.focus = s.focus ∧ t.lens.focus = s.lens.focus
  search   : s.focus.state.isSearching = true →
    t.focus.state = .failed .cancelled ∧ t.status.latched.getLsbD LatchedBit.focusFailed.index = true

theorem zoomTo_given (target speed : Nat) (h1 : s.lens.zoom.state ≠ .unhomed) (h2 : s.lens.zoom.state ≠ .homing)
    (h3 : s.lens.zoom.state ≠ .faulted) : ZoomGiven s (zoomTo target speed s) (min s.zmax target) speed := by
  obtain ⟨c, hc⟩ : ∃ c, cancelSearchForZoom s = c := ⟨_, rfl⟩
  have cancelled : c.lens.zoom = s.lens.zoom ∧ c.lens.settings = s.lens.settings ∧
      (s.focus.state.isSearching = false → c = s) ∧
      (s.focus.state.isSearching = true →
        c.focus.state = .failed .cancelled ∧ c.status.latched.getLsbD LatchedBit.focusFailed.index = true) := by
    cases hs : s.focus.state.isSearching with
    | false =>
      rw [cancelSearchForZoom, hs] at hc
      subst hc
      exact ⟨rfl, rfl, fun _ => rfl, nofun⟩
    | true =>
      rw [cancelSearchForZoom_eq hs, giveTarget_focus_eq] at hc
      subst hc
      exact ⟨rfl, rfl, nofun, fun _ => ⟨rfl, latch_bit _ _⟩⟩
  obtain ⟨zoom, settings, alone, search⟩ := cancelled
  obtain ⟨v, hv⟩ : ∃ v, setMotor .zoom { c.lens.zoom with speed := speed, zoomToPending := true } c = v := ⟨_, rfl⟩
  obtain ⟨z, hz⟩ : ∃ z, giveTarget .zoom true target v = z := ⟨_, rfl⟩
  have e : zoomTo target speed s = zoomDoneAtOnce z := by rw [zoomTo, hc, hv, hz]
  have top : v.zmax = s.zmax := by rw [← hv]; exact congrArg (fun x : LensSettings => 32 * x.delta) settings
  have started : v.motor .zoom = { s.lens.zoom with speed := speed, zoomToPending := true } := by
    rw [← hv, motor_setMotor, zoom]
  obtain ⟨htarget, haim, hspeed, hposition, away, here⟩ := giveTarget_zoom (target := target) started.symm
    (n := z.lens.zoom) (by rw [hz]; rfl) rfl h1 h2 h3
  rw [top] at htarget haim away here
  obtain ⟨others, focus⟩ := giveTarget_others .zoom true target v
  obtain ⟨focus', motor⟩ := zoomDoneAtOnce_others z
  have focusSame : (zoomDoneAtOnce z).focus = c.focus := by rw [focus', ← hz, focus, ← hv]; rfl
  have motorSame : (zoomDoneAtOnce z).lens.focus = c.lens.focus := by
    rw [motor, ← hz]
    exact (others .focus nofun).trans (by rw [← hv]; rfl)
  have done := zoomDoneAtOnce_zoom z
  have kept : Steers c (zoomDoneAtOnce z) := by
    rw [← hz, ← hv]
    exact ((Steers.setMotor .zoom _ c).trans (Steers.giveTarget _ _ _ _)).trans
      (.ite ((Steers.setMotor .zoom _ _).trans (Steers.latch _ _)) (.refl _))
  rw [e]
  constructor
  · rw [done]; split <;> exact htarget
  · rw [done]; split <;> exact haim
  · rw [done]; split <;> exact hspeed
  · rw [done]; split <;> exact hposition
  · intro far
    obtain ⟨moving, pending⟩ := away far
    rw [done, if_neg (by rw [moving]; simp)]
    exact ⟨moving, pending⟩
  · intro near idle
    obtain ⟨still, pending⟩ := here near idle
    have now : z.lens.zoom.zoomToPending = true ∧ z.lens.zoom.state = .idle ∧
        z.lens.zoom.position = z.lens.zoom.target := ⟨pending, still, hposition.trans (near.trans htarget.symm)⟩
    rw [done, if_pos now]
    refine ⟨still, rfl, ?_⟩
    rw [zoomDoneAtOnce, if_pos now]
    exact latch_bit _ _
  · intro idle
    rw [focusSame, motorSame, alone idle]
    exact ⟨rfl, rfl⟩
  · intro searching
    obtain ⟨failed, told⟩ := search searching
    exact ⟨by rw [focusSame, failed], kept.latched _ told⟩

/-- Settles O47: refusals by the state of the zoom; else ZOOM_TO gives the target, ZOOM_STOP the present position. -/
theorem zoomOrdersGiveTheTarget : Obligations.ZoomOrdersGiveTheTarget := by
  intro s p rest
  refine ⟨fun h ha => ⟨fun lost => h.settles rfl ?_, fun busy => h.settles rfl ?_, fun h1 h2 h3 goal speed hg hs => ?_⟩,
    fun h => ⟨fun lost => h.settles rfl ?_, fun busy => h.settles rfl ?_, fun h1 h2 h3 => h.settles rfl ?_⟩⟩
  · refine congrArg State.settled (holdOr_replied ?_ ha)
    have lost' : (s.dequeued rest).lens.zoom.state = .faulted := lost
    simp only [applyZoomTo, lost']
  · refine congrArg State.settled (holdOr_replied ?_ ha)
    have busy' : (s.dequeued rest).lens.zoom.state = .unhomed ∨ (s.dequeued rest).lens.zoom.state = .homing := busy
    rcases busy' with e | e <;> simp only [applyZoomTo, e]
  · have given := zoomTo_given (s := s.dequeued rest) (p.field 0 2) speed h2 h3 h1
    have class_eq : speedClass (p.field 2 1) = speed := hs.symm
    have answer : clampedOr (decide ((s.dequeued rest).zmax < p.field 0 2) || speed != p.field 2 1) =
        if p.field 0 2 ≤ s.zmax ∧ p.field 2 1 = speed then .ok else .clamped := by
      have same : (s.dequeued rest).zmax = s.zmax := rfl
      by_cases a : p.field 0 2 ≤ s.zmax <;> by_cases b : speed = p.field 2 1 <;>
        simp [clampedOr, same, a, b, eq_comm (a := p.field 2 1)]
    have e : applyZoomTo p (s.dequeued rest) = (zoomTo (p.field 0 2) speed (s.dequeued rest),
        plainAnswer (if p.field 0 2 ≤ s.zmax ∧ p.field 2 1 = speed then .ok else .clamped)) := by
      have state : (s.dequeued rest).lens.zoom.state = s.lens.zoom.state := rfl
      unfold applyZoomTo
      dsimp only
      rw [state, class_eq, answer]
      cases e : s.lens.zoom.state with
      | faulted => exact absurd e h1
      | unhomed => exact absurd e h2
      | homing => exact absurd e h3
      | idle => rfl
      | moving => rfl
      | settling => rfl
      | stalled => rfl
    refine ⟨_, h.runs rfl, ?_⟩
    have run : Order.zoomTo.take p (s.dequeued rest) = _ := holdOr_replied e ha
    rw [run]
    simp only [finish_focus, finish_lens, finish_status_latched, settled_finish, State.replied, makeReply_focus,
      makeReply_lens, makeReply_status]
    subst hg
    refine ⟨given.target, given.aim, given.speed, given.position, given.away, given.here, given.alone, given.search, ?_⟩
    exact (congrArg (fun v => (makeReply p _ p.aligned false v).settled) (MotorsOnly.zoomTo (p.field 0 2) speed _) :)
  · refine congrArg State.settled (answered_replied ?_)
    have lost' : (s.dequeued rest).lens.zoom.state = .faulted := lost
    simp only [applyZoomStop, lost']
  · refine congrArg State.settled (answered_replied ?_)
    have busy' : (s.dequeued rest).lens.zoom.state = .unhomed ∨ (s.dequeued rest).lens.zoom.state = .homing := busy
    rcases busy' with e | e <;> simp only [applyZoomStop, e]
  · refine congrArg State.settled (answered_replied ?_)
    have state : (s.dequeued rest).lens.zoom.state = s.lens.zoom.state := rfl
    unfold applyZoomStop
    dsimp only
    rw [state]
    cases e : s.lens.zoom.state with
    | faulted => exact absurd e h1
    | unhomed => exact absurd e h2
    | homing => exact absurd e h3
    | idle => rfl
    | moving => rfl
    | settling => rfl
    | stalled => rfl

end Sys2Proof.Machine
end

section
/-! PROOFS. The orders of the shots and slots, LENS_RESTART, SETUP_LENS and LOAD_TRACKING. -/

namespace Sys2Proof.Machine
set_option Elab.async false

variable {s t u : State}

/-! ### The end of a shot -/

/-- A release of a pinned buffer: COMPLETE, and free unless it is mapped (R38). -/
theorem release_pinned {b : Nat} (h : (s.record b).state = .pinned) :
    (release b s).frames.table = s.frames.table.set b { s.record b with state := .complete } ∧
      (release b s).frames.map = s.frames.map ∧
      (release b s).frames.free =
        if (∃ x ∈ s.frames.map, x.phys = b) then s.frames.free else insertFree b s.frames.free := by
  have mapped : (s.owner b).isSome = true ↔ ∃ x ∈ s.frames.map, x.phys = b := by
    rw [owner_isSome_iff, Frames.mapped]
    simp
  simp only [release, if_pos h, mapped]
  split <;> exact ⟨rfl, rfl, rfl⟩

theorem release_of_not {b : Nat} (h : (s.record b).state ≠ .pinned) : release b s = s := if_neg h

/-- A release changes the Frames block alone. -/
theorem release_eq (b : Nat) (s : State) : release b s = { s with frames := (release b s).frames } := by
  unfold release
  dsimp only
  split
  · split <;> rfl
  · rfl

/-- A release reads the Frames block alone. -/
theorem release_frames (b : Nat) (h : t.frames = s.frames) : (release b t).frames = (release b s).frames := by
  have record : t.record b = s.record b := by simp only [State.record, h]
  have owner : t.owner b = s.owner b := by simp only [State.owner, h]
  unfold release
  dsimp only
  rw [record, owner, h]
  split
  · split <;> simp only [setFree, setRecord, h]
  · exact h

/-- Settles O49: refused for an id no shot holds; else buffer, slot and entry are given up. -/
theorem releaseShotEndsTheShot : Obligations.ReleaseShotEndsTheShot := by
  intro s p rest h
  refine ⟨fun unknown => h.settles rfl ?_, fun e sh known => ⟨_, h.runs rfl, ?_⟩⟩
  · refine congrArg State.settled (answered_replied ?_)
    have unknown' : (s.dequeued rest).store.shotById (p.field 0 1) = none := unknown
    simp only [applyReleaseShot, unknown']
  · have run : Order.releaseShot.take p (s.dequeued rest) =
        (setSlot sh.slot Slot.freed (endShot e sh (s.dequeued rest))).replied p .ok := by
      have known' : (s.dequeued rest).store.shotById (p.field 0 1) = some (e, sh) := known
      exact answered_replied (by simp only [applyReleaseShot, known'])
    have frames : (release sh.buffer (s.dequeued rest)).frames = (release sh.buffer s).frames := release_frames _ rfl
    rw [run]
    simp only [finish_store_shots, finish_store_slots, finish_frames, settled_finish, State.replied, makeReply_frames,
      makeReply_store, endShot]
    rw [release_eq, frames]
    refine ⟨rfl, rfl, ?_, fun pinned => ?_, fun other => ?_, rfl⟩
    · by_cases pinned : (s.record sh.buffer).state = .pinned
      · exact (release_pinned pinned).2.1
      · exact (congrArg (fun v : State => v.frames.map) (release_of_not pinned) :)
    · obtain ⟨table, -, free⟩ := release_pinned pinned
      exact ⟨table, free⟩
    · exact (congrArg State.frames (release_of_not other) :)

/-! ### Slots -/

/-- Settles O50: each order by the slot's state, and by the shot for CLOSE_SLOT. -/
theorem slotOrdersFollowTheSlotState : Obligations.SlotOrdersFollowTheSlotState := by
  intro s p rest j hj
  have slot : (s.dequeued rest).slot? j = s.slot? j := rfl
  refine ⟨fun h id length hid hlen => ⟨fun dead => h.settles rfl ?_, fun x hx live => ?_⟩, fun h =>
    ⟨fun none => h.settles rfl ?_, fun x hx => ⟨fun free => h.settles rfl ?_, fun kept => h.settles rfl ?_⟩⟩⟩
  · refine congrArg State.settled (answered_replied ?_)
    simp only [applyCloseSlot, ← hj, slot]
    cases hs : s.slot? j with
    | none => rfl
    | some x =>
      obtain ⟨h1, h2⟩ := dead x hs
      have notLive : x.live = false := by simp [Slot.live, h1, h2]
      simp only [notLive, if_true]
  · have isLive : ¬x.live = false := by rcases live with e | e <;> simp [Slot.live, e]
    have taken : applyCloseSlot p (s.dequeued rest) =
        match s.store.shotById id with
        | none => (s.dequeued rest, plainAnswer .badShot)
        | some (entry, sh) =>
          if x.shotId ≠ some id then (s.dequeued rest, plainAnswer .badShot)
          else if length < 1 ∨ s.slotSize - 64 < length then (s.dequeued rest, plainAnswer .tooLong)
          else (closeSlot j x length entry sh (s.dequeued rest), plainAnswer .taken) := by
      simp only [applyCloseSlot, ← hj, slot, hx, if_neg isLive, ← hid, ← hlen]
      rfl
    refine ⟨fun bad => h.settles rfl ?_, fun e sh known mine => ⟨fun long => h.settles rfl ?_, fun h1 h2 => ?_⟩⟩
    · refine congrArg State.settled (answered_replied ?_)
      rw [taken]
      cases known : s.store.shotById id with
      | none => rfl
      | some r =>
        have other : x.shotId ≠ some id := bad.resolve_left (by rw [known]; nofun)
        simp only [if_pos other]
    · refine congrArg State.settled (answered_replied ?_)
      have tooLong : length < 1 ∨ s.slotSize - 64 < length := by omega
      rw [taken, known]
      simp only [mine, ne_eq, not_true, if_false, if_pos tooLong]
    · have fits : ¬(length < 1 ∨ s.slotSize - 64 < length) := by omega
      have e : applyCloseSlot p (s.dequeued rest) =
          (closeSlot j x length e sh (s.dequeued rest), plainAnswer .taken) := by
        rw [taken, known]
        simp only [mine, ne_eq, not_true, if_false, if_neg fits]
      have run : Order.closeSlot.take p (s.dequeued rest) = _ := answered_replied e
      have frames : (release sh.buffer (s.dequeued rest)).frames = (release sh.buffer s).frames := release_frames _ rfl
      refine ⟨_, h.runs rfl, ?_⟩
      rw [run]
      simp only [finish_frames, settled_finish, State.replied, makeReply_frames, closeSlot, endShot]
      rw [release_eq, frames]
      exact ⟨rfl, rfl⟩
  · refine congrArg State.settled (answered_replied ?_)
    simp only [applyFreeSlot, ← hj, slot, none]
  · have e : applyFreeSlot p (s.dequeued rest) = (setSlot j Slot.freed (s.dequeued rest), plainAnswer .ok) := by
      simp only [applyFreeSlot, ← hj, slot, hx]
      rcases free with e | ⟨e | e, force⟩
      · simp only [e]
      · simp only [e, choice_eq, force, ne_eq, not_false_eq_true, decide_true, if_true]
      · simp only [e, choice_eq, force, ne_eq, not_false_eq_true, decide_true, if_true]
    exact (congrArg State.settled (answered_replied e) :)
  · refine congrArg State.settled (answered_replied ?_)
    simp only [applyFreeSlot, ← hj, slot, hx]
    rcases kept with e | e | e | e | ⟨e | e, force⟩
    · simp [e]
    · simp [e]
    · simp [e]
    · simp [e]
    · simp [e, choice_eq, force]
    · simp [e, choice_eq, force]

/-! ### LENS_RESTART -/

/-- A FAULTED unit takes the state of its mode (R134, R141). -/
theorem sensingCleared_eq (s : State) :
    sensingCleared s =
      { s with
        steady :=
          if s.steady.state = .faulted then
            { s.steady with
              state := if s.steady.settings.on then .active else .off
              view := false, ax := 0, ay := 0, lastRx := 0, lastRy := 0, quietRun := 0, quiet := false }
          else s.steady } := by
  unfold sensingCleared
  split <;> rfl

/-- Settles O52: the counts and the mark, the Steadying unit, and the faulted motors. -/
theorem lensRestartRehomesFaultedMotors : Obligations.LensRestartRehomesFaultedMotors := by
  intro s p rest h
  refine ⟨_, h.runs rfl, ?_⟩
  have run : Order.lensRestart.take p (s.dequeued rest) = _ :=
    answered_replied (apply := applyLensRestart) (r := .ok) rfl
  rw [run]
  simp only [clearLinkFailures, sensingCleared_eq]
  simp only [finish_link, finish_steady, finish_lens, settled_finish, State.replied, makeReply_link, makeReply_steady,
    makeReply_lens]
  have part : (s.dequeued rest).partState = s.partState := rfl
  rw [part]
  by_cases running : s.partState = .running
  · simp only [if_pos running]
    refine ⟨rfl, fun f => if_pos f, fun f => if_neg f, fun _ f => if_pos f,
      fun f => if_neg (f.resolve_left fun n => n running), fun _ f => ?_, fun f => if_neg (f.resolve_left fun n => n running), rfl⟩
    refine (if_pos f).trans ?_
    have zoom : (if s.lens.zoom.state = .faulted then s.lens.zoom.prepared .homing else s.lens.zoom).state = .homing ↔
        s.lens.zoom.state = .faulted ∨ s.lens.zoom.state = .homing := by
      split
      · next z => exact ⟨fun _ => .inl z, fun _ => rfl⟩
      · next z => exact ⟨.inr, fun h => h.resolve_left z⟩
    exact congrArg s.lens.focus.prepared (if_congr zoom rfl rfl)
  · simp only [if_neg running]
    refine ⟨rfl, fun f => if_pos f, fun f => if_neg f, fun r => absurd r running, fun _ => rfl, fun r => absurd r running,
      fun _ => rfl, rfl⟩

/-! ### Settings of the lens -/

/-- A zoom position that changes ends a search, so the focus motor is given the track and no more (R96, R94). -/
theorem zoomChanged_eq (s : State) :
    zoomChanged s = giveTarget .focus false (focusOnZoomChange s).trackHere (focusOnZoomChange s) := by
  refine giveFocus_of_not _ _ ?_
  unfold focusOnZoomChange
  split
  · rfl
  · rfl
  · next h _ =>
    cases hs : s.focus.state with
    | searching p => exact absurd hs (h p)
    | _ => rfl

/-- With the focus motor UNHOMED, a zoom position that changes is told to the Focus unit alone. -/
theorem unhomeMotors_eq (s : State) (v : State)
    (hv : v = setLens { s.lens with zoom := Motor.unhomed, focus := Motor.unhomed, zoomHomed := false } s) :
    unhomeMotors s = if s.lens.zoom.position = 0 then v else focusOnZoomChange v := by
  have lens : (focusOnZoomChange v).lens = v.lens := by
    unfold focusOnZoomChange
    split <;> rfl
  have refused : giveTarget .focus false (focusOnZoomChange v).trackHere (focusOnZoomChange v) = focusOnZoomChange v :=
    giveTarget_refused rfl (.inl (by rw [State.motor, lens, hv]; rfl)) _
  have position : v.lens.zoom.position = 0 := by rw [hv]; rfl
  rw [unhomeMotors, ← hv, zoomMoved, position, zoomChanged_eq, refused]
  by_cases z : s.lens.zoom.position = 0
  · rw [if_neg (by simp [z]), if_pos z]
  · rw [if_pos ⟨rfl, Ne.symm z⟩, if_neg z]

theorem focusOnZoomChange_state (s : State) :
    (focusOnZoomChange s).focus.state =
      if s.focus.state = .locked then .tracking
      else if s.focus.state.isSearching = true then .failed .cancelled else s.focus.state := by
  unfold focusOnZoomChange
  split
  · next p h => simp only [h]; rfl
  · next h => simp only [h]; rfl
  · next h1 h2 =>
    cases hs : s.focus.state with
    | searching p => exact absurd hs (h1 p)
    | locked => exact absurd hs h2
    | _ => rfl

theorem getElem?_writeKnots (table ks : List Knot) (start i : Nat) :
    (writeKnots table start ks)[i]? =
      table[i]?.map fun k => if start ≤ i then ks.getD (i - start) k else k := by
  simp [writeKnots]

/-- Settles O34: settings or knots taken, and both motors UNHOMED. -/
theorem lensSetupUnhomesTheMotors : Obligations.LensSetupUnhomesTheMotors := by
  intro s p rest
  refine ⟨fun h v c hv hc u hu => h.settles rfl ?_, fun h => ⟨fun h1 h2 h3 => ⟨_, h.runs rfl, ?_⟩, fun bad => h.settles rfl ?_⟩⟩
  · have clamped : clampLensSettings v = c := by
      rw [hc]
      simp only [clampLensSettings, clampNat_zero, clampNat_eq (show 8 ≤ 128 by decide),
        clampNat_eq (show 500 ≤ 4000 by decide)]
    refine congrArg State.settled (answered_replied ?_)
    simp only [applySetupLens, ← hv, clamped, clampedOr_bne]
    exact congrArg (·, plainAnswer _) (unhomeMotors_eq (setLens { s.lens with settings := c } (s.dequeued rest)) u hu)
  · obtain ⟨ks, hks⟩ : ∃ ks, ((List.range (p.field 1 1)).map p.knot).map clampKnot = ks := ⟨_, rfl⟩
    have good : ¬(p.field 1 1 = 0 ∨ 6 < p.field 1 1 ∨ 33 < p.field 0 1 + p.field 1 1) := by omega
    obtain ⟨v, hv⟩ : ∃ v : State, v =
        { s.dequeued rest with
          lens :=
            { s.lens with
              knots := writeKnots s.lens.knots (p.field 0 1) ks
              zoom := Motor.unhomed, focus := Motor.unhomed, zoomHomed := false } } := ⟨_, rfl⟩
    have taken : (applyLoadTracking p (s.dequeued rest)).1 =
        if s.lens.zoom.position = 0 then v else focusOnZoomChange v := by
      simp only [applyLoadTracking, if_neg good, hks]
      exact unhomeMotors_eq (setLens { s.lens with knots := writeKnots s.lens.knots (p.field 0 1) ks } (s.dequeued rest)) v hv
    generalize hw : (if s.lens.zoom.position = 0 then v else focusOnZoomChange v) = w at taken
    have told : w.lens = v.lens ∧ w.exposure = s.exposure ∧ w.stats = s.stats ∧ w.frames = s.frames ∧
        w.link = s.link ∧ w.steady = s.steady ∧ w.orders = v.orders := by
      rw [← hw, hv]
      split
      · exact ⟨rfl, rfl, rfl, rfl, rfl, rfl, rfl⟩
      · unfold focusOnZoomChange
        split <;> exact ⟨rfl, rfl, rfl, rfl, rfl, rfl, rfl⟩
    obtain ⟨lens, exposure, stats, frames, link, steady, orders⟩ := told
    have run : Order.loadTracking.take p (s.dequeued rest) =
        makeReply p (applyLoadTracking p (s.dequeued rest)).2 p.aligned false w := by rw [← taken]; rfl
    have knot : ∀ a : State, (finish s (makeReply p (applyLoadTracking p a).2 p.aligned false w)).knot =
        fun i => (writeKnots s.lens.knots (p.field 0 1) ks).getD i { pInf := 0, pNear := 0, a := 0, sLim := 0, ppd16 := 0 } := by
      intro a
      funext i
      rw [State.knot, finish_lens, makeReply_lens, lens, hv]
    rw [run, knot]
    simp only [finish_lens, finish_focus, finish_exposure, finish_stats, finish_frames, finish_link, finish_steady,
      finish_orders_queue, makeReply_lens, makeReply_focus, makeReply_exposure, makeReply_stats, makeReply_frames,
      makeReply_link, makeReply_steady, makeReply_queue, lens, exposure, stats, frames, link, steady, orders]
    refine ⟨by rw [hv], by rw [hv], by rw [hv]; simp [writeKnots], by rw [hv], by rw [hv], fun i hi => ?_, ?_, trivial,
      trivial, trivial, trivial, trivial, by rw [hv]; rfl⟩
    · have known : s.lens.knots[i]? = some (s.knot i) := by
        rw [State.knot, List.getD_eq_getElem _ _ hi, List.getElem?_eq_getElem hi]
      have loaded : ks.getD (i - p.field 0 1) (s.knot i) =
          if i - p.field 0 1 < p.field 1 1 then clampKnot (p.knot (i - p.field 0 1)) else s.knot i := by
        by_cases inside : i - p.field 0 1 < p.field 1 1
        · simp [← hks, inside]
        · simp [← hks, inside]
      rw [List.getD_eq_getElem?_getD, getElem?_writeKnots, known, Option.map_some, Option.getD_some, loaded]
      by_cases after : p.field 0 1 ≤ i
      · by_cases before : i < p.field 0 1 + p.field 1 1
        · rw [if_pos after, if_pos (by omega), if_pos ⟨after, before⟩]
        · rw [if_pos after, if_neg (by omega), if_neg fun h => before h.2]
      · rw [if_neg after, if_neg fun h => after h.1]
    · rw [← hw]
      by_cases z : s.lens.zoom.position = 0
      · simp only [z, ne_eq, not_true, false_and, if_false]
        rw [hv]
        rfl
      · rw [if_neg z, focusOnZoomChange_state, hv]
        simp only [ne_eq, z, not_false_eq_true, true_and]
        rfl
  · refine congrArg State.settled (answered_replied ?_)
    have refused : p.field 1 1 = 0 ∨ 6 < p.field 1 1 ∨ 33 < p.field 0 1 + p.field 1 1 := bad
    simp only [applyLoadTracking, if_pos refused]

end Sys2Proof.Machine
end

section
/-! PROOFS. SETUP_FRAMES, SETUP_STORE and the checks of the windows; START, and the start of a round. -/

namespace Sys2Proof.Machine
set_option Elab.async false

variable {s t u : State}

/-! ### Window checks -/

/-- An extent as the pair of its base and its size. -/
def Extent.pair (e : Extent) : Nat × Nat := (e.base, e.size)

theorem meets_iff (a b : Extent) : a.meets b = false ↔ Apart a.pair b.pair := by
  simp only [Extent.meets, Extent.pair, Apart, decide_eq_false_iff_not]
  omega

/-- The checks of R5 but for alignment. -/
theorem extentsFit_iff (w : Windows) (named others : List Extent) :
    extentsFit w named others = true ↔
      (∀ a ∈ named, a.base + a.size ≤ 2 ^ 32) ∧ named.Pairwise (fun a b => Apart a.pair b.pair) ∧
        ∀ a ∈ named, Apart a.pair (w.control, 0x4000) ∧ ∀ b ∈ others, Apart a.pair b.pair := by
  simp only [extentsFit, Bool.and_eq_true, List.all_eq_true, decide_eq_true_eq, Extent.inside, meets_iff,
    Bool.not_eq_true', List.forall_mem_cons, and_assoc]
  rfl

theorem geometry_ok_iff (g : Geometry) :
    g.ok = true ↔
      (64 ≤ g.w ∧ g.w ≤ 8192 ∧ g.w % 2 = 0) ∧ (64 ≤ g.h ∧ g.h ≤ 6144 ∧ g.h % 2 = 0) ∧
      (2 * g.w ≤ g.stride ∧ g.stride ≤ 32768 ∧ g.stride % 64 = 0) ∧
      (g.mx ≤ 256 ∧ g.mx % 2 = 0 ∧ 2 * g.mx < g.w) ∧ (g.my ≤ 256 ∧ g.my % 2 = 0 ∧ 2 * g.my < g.h) ∧
      (2 ≤ g.l ∧ g.l ≤ 6) ∧ g.s ≤ 4 ∧ g.l + g.s ≤ 8 ∧ g.gp ≤ 1 := by
  simp only [Geometry.ok, Bool.and_eq_true, decide_eq_true_eq]
  tauto

/-- BUFSZ is stride × (H + 1) rounded up to 4 KiB (R20). -/
theorem bufsz_rounds (g : Geometry) :
    g.bufsz % 4096 = 0 ∧ g.stride * (g.h + 1) ≤ g.bufsz ∧ g.bufsz < g.stride * (g.h + 1) + 4096 := by
  unfold Geometry.bufsz
  generalize g.stride * (g.h + 1) = n
  omega

theorem framesFit_iff (w : Windows) (r : RawWindow) (v : ViewWindow) (p : PoolWindow) :
    framesFit w r v p = true ↔
      (∀ q ∈ [(r.base, r.size), (v.base, v.size), (p.base, p.size)],
        q.1 % 4096 = 0 ∧ q.1 + q.2 ≤ 2 ^ 32 ∧ Apart q (w.control, 0x4000) ∧
          ∀ x, w.picture = some x → Apart q (x.base, x.size)) ∧
      Apart (r.base, r.size) (v.base, v.size) ∧ Apart (r.base, r.size) (p.base, p.size) ∧
        Apart (v.base, v.size) (p.base, p.size) := by
  have others : ∀ e : Extent, (∀ b ∈ (w.picture.map PictureWindow.extent).toList, Apart e.pair b.pair) ↔
      ∀ x, w.picture = some x → Apart e.pair (x.base, x.size) := by
    intro e
    cases w.picture with
    | none => simp
    | some x => simp [PictureWindow.extent, Extent.pair]
  simp only [framesFit, Bool.and_eq_true, decide_eq_true_eq, extentsFit_iff, others, List.forall_mem_cons,
    List.pairwise_cons, List.not_mem_nil, false_implies, implies_true, and_true, List.Pairwise.nil]
  simp only [RawWindow.extent, ViewWindow.extent, PoolWindow.extent, Extent.pair]
  tauto

/-- Settles O33: taken whole or refused, and what the checks mean. -/
theorem setupFramesTakesTheGeometry : Obligations.SetupFramesTakesTheGeometry := by
  refine ⟨fun s p rest g h hg => ⟨fun ok fit => h.settles rfl ?_, fun bad => h.settles rfl ?_⟩, ?_⟩
  · have e : applySetupFrames p (s.dequeued rest) =
        (setupFrames { g with lat := min 65535 g.lat } (g.raw p.bases.1) (g.view p.bases.2.1) (g.pool p.bases.2.2)
          (s.dequeued rest), plainAnswer (if 65535 < g.lat then .clamped else .ok)) := by
      have ok' : ¬g.ok = false := by simp [ok]
      have fit' : ¬framesFit (s.dequeued rest).windows (g.raw p.bases.1) (g.view p.bases.2.1) (g.pool p.bases.2.2) =
          false := by
        rw [Bool.not_eq_false]
        exact fit
      simp only [applySetupFrames, ← hg, if_neg ok', if_neg fit', clampedOr, decide_eq_true_eq]
    exact (congrArg State.settled (answered_replied e) :)
  · refine congrArg State.settled (answered_replied ?_)
    cases ok : g.ok with
    | false => simp only [applySetupFrames, ← hg, ok, if_true]
    | true =>
      have clash : framesFit (s.dequeued rest).windows (g.raw p.bases.1) (g.view p.bases.2.1) (g.pool p.bases.2.2) =
          false := bad.resolve_left (by simp [ok])
      simp only [applySetupFrames, ← hg, ok, clash, Bool.true_eq_false, if_false, if_true]
  · rintro g w a b c vl vsz x y z rfl rfl rfl rfl rfl
    exact ⟨geometry_ok_iff g, bufsz_rounds g, rfl, rfl, rfl, framesFit_iff w _ _ _⟩

theorem slotSizeOk_iff (n : Nat) : slotSizeOk n = true ↔ ∃ k, k ≤ 8 ∧ n = 2 ^ (16 + k) := by
  simp only [slotSizeOk, List.contains_iff_mem, List.mem_map, List.mem_range]
  exact ⟨fun ⟨k, hk, e⟩ => ⟨k, by omega, e.symm⟩, fun ⟨k, hk, e⟩ => ⟨k, by omega, e.symm⟩⟩

theorem pictureOk_iff (w : Windows) (v : PictureWindow) :
    pictureOk w v = true ↔
      (∃ n, n ≤ 8 ∧ v.slotSize = 2 ^ (16 + n)) ∧ 4 ≤ v.slots ∧ v.slots ≤ 64 ∧ v.base % v.slotSize = 0 ∧
      v.base + v.size ≤ 2 ^ 32 ∧ Apart (v.base, v.size) (w.control, 0x4000) ∧
      (∀ r, w.raw = some r → Apart (v.base, v.size) (r.base, r.size)) ∧
      (∀ r, w.view = some r → Apart (v.base, v.size) (r.base, r.size)) ∧
      ∀ r, w.pool = some r → Apart (v.base, v.size) (r.base, r.size) := by
  have others : (∀ b ∈ w.frameExtents, Apart v.extent.pair b.pair) ↔
      (∀ r, w.raw = some r → Apart (v.base, v.size) (r.base, r.size)) ∧
        (∀ r, w.view = some r → Apart (v.base, v.size) (r.base, r.size)) ∧
        ∀ r, w.pool = some r → Apart (v.base, v.size) (r.base, r.size) := by
    simp only [Windows.frameExtents, List.forall_mem_append, Option.mem_toList, Option.map_eq_some_iff,
      forall_exists_index, and_imp, forall_apply_eq_imp_iff₂, and_assoc]
    rfl
  simp only [pictureOk, Bool.and_eq_true, decide_eq_true_eq, beq_iff_eq, extentsFit_iff, slotSizeOk_iff, others,
    List.forall_mem_cons, List.pairwise_cons, List.not_mem_nil, false_implies, implies_true, and_true, true_and,
    List.Pairwise.nil, and_assoc]
  rfl

/-- Settles O37: refused while a slot is busy, or for its geometry; else all slots FREE. -/
theorem setupStoreMakesTheSlots : Obligations.SetupStoreMakesTheSlots := by
  refine ⟨fun s p rest v h hv => ⟨fun free ok => ?_, fun busy => h.settles rfl ?_, fun free bad => h.settles rfl ?_⟩,
    fun p => rfl, fun w v q hq => hq ▸ pictureOk_iff w v⟩
  · have answer : clampedOr (decide (v.slots < p.field 9 1)) = if v.slots < p.field 9 1 then .clamped else .ok := by
      simp only [clampedOr, decide_eq_true_eq]
    have e : applySetupStore p (s.dequeued rest) = (setupStore v (p.field 9 1) (s.dequeued rest),
        plainAnswer (if v.slots < p.field 9 1 then .clamped else .ok)) := by
      have free' : ((s.dequeued rest).store.slots.any fun x => x.state != .free) = false :=
        List.any_eq_false.mpr fun x hx => by simp [free x hx]
      have ok' : pictureOk (s.dequeued rest).windows v = true := ok
      simp only [applySetupStore, free', ← hv, ok', Bool.false_eq_true, if_false, if_true, answer]
    obtain ⟨t, ht⟩ : ∃ t : State, t =
        { s.dequeued rest with
          windows := { s.windows with picture := some v }
          store :=
            { s.store with
              slots := List.replicate v.slots Slot.freed, lowWater := min v.slots (p.field 9 1)
              slotDirty := List.replicate 64 true } } := ⟨_, rfl⟩
    have low : t.storeLow = decide (v.slots ≤ p.field 9 1) := by
      have count : t.store.freeSlots = v.slots := by
        rw [ht, Store.freeSlots, List.countP_replicate]
        rfl
      have up : t.storeSetUp = true := by rw [ht]; rfl
      have water : t.store.lowWater = min v.slots (p.field 9 1) := by rw [ht]
      simp only [State.storeLow, up, count, water, Bool.true_and, decide_eq_decide]
      omega
    have made : setupStore v (p.field 9 1) (s.dequeued rest) =
        { t with
          status :=
            { s.status with
              latched :=
                if v.slots ≤ p.field 9 1 ∧ s.storeLow = false then s.status.latched ||| LatchedBit.storeLow.mask
                else s.status.latched } } := by
      have old : (s.dequeued rest).storeLow = s.storeLow := rfl
      rw [setupStore, clampNat_zero]
      refine (congrArg (latchStoreLow (s.dequeued rest)) ht.symm).trans ?_
      rw [latchStoreLow, low, old]
      by_cases c : v.slots ≤ p.field 9 1 ∧ s.storeLow = false
      · rw [if_pos c, c.2, decide_eq_true c.1, ht]
        rfl
      · have c' : (decide (v.slots ≤ p.field 9 1) && !s.storeLow) = false := by
          simpa using c
        rw [if_neg c, c', ht]
        rfl
    refine h.settles rfl ?_
    rw [made, ht] at e
    exact (congrArg State.settled (answered_replied e) :)
  · refine congrArg State.settled (answered_replied ?_)
    have busy' : ((s.dequeued rest).store.slots.any fun x => x.state != .free) = true := by
      obtain ⟨x, hx, hs⟩ := busy
      exact List.any_eq_true.mpr ⟨x, hx, by simpa using hs⟩
    simp only [applySetupStore, busy', if_true]
  · refine congrArg State.settled (answered_replied ?_)
    have free' : ((s.dequeued rest).store.slots.any fun x => x.state != .free) = false :=
      List.any_eq_false.mpr fun x hx => by simp [free x hx]
    have bad' : pictureOk (s.dequeued rest).windows v = false := bad
    simp only [applySetupStore, free', ← hv, bad', Bool.false_eq_true, if_false]

/-! ### START and the rounds -/

/-- A round begins with SENSE to target 0, LSEL_N low (R123, R129). -/
theorem beginRound_eq (s : State) :
    beginRound s =
      { s with
        freeCount := s.freeCount + 1
        link :=
          { s.link with
            roundStart := s.partTime, period := s.lens.settings.period, seq := s.link.seq + 1, turn := .sensing
            lselN := false
            lclk := (Config.freeLine s.freeCount).1, lmosi := (Config.freeLine s.freeCount).2
            exchange := some
              { target := .sensing, request := .sense, state := .sending, seq := s.link.seq + 1
                bytes := [0x08#8, 0x00#8, s.link.seq + 1, headerCheck 0x08#8 0x00#8 (s.link.seq + 1)]
                pollBase := s.partTime, headerIn := false } } } := rfl

/-- Settles O22: a round begins when its timer has expired outside CONFIG. -/
theorem roundStartSendsSense : Obligations.RoundStartSendsSense := by
  intro s hr idle
  refine ⟨fun active late => ?_, fun early => event_settles (c := .roundStart) rfl hr ?_⟩
  · have e : roundExpired s = beginRound s := by
      rw [roundExpired, if_pos ⟨active, late⟩, idle]
      exact if_neg active
    refine ⟨_, exec_event (c := .roundStart) rfl hr, ?_⟩
    rw [settled_finish, e, finish_link, beginRound_eq]
    rfl
  · rw [roundExpired, if_neg]
    rintro ⟨active, late⟩
    rcases early with h | h
    · exact active h
    · exact absurd h (Nat.not_lt.mpr late)

/-- The banks at START: WAITING ones FREE, an EVALUATING one stale (R59, R77). -/
theorem startBanks_bank (s : State) (id : BankId) :
    (startBanks s).bank id =
      if (s.bank id).state = .waiting then Bank.released
      else if (s.bank id).state = .evaluating then { s.bank id with stale := true } else s.bank id := by
  have one : ∀ b : Bank, b.dropWaiting.markStale =
      if b.state = .waiting then Bank.released
      else if b.state = .evaluating then { b with stale := true } else b := by
    intro b
    unfold Bank.dropWaiting Bank.markStale
    split <;> rfl
  cases id <;> exact one _

/-- The link at START: counts 0, no mark, and the first round begun (R136, R192). -/
theorem startLink_eq (v : State) :
    startLink v =
      { v with
        freeCount := v.freeCount + 1
        link :=
          { roundStart := v.partTime, period := v.lens.settings.period, seq := v.link.seq + 1, turn := .sensing
            exchange := some
              { target := .sensing, request := .sense, state := .sending, seq := v.link.seq + 1
                bytes := [0x08#8, 0x00#8, v.link.seq + 1, headerCheck 0x08#8 0x00#8 (v.link.seq + 1)]
                pollBase := v.partTime, headerIn := false }
            failSensing := 0, failZoom := 0, failFocus := 0, sensingFaulted := false, lselN := false
            lclk := (Config.freeLine v.freeCount).1, lmosi := (Config.freeLine v.freeCount).2 }
        steady :=
          if v.steady.state = .faulted then
            { v.steady with
              state := if v.steady.settings.on then .active else .off
              view := false, ax := 0, ay := 0, lastRx := 0, lastRy := 0, quietRun := 0, quiet := false }
          else v.steady } := by
  rw [startLink, clearLinkFailures, sensingCleared_eq, beginRound_eq]

/-- Settles O35: START's changes block by block. -/
theorem startBeginsHoming : Obligations.StartBeginsHoming := by
  intro s p rest g h hg
  have run : Order.start.take p (s.dequeued rest) = _ :=
    answered_replied (apply := applyStart) (r := .taken) (t := start (s.dequeued rest)) rfl
  have geometry : (s.dequeued rest).frames.geometry = some g := hg
  have frames : startFrames (s.dequeued rest) = { s.dequeued rest with frames := g.freshFrames } := by
    simp only [startFrames, geometry]
  obtain ⟨v, hv⟩ : ∃ v : State, v =
      { s.dequeued rest with
        partState := .homing, frames := g.freshFrames, stats := (startBanks s).stats
        exposure := { s.exposure with plan := Plan.initial, converged := false, underLive := false, overLive := false }
        lens :=
          { s.lens with
            zoom := s.lens.zoom.prepared .homing, focus := s.lens.focus.prepared .unhomed, zoomHomed := false
            supply := { s.lens.supply with stallCount := 0 } }
        steady := { s.steady with ax := 0, ay := 0, quietRun := 0, quiet := false }
        store := { s.store with recent := [] } } := ⟨_, rfl⟩
  have started : start (s.dequeued rest) = startLink v := by
    rw [start, frames, hv]
    rfl
  refine ⟨_, h.runs rfl, ?_⟩
  rw [run, started, startLink_eq]
  have banks : (startBanks s).stats = v.stats := by rw [hv]
  have kept := startBanks_bank s
  refine ⟨?_, fun id => ?_, ?_⟩
  · rw [settled_finish, finish_stats, finish_link]
    simp only [State.replied, makeReply_stats, makeReply_link]
    rw [hv]
    rfl
  · rw [← kept id]
    cases id <;> simp only [State.bank, finish_stats, State.replied, makeReply_stats, banks]
  · simp only [finish_stats, State.replied, makeReply_stats, ← banks]
    exact ⟨rfl, rfl, rfl, rfl⟩

end Sys2Proof.Machine
end

section
/-! PROOFS. STOP, operation by operation. -/

namespace Sys2Proof.Machine
set_option Elab.async false

variable {s t u : State}

/-! ### Replies of the hold list -/

/-- A run of replies leaves the lists of the Order unit and the size of the image. -/
structure OnlyReplies (s t : State) : Prop where
  queue : t.orders.queue = s.orders.queue
  hold  : t.orders.hold = s.orders.hold
  image : t.orders.image.length = s.orders.image.length

theorem makeReply_onlyReplies (p : Posted) (a : Answer) (i d : Bool) (s : State) : OnlyReplies s (makeReply p a i d s) :=
  ⟨rfl, rfl, by rw [makeReply_image, List.length_set]⟩

theorem OnlyReplies.trans (h : OnlyReplies s t) (k : OnlyReplies t u) : OnlyReplies s u :=
  ⟨k.queue.trans h.queue, k.hold.trans h.hold, k.image.trans h.image⟩

/-- STOP answers the aligned entries; the SHOOT entry stays (R189). -/
theorem cancelHeld_orders (s : State) :
    (cancelHeld s).orders.queue = s.orders.queue ∧ (cancelHeld s).orders.hold = s.orders.hold.filter Held.shoot ∧
      (cancelHeld s).orders.image.length = s.orders.image.length := by
  have all : OnlyReplies (setOrders { s.orders with hold := s.orders.hold.filter Held.shoot } s) (cancelHeld s) :=
    List.foldlRecOn (motive := OnlyReplies (setOrders { s.orders with hold := s.orders.hold.filter Held.shoot } s))
      (s.orders.hold.filter fun (h : Held) => !h.shoot) cancelEntry ⟨rfl, rfl, rfl⟩
      fun u hu h _ => hu.trans (makeReply_onlyReplies h.order (plainAnswer .cancelled) false false u)
  exact ⟨all.queue, all.hold, all.image⟩

/-- The SHOOT in flight ends, and its entry leaves the hold list (R189). -/
theorem endShoot_orders (a : Answer) (s : State) :
    (endShoot a s).orders.queue = s.orders.queue ∧ (endShoot a s).orders.hold = s.orders.hold.filter (fun x => !x.shoot) ∧
      (endShoot a s).orders.image.length = s.orders.image.length ∧
      (endShoot a s).store = { s.store with inflight := none } := by
  unfold endShoot
  dsimp only
  split
  · next none =>
    refine ⟨rfl, (List.filter_eq_self.mpr fun x hx => ?_).symm, rfl, rfl⟩
    simpa using List.find?_eq_none.mp none x hx
  · exact ⟨rfl, rfl, by rw [makeReply_image, List.length_set]; rfl, rfl⟩

/-! ### The shots -/

/-- A shot cancelled leaves the rest of the Store and the orders (R176). -/
theorem cancelShot_store (s : State) (e : Nat) :
    (cancelShot s e).store.shots = s.store.shots.set e none ∧
      (cancelShot s e).store.inflight = s.store.inflight ∧
      (cancelShot s e).store.closeQueue = s.store.closeQueue ∧ (cancelShot s e).orders = s.orders := by
  unfold cancelShot
  split
  · next sh h =>
    have same : (release sh.buffer s).store = s.store ∧ (release sh.buffer s).orders = s.orders := by
      rw [release_eq]
      exact ⟨rfl, rfl⟩
    simp only [endShot, setSlot, setShot, same, true_and]
  · next h =>
    refine ⟨(List.ext_getElem? fun i => ?_), rfl, rfl, rfl⟩
    rw [List.getElem?_set]
    split
    · next e' =>
      subst e'
      split
      · next inside =>
        cases hx : s.store.shots[e]? with
        | none => rw [List.getElem?_eq_none_iff] at hx; omega
        | some x =>
          cases x with
          | none => rfl
          | some sh => exact absurd hx (h sh)
      · next outside => exact List.getElem?_eq_none (Nat.not_lt.mp outside)
    · rfl

/-- STOP empties the shot table (R176). -/
theorem stopStore_store (s : State) :
    (∀ e, e < 4 → (stopStore s).store.shots.getD e none = none) ∧ (stopStore s).store.inflight = none ∧
      (stopStore s).store.closeQueue = s.store.closeQueue ∧ (stopStore s).orders.queue = s.orders.queue ∧
      (stopStore s).orders.image.length = s.orders.image.length ∧
      (stopStore s).orders.hold =
        if s.store.inflight.isSome then s.orders.hold.filter (fun x => !x.shoot) else s.orders.hold := by
  obtain ⟨v, hv⟩ : ∃ v, v = if s.store.inflight.isSome then endShoot (plainAnswer .cancelled) s else s := ⟨_, rfl⟩
  have e : stopStore s = cancelShot (cancelShot (cancelShot (cancelShot v 0) 1) 2) 3 := by rw [hv]; rfl
  have ended : v.store.inflight = none ∧ v.store.closeQueue = s.store.closeQueue ∧
      v.orders.queue = s.orders.queue ∧ v.orders.image.length = s.orders.image.length ∧
      v.orders.hold = if s.store.inflight.isSome then s.orders.hold.filter (fun x => !x.shoot) else s.orders.hold := by
    rw [hv]
    obtain ⟨queue, hold, image, store⟩ := endShoot_orders (plainAnswer .cancelled) s
    split
    · exact ⟨by rw [store], by rw [store], queue, image, hold⟩
    · next none => exact ⟨by simpa using none, rfl, rfl, rfl, rfl⟩
  obtain ⟨inflight, close, queue, image, hold⟩ := ended
  have step := cancelShot_store
  simp only [e, (step _ _).1, (step _ _).2.1, (step _ _).2.2.1, (step _ _).2.2.2]
  refine ⟨fun i hi => ?_, inflight, close, queue, image, hold⟩
  have cases : i = 0 ∨ i = 1 ∨ i = 2 ∨ i = 3 := by omega
  simp only [List.getD_eq_getElem?_getD, List.getElem?_set, List.length_set]
  rcases cases with rfl | rfl | rfl | rfl <;> (repeat' split) <;> simp_all

theorem stopStore_status (s : State) : (stopStore s).status = s.status := by
  have cancel : ∀ v : State, v.status = s.status → ∀ e ∈ List.range 4, (cancelShot v e).status = s.status := by
    intro v hv e _
    unfold cancelShot
    split
    · rw [endShot, release_eq]
      exact hv
    · exact hv
  unfold stopStore
  refine List.foldlRecOn (List.range 4) cancelShot ?_ cancel
  split
  · exact (endShoot_changes s _).status_eq
  · rfl

/-- A record that is COMPLETE and cut stays so when buffers are released (R38). -/
theorem release_cut {b c : Nat} (h : (s.record b).state = .complete ∧ (s.record b).cut = true) :
    ((release c s).record b).state = .complete ∧ ((release c s).record b).cut = true := by
  by_cases pinned : (s.record c).state = .pinned
  · have table := (release_pinned pinned).1
    have other : b ≠ c := by
      rintro rfl
      rw [h.1] at pinned
      cases pinned
    have same : (release c s).record b = s.record b := by
      simp only [State.record, table, List.getD_eq_getElem?_getD, List.getElem?_set_ne (Ne.symm other)]
    rw [same]
    exact h
  · rw [release_of_not pinned]
    exact h

theorem stopStore_cut {b : Nat} (h : (s.record b).state = .complete ∧ (s.record b).cut = true) :
    ((stopStore s).record b).state = .complete ∧ ((stopStore s).record b).cut = true := by
  have cancel : ∀ v : State, (v.record b).state = .complete ∧ (v.record b).cut = true → ∀ e ∈ List.range 4,
      ((cancelShot v e).record b).state = .complete ∧ ((cancelShot v e).record b).cut = true := by
    intro v hv e _
    unfold cancelShot
    split
    · exact release_cut (c := _) hv
    · exact hv
  unfold stopStore
  refine List.foldlRecOn (List.range 4) cancelShot ?_ cancel
  split
  · rw [State.record, (endShoot_changes s _).frames_eq]
    exact h
  · exact h

/-- A record as a cut leaves it (R41, R36). -/
def FrameRecord.cutAt (f : FrameRecord) (now : Time) : FrameRecord :=
  { f with state := .complete, cut := true, completion := some now, bank := none }

theorem cutRecord_eq (b : Nat) (s : State) :
    cutRecord b s =
      setCounters (fun c => { c with cutFrame := countUp c.cutFrame })
        (latch .frameCut (releaseBank (s.record b).bank (setRecord b ((s.record b).cutAt s.partTime) s))) := rfl

/-- A cut changes one record of the Frames block. -/
theorem cutRecord_frames (b : Nat) (s : State) :
    (cutRecord b s).frames = (setRecord b ((s.record b).cutAt s.partTime) s).frames := by
  rw [cutRecord_eq]
  exact (releaseBank_changes _ (s.record b).bank).frames_eq

/-- The filling frame is cut: COMPLETE with CUT, FRAME_CUT latched (R41). -/
theorem cutFilling_record {b : Nat} (h : s.filling? = some b) :
    (cutFilling s).record b = (s.record b).cutAt s.partTime ∧
      (cutFilling s).status.latched.getLsbD LatchedBit.frameCut.index = true := by
  have e : cutFilling s = cutRecord b s := by simp only [cutFilling, h]
  rw [e]
  refine ⟨?_, latch_bit _ _⟩
  rw [State.record, cutRecord_frames]
  exact record_setRecord _ (filling?_state h).1 _

/-- No counter of the link changes when a frame is cut. -/
theorem cutFilling_counters (s : State) :
    (cutFilling s).status.counters.correctedHeader = s.status.counters.correctedHeader ∧
      (cutFilling s).status.counters.discardedReply = s.status.counters.discardedReply ∧
      (cutFilling s).status.counters.missingReply = s.status.counters.missingReply := by
  unfold cutFilling
  split
  · next b _ =>
    have status := (releaseBank_changes (setRecord b ((s.record b).cutAt s.partTime) s) (s.record b).bank).status_eq
    rw [cutRecord_eq]
    simp only [setCounters, latch, status]
    exact ⟨rfl, rfl, rfl⟩
  · exact ⟨rfl, rfl, rfl⟩

/-! ### Parking -/

/-- A record given a target keeps its position, and nothing is pending that was not. -/
theorem giveTarget_keeps (id : MotorId) (clears : Bool) (asked : Nat) (s : State) :
    ((giveTarget id clears asked s).motor id).position = (s.motor id).position ∧
      ((s.motor id).zoomToPending = false → ((giveTarget id clears asked s).motor id).zoomToPending = false) := by
  obtain ⟨-, position, -, -, -, -, -, pending, -⟩ :=
    (s.motor id).aimed_spec id s.lens.settings.backlash (min (s.topPosition id) asked)
  rw [giveTarget_motor]
  cases (s.motor id).state <;> dsimp only <;> (repeat' split) <;> simp [position, pending]

/-- A motor that stands, moves or settles takes any target (R105). -/
theorem giveTarget_target {id : MotorId} (clears : Bool) (asked : Nat)
    (h : (s.motor id).state = .idle ∨ (s.motor id).state = .moving ∨ (s.motor id).state = .settling) :
    ((giveTarget id clears asked s).motor id).target = min (s.topPosition id) asked := by
  obtain ⟨target, -⟩ := (s.motor id).aimed_spec id s.lens.settings.backlash (min (s.topPosition id) asked)
  rw [giveTarget_motor]
  rcases h with h | h | h <;> simp only [h] <;> (repeat' split) <;> simp [target]

theorem parks_iff (m : Motor) : m.parks = true ↔ m.state = .idle ∨ m.state = .moving ∨ m.state = .settling := by
  simp only [Motor.parks, Bool.or_eq_true, beq_iff_eq, or_assoc]

theorem parks_unhomedAtStop (m : Motor) : m.unhomedAtStop.parks = m.parks ∧ m.unhomedAtStop.position = m.position ∧
    (m.state ≠ .homing → m.unhomedAtStop = m) ∧ (m.state = .homing → m.unhomedAtStop.state = .unhomed) := by
  unfold Motor.unhomedAtStop
  by_cases h : m.state = .homing
  · simp [h, Motor.parks]
    rfl
  · simp [h]

/-- What STOP makes of the lens when no search is in progress (R117, R193). -/
structure LensStops (s t : State) : Prop where
  focus    : t.focus = s.focus
  zoom     : s.lens.zoom.state = .idle ∨ s.lens.zoom.state = .moving ∨ s.lens.zoom.state = .settling →
    t.lens.zoom.target = 0 ∧ t.lens.zoom.zoomToPending = false
  homing   : s.lens.zoom.state = .homing → t.lens.zoom.state = .unhomed
  stands   : t.lens.zoom.position = s.lens.zoom.position ∧ t.lens.focus.position = s.lens.focus.position

theorem parkLens_stops (h : s.focus.state.isSearching = false) : LensStops s (parkLens s) := by
  obtain ⟨v, hv⟩ : ∃ v, v = setZoomHomed false
      (setLens { s.lens with zoom := s.lens.zoom.unhomedAtStop, focus := s.lens.focus.unhomedAtStop } s) := ⟨_, rfl⟩
  obtain ⟨w, hw⟩ : ∃ w, w = if v.lens.zoom.parks then
      giveTarget .zoom false 0 (setMotor .zoom { v.lens.zoom with zoomToPending := false, speed := 8 } v) else v := ⟨_, rfl⟩
  obtain ⟨zoomParks, zoomAt, zoomSame, zoomHoming⟩ := parks_unhomedAtStop s.lens.zoom
  have zoom : v.lens.zoom = s.lens.zoom.unhomedAtStop := by rw [hv]; rfl
  have focus : v.lens.focus = s.lens.focus.unhomedAtStop := by rw [hv]; rfl
  have quiet : v.focus = s.focus := by rw [hv]; rfl
  -- the zoom
  have first : w.focus = v.focus ∧ w.lens.focus = v.lens.focus ∧ w.lens.zoom.position = v.lens.zoom.position ∧
      (v.lens.zoom.parks = true → w.lens.zoom.target = 0 ∧ w.lens.zoom.zoomToPending = false) ∧
      (v.lens.zoom.parks = false → w = v) := by
    rw [hw]
    by_cases parks : v.lens.zoom.parks = true
    · rw [if_pos parks]
      obtain ⟨others, unit⟩ := giveTarget_others .zoom false 0
        (setMotor .zoom { v.lens.zoom with zoomToPending := false, speed := 8 } v)
      obtain ⟨position, pending⟩ := giveTarget_keeps .zoom false 0
        (setMotor .zoom { v.lens.zoom with zoomToPending := false, speed := 8 } v)
      have target := giveTarget_target (s := setMotor .zoom { v.lens.zoom with zoomToPending := false, speed := 8 } v)
        (id := .zoom) false 0 ((parks_iff _).mp parks)
      exact ⟨unit, others .focus nofun, position, fun _ => ⟨target.trans (Nat.min_zero _), pending rfl⟩,
        fun h => by rw [h] at parks; cases parks⟩
    · rw [if_neg parks]
      exact ⟨rfl, rfl, rfl, fun h => absurd h parks, fun _ => rfl⟩
  obtain ⟨unit, motor, position, parked, stays⟩ := first
  -- the focus motor
  have e : parkLens s = if w.lens.focus.parks then giveTarget .focus false (w.track 0 w.focus.d) w else w := by
    rw [← giveFocus_of_not false _ (by rw [unit, quiet]; exact h), hw, hv]
    rfl
  have last : (parkLens s).focus = w.focus ∧ (parkLens s).lens.zoom = w.lens.zoom ∧
      (parkLens s).lens.focus.position = w.lens.focus.position := by
    rw [e]
    split
    · obtain ⟨others, unit⟩ := giveTarget_others .focus false (w.track 0 w.focus.d) w
      exact ⟨unit, others .zoom nofun, (giveTarget_keeps .focus false _ w).1⟩
    · exact ⟨rfl, rfl, rfl⟩
  obtain ⟨lastUnit, lastZoom, lastAt⟩ := last
  have homingStays : s.lens.zoom.state = .homing → v.lens.zoom.parks = false := fun hs => by
    rw [zoom, zoomParks, Motor.parks, hs]
    rfl
  constructor
  · rw [lastUnit, unit, quiet]
  · intro parks
    rw [lastZoom]
    exact parked (by rw [zoom, zoomParks]; exact (parks_iff _).mpr parks)
  · intro hs
    rw [lastZoom, stays (homingStays hs), zoom]
    exact zoomHoming hs
  · rw [lastZoom, lastAt, motor, focus, position, zoom]
    exact ⟨zoomAt, (parks_unhomedAtStop _).2.1⟩

/-! ### STOP -/

theorem underWay_or (a b : Motor) : (a.underWay = true ∨ b.underWay = true) ∨ (a.underWay = false ∧ b.underWay = false) := by
  cases a.underWay <;> cases b.underWay <;> simp

/-- The lens is parked when nothing is under way: CONFIG, with the link quiet and the map rebuilt (R117). -/
theorem checkParked_cases (h : s.partState = .parking) :
    ((s.lens.zoom.underWay = true ∨ s.lens.focus.underWay = true) ∧ checkParked s = s) ∨
      (s.lens.zoom.underWay = false ∧ s.lens.focus.underWay = false ∧ checkParked s = enterConfig s) := by
  rcases underWay_or s.lens.zoom s.lens.focus with moving | ⟨zoom, focus⟩
  · refine .inl ⟨moving, if_neg fun k => ?_⟩
    rcases moving with m | m
    · rw [k.2.1] at m; cases m
    · rw [k.2.2] at m; cases m
  · exact .inr ⟨zoom, focus, if_pos ⟨h, zoom, focus⟩⟩

theorem enterConfig_table (s : State) : (enterConfig s).frames.table = s.frames.table := by
  simp only [enterConfig, Frames.rebuilt]
  split <;> rfl

/-- Settles O36: the hold list, the filling frame, the shots, the search and the lens, one after the other. -/
theorem stopParks : Obligations.StopParks := by
  intro s p rest h shots quiet
  obtain ⟨a, ha⟩ : ∃ a : State, a = { s.dequeued rest with partState := .parking } := ⟨_, rfl⟩
  obtain ⟨b1, h1⟩ : ∃ b, b = cancelHeld a := ⟨_, rfl⟩
  obtain ⟨b2, h2⟩ : ∃ b, b = cutFilling b1 := ⟨_, rfl⟩
  obtain ⟨b3, h3⟩ : ∃ b, b = stopStore b2 := ⟨_, rfl⟩
  obtain ⟨b4, h4⟩ : ∃ b, b = stopFocus b3 := ⟨_, rfl⟩
  obtain ⟨b5, h5⟩ : ∃ b, b = parkLens b4 := ⟨_, rfl⟩
  have e : applyStop p (s.dequeued rest) = (checkParked b5, plainAnswer .taken) := by
    rw [h5, h4, h3, h2, h1, ha]
    rfl
  have run : Order.stop.take p (s.dequeued rest) = (checkParked b5).replied p .taken := answered_replied e
  have c1 : Changes [.orders] a b1 := h1 ▸ cancelHeld_changes a
  have c2 : Changes [.frames, .stats, .status] b1 b2 := h2 ▸ cutFilling_changes b1
  have c3 : Changes shotParts b2 b3 := h3 ▸ stopStore_changes b2
  have c4 : Changes lensParts b3 b4 := h4 ▸ stopFocus_changes b3
  have c5 : Changes lensParts b4 b5 := h5 ▸ (parkLens_only b4).changes
  have c6 := checkParked_changes b5
  -- the replies and the Order unit
  obtain ⟨queue1, hold1, image1⟩ := cancelHeld_orders a
  obtain ⟨empty, inflight, close, queue3, image3, hold3⟩ := stopStore_store b2
  have orders : (checkParked b5).orders = b3.orders := by rw [c6.orders_eq, c5.orders_eq, c4.orders_eq]
  have store : (checkParked b5).store = b3.store := by rw [c6.store_eq, c5.store_eq, c4.store_eq]
  have store2 : b2.store = s.store := by rw [c2.store_eq, c1.store_eq, ha]; rfl
  have hold : b3.orders.hold = [] := by
    rw [h3, hold3, store2, c2.orders_eq, h1, hold1]
    have held : a.orders.hold = s.orders.hold := by rw [ha]; rfl
    rw [held]
    split
    · rw [List.filter_filter]
      exact List.filter_eq_nil_iff.mpr fun x _ => by cases x.shoot <;> simp
    · next none =>
      refine List.filter_eq_nil_iff.mpr fun x hx => ?_
      simp [quiet (by simpa using none) x hx]
  have queue : b3.orders.queue = rest := by rw [h3, queue3, c2.orders_eq, h1, queue1, ha]; rfl
  have image : b3.orders.image.length = s.orders.image.length := by rw [h3, image3, c2.orders_eq, h1, image1, ha]; rfl
  -- the lens
  have focus3 : b3.focus = s.focus := by rw [c3.focus_eq, c2.focus_eq, c1.focus_eq, ha]; rfl
  have lens4 : b4.lens = s.lens := by
    have kept : b4.lens = b3.lens := by rw [h4, stopFocus]; split <;> rfl
    rw [kept, c3.lens_eq, c2.lens_eq, c1.lens_eq, ha]
    rfl
  have focus4 : b4.focus.state = if s.focus.state.isSearching then .failed .cancelled else s.focus.state := by
    rw [h4, stopFocus, focus3]
    split
    · rfl
    · rw [focus3]
  have stops : LensStops b4 b5 := h5 ▸ parkLens_stops (by
    rw [focus4]
    cases hs : s.focus.state.isSearching
    · exact hs
    · rfl)
  have lens6 : (checkParked b5).lens = b5.lens := c6.lens_eq
  have focus6 : (checkParked b5).focus = b5.focus := c6.focus_eq
  have parking : b5.partState = .parking := by
    rw [c5.partState_eq, c4.partState_eq, c3.partState_eq, c2.partState_eq, c1.partState_eq, ha]
  have link : b5.link = s.link := by
    rw [c5.link_eq, c4.link_eq, c3.link_eq, c2.link_eq, c1.link_eq, ha]
    rfl
  -- the filling frame
  have status3 : b3.status = b2.status := h3 ▸ stopStore_status b2
  have config : (checkParked b5).status = b5.status := by
    rcases checkParked_cases parking with ⟨-, e⟩ | ⟨-, -, e⟩ <;> rw [e]
    rfl
  have stopped : Steers b3 b4 := h4 ▸ .ite (Steers.failSearch _ b3) (.refl b3)
  have latched : ∀ i, b2.status.latched.getLsbD i = true → (checkParked b5).status.latched.getLsbD i = true := by
    intro i hi
    rw [config, h5]
    exact (stopped.trans (Steers.parkLens b4)).latched i (by rw [status3]; exact hi)
  have counters : (checkParked b5).status.counters = b2.status.counters := by
    have four : b4.status.counters = b3.status.counters := by rw [h4, stopFocus]; split <;> rfl
    have five : b5.status.counters = b4.status.counters :=
      h5 ▸ (congrArg (fun v : State => v.status.counters) (show parkLens b4 = _ from parkLens_only b4) :)
    rw [config, five, four, status3]
  have cut : ∀ b, s.filling? = some b →
      ((checkParked b5).record b).state = .complete ∧ ((checkParked b5).record b).cut = true ∧
        (checkParked b5).status.latched.getLsbD LatchedBit.frameCut.index = true := by
    intro b hb
    have same : b1.frames = s.frames := by rw [c1.frames_eq, ha]; rfl
    have filling : b1.filling? = some b := by rw [← hb, State.filling?, State.filling?, same]
    obtain ⟨record, bit⟩ := cutFilling_record filling
    obtain ⟨state, mark⟩ := stopStore_cut (s := b2) (b := b) (by rw [h2, record]; exact ⟨rfl, rfl⟩)
    have table : (checkParked b5).frames.table = b3.frames.table := by
      have five : b5.frames = b3.frames := by rw [c5.frames_eq, c4.frames_eq]
      rcases checkParked_cases parking with ⟨-, e⟩ | ⟨-, -, e⟩
      · rw [e, five]
      · rw [e, enterConfig_table, five]
    have last : (checkParked b5).record b = b3.record b := by rw [State.record, State.record, table]
    rw [last, h3]
    exact ⟨state, mark, latched _ (h2 ▸ bit)⟩
  obtain ⟨corrected, discarded, missing⟩ := cutFilling_counters b1
  have counters1 : b1.status.counters = s.status.counters := by rw [c1.status_eq, ha]; rfl
  have others : (checkParked b5).exposure = s.exposure ∧ (checkParked b5).steady = s.steady ∧
      (checkParked b5).hostOut = s.hostOut := by
    refine ⟨?_, ?_, ?_⟩
    · rw [c6.exposure_eq, c5.exposure_eq, c4.exposure_eq, c3.exposure_eq, c2.exposure_eq, c1.exposure_eq, ha]
      rfl
    · rw [c6.steady_eq, c5.steady_eq, c4.steady_eq, c3.steady_eq, c2.steady_eq, c1.steady_eq, ha]
      rfl
    · rw [c6.hostOut_eq, c5.hostOut_eq, c4.hostOut_eq, c3.hostOut_eq, c2.hostOut_eq, c1.hostOut_eq, ha]
      rfl
  have states : s.lens = b4.lens := lens4.symm
  have record : ∀ (v w : State) b, (finish v (w.replied p .taken)).record b = w.record b := fun v w b => by
    simp only [State.record, finish_frames, State.replied, makeReply_frames]
  refine ⟨_, h.runs rfl, ?_⟩
  rw [run]
  simp only [record, finish_orders_hold, finish_orders_queue, finish_orders_image, finish_store_inflight,
    finish_store_shots, finish_store_closeQueue, finish_status_latched, finish_status_counters, finish_focus, finish_lens,
    finish_partState, finish_link, finish_exposure, finish_steady, finish_hostOut]
  simp only [State.replied, makeReply_hold, makeReply_queue, makeReply_image, makeReply_store, makeReply_status,
    makeReply_focus, makeReply_lens, makeReply_partState, makeReply_link, makeReply_exposure, makeReply_steady,
    makeReply_hostOut]
  rw [orders, store, lens6, focus6, counters, states, h3]
  refine ⟨h3 ▸ hold, h3 ▸ queue, inflight, empty, close.trans (by rw [store2]), cut, stops.focus ▸ focus4, stops.zoom,
    stops.homing, stops.stands.1, stops.stands.2, ?_, ?_, ?_, ?_, fun hp => ?_, others.1, others.2.1, others.2.2⟩
  · rcases checkParked_cases parking with ⟨moving, e⟩ | ⟨zoom, focus, e⟩
    · exact .inl ⟨moving, by rw [e, parking], by rw [e, link]⟩
    · exact .inr ⟨zoom, focus, by rw [e]; rfl, by rw [e, enterConfig, link]; rfl⟩
  · rw [h2, corrected, counters1]
  · rw [h2, discarded, counters1]
  · rw [h2, missing, counters1]
  · have inside : p.slot < (stopStore b2).orders.image.length := by rw [← h3, image]; exact hp
    simp [List.getD_eq_getElem?_getD, inside]

end Sys2Proof.Machine
end

section
/-! PROOFS. Gyro samples, and the drain of a slot. -/

namespace Sys2Proof.Machine
set_option Elab.async false

variable {s t u : State}

/-! ### Samples -/

/-- An entry joins the newest 127 (R146). -/
theorem appendHistory_eq (h : List GyroEntry) (e : GyroEntry) : appendHistory h e = h.drop (h.length - 127) ++ [e] := by
  unfold appendHistory
  split
  · next short => rw [show h.length - 127 = 0 by omega, List.drop_zero]
  · rfl

theorem integrate_eq (k : Nat) (a r : Int) :
    integrate k a r = max (-8388607) (min 8388607 (a + r - a / 2 ^ k)) := by
  unfold integrate angleTop
  rw [clampInt_eq (by decide)]
  norm_cast

/-- Settles O27: the three samples, each by what it makes of rates, run and angles. -/
theorem samplesTurnTheAngles : Obligations.SamplesTurnTheAngles := by
  refine ⟨fun s time u hu => by simp only [faultedSample, setSteady, appendHistory_eq, hu],
    fun s time rateX rateY u turn hu _ hturn => ?_⟩
  have angles : ∀ k rx ry, u.nextAngles k rx ry = (turn u.ax rx k, turn u.ay ry k) := by
    intro k rx ry
    simp only [Steady.nextAngles, integrate_eq, hturn]
    split <;> rfl
  refine ⟨fun rx ry run k hx hy hrun hk => ?_, fun x y hx hy => ?_⟩
  · have next : u.nextRun rx ry = run := hrun.symm
    have leak : (if u.settings.quietAt run then u.settings.kq else u.settings.k) = k := by
      simp only [SteadySettings.quietAt, decide_eq_true_eq]
      exact hk.symm
    simp only [acceptedSample, ← hu, ← hx, ← hy, next, leak, Steady.withSample, angles, appendHistory_eq]
    rfl
  · have unquiet : u.settings.quietAt 0 = false := by
      simp only [SteadySettings.quietAt, decide_eq_false_iff_not]
      omega
    simp only [missingSample, ← hu, Steady.withSample, angles, appendHistory_eq, unquiet, ← hx, ← hy]
    rfl

/-! ### Drains -/

/-- A slot's record as a drain sets it. -/
def Slot.drained (x : Slot) (verified : Bool) (cursor : Nat) (crc : BitVec 32) : Slot :=
  { x with state := .draining, drainVerified := verified, cursor := cursor, drainCrc := crc }

/-- What the mirror shows of a drain: the state, the flag and the cursor. -/
theorem differs_drained (x : Slot) (verified : Bool) (cursor : Nat) (crc : BitVec 32) :
    x.differs (x.drained verified cursor crc) = true ↔
      x.state ≠ .draining ∨ x.drainVerified ≠ verified ∨ x.cursor ≠ cursor := by
  cases x
  simp only [Slot.differs, Slot.drained, decide_eq_true_eq, ne_eq, Slot.mk.injEq, true_and, and_true]
  tauto

/-- How a read starts or continues a drain, and what it carried (R171). -/
theorem drainData_eq (x : Slot) (v : Bool) (k : BitVec 32) (o n : Nat) (data : Option (List Byte)) :
    (x.drained v x.cursor k).drainData o n data =
      x.drained (decide (data ≠ none) && v) (if data = none then x.cursor else o + n)
        (match data with
        | some bytes => if v then (bytes.take (x.length + 60 - o)).foldl crc32Byte k else k
        | none => k) := by
  cases data with
  | none => rfl
  | some bytes => cases v <;> rfl

/-- The read starts the drain, or goes on with it (R171): its flag before the data, and whether that or the data changed
what the mirror shows. -/
theorem drainRead_eq {x : Slot} {o : Nat} {starts : Prop} {verified : Bool} {crc0 : BitVec 32} {carried : Prop}
    [Decidable carried] (hstarts : starts ↔ o = 0 ∧ (x.state = .closed ∨ x.state = .drained ∨ x.state = .draining))
    (on : starts ∨ x.state = .draining)
    (hverified : verified = true ↔ carried ∧ (starts ∨ (x.drainVerified = true ∧ x.cursor = o)))
    (hs0 : starts → crc0 = 0xFFFFFFFF#32) (hn0 : ¬starts → crc0 = x.drainCrc) :
    ∃ v, x.drainRead o = some (x.drained v x.cursor crc0) ∧ verified = (decide carried && v) ∧
      ((x.state ≠ .draining ∨ x.drainVerified ≠ v ∨ v ≠ verified) ↔
        (x.state ≠ .draining ∨ verified ≠ x.drainVerified ∨ (starts ∧ x.drainVerified = false))) := by
  by_cases first : starts
  · refine ⟨true, ?_, ?_, ?_⟩
    · rw [Slot.drainRead, if_pos (hstarts.mp first), hs0 first]
      rfl
    · rw [Bool.eq_iff_iff, hverified]
      simp [first]
    · cases x.drainVerified <;> cases verified <;> simp [first]
  · have draining := on.resolve_left first
    refine ⟨x.drainVerified && x.cursor == o, ?_, ?_, ?_⟩
    · rw [Slot.drainRead, if_neg fun h => first (hstarts.mpr h), if_pos draining, hn0 first]
      simp only [Slot.drained, ← draining]
    · rw [Bool.eq_iff_iff, hverified]
      simp [first]
    · have le : verified = true → (x.drainVerified && x.cursor == o) = true := fun h => by
        obtain ⟨-, h⟩ := hverified.mp h
        simpa using h.resolve_left first
      have flag : (x.drainVerified && x.cursor == o) = true → x.drainVerified = true := fun h => by simp_all
      simp only [draining, first, ne_eq, not_true, false_or, false_and, or_false]
      generalize (x.drainVerified && x.cursor == o) = w at le flag
      cases verified <;> cases w <;> cases hd : x.drainVerified <;> simp_all

/-- Two descriptions of a change stay equivalent when a third kind joins both. -/
theorem or_with_cursor {A B C D E F : Prop} (h : (A ∨ B ∨ C) ↔ (A ∨ D ∨ E)) :
    ((A ∨ B) ∨ (C ∨ F)) ↔ (A ∨ F ∨ D ∨ E) := by tauto

/-- Settles O51: a drain that starts or goes on, and its end. -/
theorem drainChecksTheSlot : Obligations.DrainChecksTheSlot := by
  intro s t j o n x data hx ht
  refine ⟨fun idle off => ?_, fun starts verified cursor crc0 crc y hstarts on hverified hs0 hn0 hcursor hcrc hy => ?_⟩
  · have neither : x.drainRead o = none := by
      have first : ¬(o = 0 ∧ (x.state = .closed ∨ x.state = .drained ∨ x.state = .draining)) := by
        rintro ⟨rfl, h⟩
        rcases off with h0 | ⟨h1, h2⟩
        · exact absurd h0 (Nat.lt_irrefl 0)
        · tauto
      rw [Slot.drainRead, if_neg first, if_neg idle]
    have same : s.store.slots.set j x = s.store.slots := by
      obtain ⟨hj, e⟩ := List.getElem?_eq_some_iff.mp hx
      rw [← e, List.set_getElem_self]
    rw [ht]
    simp only [reportRead, hx, Slot.reported, neither, setDrained, latchSome, Bool.false_eq_true, if_false, setStore, same]
  · obtain ⟨v, read, flag, marks⟩ := drainRead_eq (carried := data ≠ none) hstarts on hverified hs0 hn0
    have fed : (x.drained v x.cursor crc0).drainData o n data = y := by
      rw [drainData_eq, ← flag, ← hcursor, hy, hcrc]
      cases data with
      | none => rfl
      | some bytes =>
        have same : v = verified := by rw [flag]; simp
        rw [same]
        rfl
    have y_eq : y = x.drained verified cursor crc := hy
    have changed : (x.differs (x.drained v x.cursor crc0) || (x.drained v x.cursor crc0).differs y) = true ↔
        (x.state ≠ .draining ∨ cursor ≠ x.cursor ∨ verified ≠ x.drainVerified ∨ (starts ∧ x.drainVerified = false)) := by
      have later := differs_drained (x.drained v x.cursor crc0) verified cursor crc
      rw [Bool.or_eq_true, differs_drained, y_eq, show x.drained verified cursor crc =
        (x.drained v x.cursor crc0).drained verified cursor crc from rfl, later]
      simp only [Slot.drained, ne_eq, not_true, false_or, or_false, eq_comm (a := x.cursor)]
      exact or_with_cursor marks
    have others : ∀ (z : Slot) (m : Bool) (b : Option LatchedBit) i, i ≠ j →
        (latchSome b (setDrained j z m s)).slot? i = s.slot? i := by
      intro z m b i hi
      have set : (setDrained j z m s).slot? i = s.slot? i := by
        cases m <;> exact slot?_setSlot_of_ne _ hi
      cases b <;> exact set
    have own : ∀ (z : Slot) (m : Bool) (b : Option LatchedBit), (latchSome b (setDrained j z m s)).slot? j = some z := by
      intro z m b
      have set : (setDrained j z m s).slot? j = some z := by
        cases m <;> exact slot?_setSlot _ hx
      cases b <;> exact set
    by_cases last : o ≤ x.length + 63 ∧ x.length + 63 < o + n
    · have e : t = latchSome y.drainEnd.2 (setDrained j y.drainEnd.1 true s) := by
        rw [ht]
        simp only [reportRead, hx, Slot.reported, read, fed, if_pos last]
      have marked : ∀ b, (latchSome b (setDrained j y.drainEnd.1 true s)).store.slotDirty =
          s.store.slotDirty.set j true := by
        intro b
        cases b <;> rfl
      have final : crc32Final y.drainCrc = crc ^^^ 0xFFFFFFFF#32 := by rw [y_eq]; rfl
      have fields : y.drainVerified = verified ∧ y.checkValid = x.checkValid ∧ y.check = x.check := by
        rw [y_eq]
        exact ⟨rfl, rfl, rfl⟩
      obtain ⟨fv, fc, fk⟩ := fields
      refine ⟨fun i hi => e ▸ others _ _ _ i hi, fun h => absurd last h, fun _ _ => ⟨e ▸ marked _, fun h1 h2 h3 => ?_,
        fun h1 h2 h3 => ?_, fun h => ?_⟩⟩
      · have ended : y.drainEnd = ({ y with state := .drained }, none) := by
          rw [Slot.drainEnd, if_pos ⟨fv.trans h1, fc.trans h2⟩, if_pos (final.trans (h3.trans fk.symm))]
        rw [e, ended]
        exact ⟨own _ _ none, rfl⟩
      · have ended : y.drainEnd = ({ y with state := .closed }, some .checkMismatch) := by
          rw [Slot.drainEnd, if_pos ⟨fv.trans h1, fc.trans h2⟩, if_neg fun k => h3 (final.symm.trans (k.trans fk))]
        rw [e, ended]
        exact ⟨own _ _ (some .checkMismatch), rfl⟩
      · have ended : y.drainEnd = ({ y with state := .closed }, some .drainUnverified) := by
          rw [Slot.drainEnd, if_neg]
          rintro ⟨k1, k2⟩
          rw [fv] at k1
          rw [fc] at k2
          rcases h with h | h
          · rw [h] at k1; cases k1
          · rw [h] at k2; cases k2
        rw [e, ended]
        exact ⟨own _ _ (some .drainUnverified), rfl⟩
    · obtain ⟨m, hm⟩ : ∃ m, (x.differs (x.drained v x.cursor crc0) || (x.drained v x.cursor crc0).differs y) = m := ⟨_, rfl⟩
      have e : t = setDrained j y m s := by
        rw [ht]
        simp only [reportRead, hx, Slot.reported, read, fed, if_neg last, hm, latchSome]
      rw [hm] at changed
      refine ⟨fun i hi => e ▸ others _ _ none i hi, fun _ => ⟨e ▸ own _ _ none, ?_, fun h => ?_, fun h1 h2 h3 h4 => ?_⟩,
        fun h1 h2 => absurd ⟨h1, h2⟩ last⟩
      · rw [e]
        cases m <;> rfl
      · rw [e, changed.mpr h]
        rfl
      · have unmarked : m = false := by
          rw [← Bool.not_eq_true, changed]
          rintro (k | k | k | k)
          · exact k h1
          · exact k h2
          · exact k h3
          · exact h4 k
        rw [e, unmarked]
        rfl

end Sys2Proof.Machine
end

section
/-! PROOFS. The header check of the lens link, and which replies are accepted. -/

namespace Sys2Proof.Machine
set_option Elab.async false

/-! ### The check is linear -/

/-- The XOR of the positions whose bit is 1, as R127 sums them. -/
def weigh (bits : List Bool) (ps : List Nat) (acc : Nat) : Nat :=
  (bits.zip ps).foldl (fun acc p => if p.1 then acc ^^^ p.2 else acc) acc

theorem weigh_acc (bits : List Bool) (ps : List Nat) (acc : Nat) : weigh bits ps acc = acc ^^^ weigh bits ps 0 := by
  induction bits generalizing ps acc with
  | nil => simp [weigh]
  | cons b bits ih =>
    cases ps with
    | nil => simp [weigh]
    | cons p ps =>
      show weigh bits ps (if b then acc ^^^ p else acc) = acc ^^^ weigh bits ps (if b then 0 ^^^ p else 0)
      rw [ih, ih ps (if b then 0 ^^^ p else 0)]
      cases b <;> simp [Nat.xor_assoc]

theorem weigh_xor (as bs : List Bool) (ps : List Nat) (h : as.length = bs.length) :
    weigh (List.zipWith xor as bs) ps 0 = weigh as ps 0 ^^^ weigh bs ps 0 := by
  induction as generalizing bs ps with
  | nil => cases bs <;> simp_all [weigh]
  | cons a as ih =>
    cases bs with
    | nil => simp at h
    | cons b bs =>
      cases ps with
      | nil => simp [weigh]
      | cons p ps =>
        have step : ∀ (c : Bool) (l : List Bool), weigh (c :: l) (p :: ps) 0 = (if c then p else 0) ^^^ weigh l ps 0 := by
          intro c l
          show weigh l ps (if c then 0 ^^^ p else 0) = _
          rw [weigh_acc]
          cases c <;> simp
        rw [List.zipWith_cons_cons, step, step, step, ih bs ps (by simpa using h)]
        cases a <;> cases b <;> simp [Nat.xor_assoc, Nat.xor_left_comm]

theorem parity_acc (bits : List Bool) (acc : Bool) : bits.foldl xor acc = (acc ^^ parity bits) := by
  induction bits generalizing acc with
  | nil => simp [parity]
  | cons b bits ih =>
    rw [parity, List.foldl_cons, List.foldl_cons, ih, ih (false ^^ b)]
    simp

theorem parity_append (as bs : List Bool) : parity (as ++ bs) = (parity as ^^ parity bs) := by
  rw [parity, List.foldl_append, parity_acc bs]
  rfl

theorem parity_xor (as bs : List Bool) (h : as.length = bs.length) :
    parity (List.zipWith xor as bs) = (parity as ^^ parity bs) := by
  induction as generalizing bs with
  | nil => cases bs <;> simp_all [parity]
  | cons a as ih =>
    cases bs with
    | nil => simp at h
    | cons b bs =>
      have step : ∀ (c : Bool) (l : List Bool), parity (c :: l) = (c ^^ parity l) := fun c l => by
        rw [parity, List.foldl_cons, parity_acc]
        simp
      rw [List.zipWith_cons_cons, step, step, step, ih bs (by simpa using h)]
      cases a <;> cases b <;> simp

theorem dataBits_xor (b0 b1 b2 m0 m1 m2 : Byte) :
    dataBits (b0 ^^^ m0) (b1 ^^^ m1) (b2 ^^^ m2) = List.zipWith xor (dataBits b0 b1 b2) (dataBits m0 m1 m2) := by
  simp [dataBits, List.range, List.range.loop]

theorem dataBits_length (b0 b1 b2 : Byte) : (dataBits b0 b1 b2).length = 24 := by
  simp [dataBits]

theorem positionsXor_xor (b0 b1 b2 m0 m1 m2 : Byte) :
    positionsXor (b0 ^^^ m0) (b1 ^^^ m1) (b2 ^^^ m2) = positionsXor b0 b1 b2 ^^^ positionsXor m0 m1 m2 := by
  show weigh _ _ 0 = weigh _ _ 0 ^^^ weigh _ _ 0
  rw [dataBits_xor, weigh_xor _ _ _ (by rw [dataBits_length, dataBits_length])]

theorem checkBits_xor (n : Nat) (c m : Byte) :
    (List.range n).map (c ^^^ m).getLsbD =
      List.zipWith xor ((List.range n).map c.getLsbD) ((List.range n).map m.getLsbD) := by
  simp [List.zipWith_map, List.zipWith_self]

/-- The syndrome and the parity of a header with bits inverted are those of the header XOR those of the inverted bits. -/
theorem header_xor (b0 b1 b2 b3 m0 m1 m2 m3 : Byte) :
    headerSyndrome (b0 ^^^ m0) (b1 ^^^ m1) (b2 ^^^ m2) (b3 ^^^ m3) =
        headerSyndrome b0 b1 b2 b3 ^^^ headerSyndrome m0 m1 m2 m3 ∧
      headerParity (b0 ^^^ m0) (b1 ^^^ m1) (b2 ^^^ m2) (b3 ^^^ m3) =
        (headerParity b0 b1 b2 b3 ^^ headerParity m0 m1 m2 m3) := by
  constructor
  · have low : (b3 ^^^ m3).toNat % 32 = b3.toNat % 32 ^^^ m3.toNat % 32 := by
      rw [BitVec.toNat_xor]
      exact Nat.xor_mod_two_pow (n := 5)
    simp only [headerSyndrome, positionsXor_xor, low]
    ac_rfl
  · simp only [headerParity, parity_append, dataBits_xor, checkBits_xor]
    rw [parity_xor _ _ (by rw [dataBits_length, dataBits_length]), parity_xor _ _ (by simp)]
    rw [Bool.xor_assoc, Bool.xor_assoc, Bool.xor_left_comm (parity (dataBits m0 m1 m2))]

/-! ### The check of a header as sent -/

theorem weigh_lt (bits : List Bool) (ps : List Nat) (acc : Nat) (hp : ∀ p ∈ ps, p < 2 ^ 5) (ha : acc < 2 ^ 5) :
    weigh bits ps acc < 2 ^ 5 := by
  induction bits generalizing ps acc with
  | nil => exact ha
  | cons b bits ih =>
    cases ps with
    | nil => exact ha
    | cons p ps =>
      have hp' := List.forall_mem_cons.mp hp
      refine ih ps (if b then acc ^^^ p else acc) hp'.2 ?_
      split
      · exact Nat.xor_lt_two_pow ha hp'.1
      · exact ha

/-- As sent a header has syndrome 0 and even parity (R127). -/
theorem header_sent (b0 b1 b2 : Byte) :
    headerSyndrome b0 b1 b2 (headerCheck b0 b1 b2) = 0 ∧ headerParity b0 b1 b2 (headerCheck b0 b1 b2) = false := by
  have small : positionsXor b0 b1 b2 < 2 ^ 5 :=
    weigh_lt (dataBits b0 b1 b2) codePositions 0 (by decide) (by decide)
  have checked : ∀ x < 2 ^ 5, ∀ d : Bool,
      x ^^^ (BitVec.ofNat 8 ((BitVec.ofNat 5 x).toNat +
          32 * flag (d ^^ parity ((List.range 5).map (BitVec.ofNat 5 x).getLsbD)))).toNat % 32 = 0 ∧
        (d ^^ parity ((List.range 6).map (BitVec.ofNat 8 ((BitVec.ofNat 5 x).toNat +
          32 * flag (d ^^ parity ((List.range 5).map (BitVec.ofNat 5 x).getLsbD)))).getLsbD)) = false := by decide
  have both := checked _ small (parity (dataBits b0 b1 b2))
  simp only [headerSyndrome, headerParity, headerCheck, parity_append]
  exact both

/-! ### One inverted bit -/

/-- The bits a syndrome inverts (R130). -/
theorem invertAt_eq (b0 b1 b2 : Byte) (n : Nat) :
    invertAt b0 b1 b2 n =
      (b0 ^^^ (invertAt 0 0 0 n).1, b1 ^^^ (invertAt 0 0 0 n).2.1, b2 ^^^ (invertAt 0 0 0 n).2.2) := by
  unfold invertAt
  split <;> simp

/-- Bits whose inversion a header check tells and takes back (R130). -/
def Corrects (m0 m1 m2 m3 : Byte) : Prop :=
  headerSyndrome m0 m1 m2 m3 ≠ 0 ∧ headerSyndrome m0 m1 m2 m3 ≤ 29 ∧ headerParity m0 m1 m2 m3 = true ∧
    invertAt 0 0 0 (headerSyndrome m0 m1 m2 m3) = (m0, m1, m2)

theorem judge_corrects {m0 m1 m2 m3 : Byte} (h : Corrects m0 m1 m2 m3) (b0 b1 b2 : Byte) :
    judgeHeader (b0 ^^^ m0) (b1 ^^^ m1) (b2 ^^^ m2) (headerCheck b0 b1 b2 ^^^ m3) = some ((b0, b1, b2), true) := by
  obtain ⟨nonzero, small, odd, inverted⟩ := h
  obtain ⟨syndrome, even⟩ := header_sent b0 b1 b2
  obtain ⟨syndrome', parity'⟩ := header_xor b0 b1 b2 (headerCheck b0 b1 b2) m0 m1 m2 m3
  rw [syndrome, Nat.zero_xor] at syndrome'
  rw [even, Bool.false_xor] at parity'
  simp only [judgeHeader, syndrome', parity', if_neg nonzero, odd, small, and_self, if_true, Option.some.injEq,
    Prod.mk.injEq, and_true]
  rw [invertAt_eq, inverted]
  simp

theorem corrects_data0 : ∀ i < 8, Corrects (1#8 <<< i) 0 0 0 := by unfold Corrects; decide
theorem corrects_data1 : ∀ i < 8, Corrects 0 (1#8 <<< i) 0 0 := by unfold Corrects; decide
theorem corrects_data2 : ∀ i < 8, Corrects 0 0 (1#8 <<< i) 0 := by unfold Corrects; decide
theorem corrects_check : ∀ i < 5, Corrects 0 0 0 (1#8 <<< i) := by unfold Corrects; decide

/-! ### Which replies are accepted -/

theorem headerCorrected_iff (h : ReplyHeader) :
    headerCorrected h = true ↔ ∃ b, judgeHeader h.b0 h.b1 h.b2 h.b3 = some (b, true) := by
  unfold headerCorrected judgedHeader
  cases judgeHeader h.b0 h.b1 h.b2 h.b3 with
  | none => simp
  | some r => cases r; simp

theorem matchesRequest_iff (x : Exchange) (b0 b1 b2 : Byte) :
    matchesRequest x b0 b1 b2 = true ↔
      b0.toNat % 8 = x.target.number ∧ b0.toNat / 8 = x.request.replyKind ∧ b2 = x.seq ∧ b1.toNat ≤ 24 ∧
        b1.toNat = x.request.replyLength := by
  simp only [matchesRequest, Bool.and_eq_true, beq_iff_eq, decide_eq_true_eq, and_assoc]

theorem checkPayload_iff (line pl : List Byte) (n : Nat) :
    checkPayload line n = some pl ↔
      pl = (List.range n).map (fun i => line.getD i 0xFF#8) ∧
        (n = 0 ∨ (crc16 pl).toNat = 256 * (line.getD n 0xFF#8).toNat + (line.getD (n + 1) 0xFF#8).toNat) := by
  have bytes : lineByte line = fun i => line.getD i 0xFF#8 := rfl
  simp only [checkPayload, bytes]
  split
  · next good => exact ⟨fun h => by cases h; exact ⟨rfl, good⟩, fun h => by rw [h.1]⟩
  · next bad => exact ⟨nofun, fun h => by rw [h.1] at h; exact absurd h.2 bad⟩

theorem judgeReply_iff (x : Exchange) (h : ReplyHeader) (line pl : List Byte) :
    judgeReply x h line = some pl ↔
      ∃ (b0 b1 b2 : Byte) (c : Bool), judgeHeader h.b0 h.b1 h.b2 h.b3 = some ((b0, b1, b2), c) ∧
        matchesRequest x b0 b1 b2 = true ∧ checkPayload line b1.toNat = some pl := by
  unfold judgeReply judgedHeader
  cases hj : judgeHeader h.b0 h.b1 h.b2 h.b3 with
  | none => simp
  | some r =>
    obtain ⟨⟨b0, b1, b2⟩, c⟩ := r
    cases hm : matchesRequest x b0 b1 b2 <;> simp [hm]

set_option maxRecDepth 20000 in
theorem crc16_digits :
    crc16 [0x31#8, 0x32#8, 0x33#8, 0x34#8, 0x35#8, 0x36#8, 0x37#8, 0x38#8, 0x39#8] = 0x29B1#16 := by decide

/-- Settles O54: the header code corrects one bit, and the conditions on a reply. -/
theorem headerCheckCorrectsOneBit : Obligations.HeaderCheckCorrectsOneBit := by
  refine ⟨fun b0 b1 b2 => ⟨?_, fun i hi => ⟨?_, ?_, ?_⟩, fun i hi => ?_⟩, crc16_digits,
    fun x h line target kind length ht hk => ⟨headerCorrected_iff h, fun pl => ?_⟩⟩
  · rw [judgeHeader, (header_sent b0 b1 b2).1]
    rfl
  · simpa using judge_corrects (corrects_data0 i hi) b0 b1 b2
  · simpa using judge_corrects (corrects_data1 i hi) b0 b1 b2
  · simpa using judge_corrects (corrects_data2 i hi) b0 b1 b2
  · simpa using judge_corrects (corrects_check i hi) b0 b1 b2
  · have number : x.target.number = target := by rw [ht]; cases x.target <;> rfl
    have form : x.request.replyKind = kind ∧ x.request.replyLength = length := by
      cases hr : x.request <;>
        · rw [hr] at hk
          obtain ⟨rfl, rfl⟩ := Prod.mk.inj hk
          exact ⟨rfl, rfl⟩
    simp only [judgeReply_iff, matchesRequest_iff, checkPayload_iff, number, form.1, form.2, and_assoc]
    constructor
    · rintro ⟨b0, b1, b2, c, judged, h1, h2, h3, h4, h5, h6, h7⟩
      exact ⟨b0, b1, b2, c, judged, h1, h2, h3, h4, h5, h5 ▸ h6, h5 ▸ h7⟩
    · rintro ⟨b0, b1, b2, c, judged, h1, h2, h3, h4, h5, h6, h7⟩
      exact ⟨b0, b1, b2, c, judged, h1, h2, h3, h4, h5, h5 ▸ h6, h5 ▸ h7⟩

end Sys2Proof.Machine
end

section
/-! PROOFS. Pixels given to a bank. -/

namespace Sys2Proof.Machine
set_option Elab.async false

variable {s t u : State}

/-- A whole pixel of a write of two bytes: the one site it may hold (R45). -/
theorem greenSites_pixel {g : Geometry} {t : HostTransaction} {x y o : Nat} (gp : Nat) (hx : x < g.w) (hy : y < g.h)
    (hs : 2 * g.w ≤ g.stride) (hlen : t.len = 2) (ho : o = (y + 1) * g.stride + 2 * x) :
    greenSites g gp o t =
      if (x + y + gp) % 2 = 1 ∧ t.mask.getD 0 false = true ∧ t.mask.getD 1 false = true then
        [{ y := y, x := x, v := readLe t.data 0 2 % 4096 }]
      else [] := by
  have inLine : 2 * x < g.stride := by omega
  have line : o / g.stride = y + 1 := by
    rw [ho, Nat.add_comm, Nat.add_mul_div_right _ _ (by omega), Nat.div_eq_of_lt inLine, Nat.zero_add]
  have column : o % g.stride = 2 * x := by
    rw [ho, Nat.add_comm, Nat.add_mul_mod_self_right, Nat.mod_eq_of_lt inLine]
  have past : g.stride ≤ o := by
    rw [ho]
    have : g.stride ≤ (y + 1) * g.stride := Nat.le_mul_of_pos_left _ (by omega)
    omega
  have pixel : isPixelByte g o = true := by
    simp only [isPixelByte, line, column, decide_eq_true_eq]
    omega
  have first : pixelAt g o t 0 =
      if t.mask.getD 0 false = true ∧ t.mask.getD 1 false = true then
        some { y := y, x := x, v := readLe t.data 0 2 % 4096 } else none := by
    simp only [pixelAt, Nat.add_zero, Nat.zero_add, pixel, column, line, hlen, true_and, Nat.one_lt_ofNat,
      Nat.mul_mod_right, Nat.add_sub_cancel, Nat.mul_div_cancel_left x (show 0 < 2 by decide)]
  have second : pixelAt g o t 1 = none := by
    simp only [pixelAt, hlen]
    rw [if_neg]
    omega
  have sites : (List.range t.len).filterMap (pixelAt g o t) =
      if t.mask.getD 0 false = true ∧ t.mask.getD 1 false = true then
        [{ y := y, x := x, v := readLe t.data 0 2 % 4096 }] else [] := by
    rw [hlen, show List.range 2 = [0, 1] from rfl, List.filterMap_cons, List.filterMap_cons, first, second]
    split <;> simp_all
  have green : isGreen gp { y := y, x := x, v := readLe t.data 0 2 % 4096 } = decide ((x + y + gp) % 2 = 1) := rfl
  rw [greenSites, sites]
  by_cases masks : t.mask.getD 0 false = true ∧ t.mask.getD 1 false = true
  · rw [if_pos masks, List.filter_cons, green]
    simp only [masks, and_self, and_true, decide_eq_true_eq, List.filter_nil]
  · rw [if_neg masks, if_neg fun h => masks h.2]
    rfl

/-- The cored difference is of the two values' distance (R50). -/
theorem coredDifference_eq (core a b : Nat) : coredDifference core a b = ((a : Int) - b).natAbs - core := by
  unfold coredDifference
  omega

/-- Settles O15: one site into its zone, bin and cell, or none. -/
theorem pixelFeedsTheBank : Obligations.PixelFeedsTheBank := by
  intro g t b x y v z o hx hy hs _ hlen hv hz ho
  have sites := greenSites_pixel b.settings.gp hx hy hs hlen ho
  rw [← hv] at sites
  refine ⟨fun none => ?_, fun odd m0 m1 => ?_⟩
  · have not : ¬((x + y + b.settings.gp) % 2 = 1 ∧ t.mask.getD 0 false = true ∧ t.mask.getD 1 false = true) := by
      rintro ⟨h1, h2, h3⟩
      rcases none with h | h | h
      · omega
      · rw [h] at h2; cases h2
      · rw [h] at h3; cases h3
    rw [accumulate, sites, if_neg not]
    rfl
  · have e : accumulate g o t b = addSite g b { y := y, x := x, v := v } := by
      rw [accumulate, sites, if_pos ⟨odd, m0, m1⟩]
      rfl
    rw [e]
    refine ⟨by rw [hz]; rfl, fun apart => ?_, fun q k hq hy' hx' here there => ?_⟩
    · show addPair b.settings b.carry _ b.cells = b.cells
      unfold addPair
      split
      · next q k hq here =>
        refine if_neg ?_
        rintro ⟨h1, h2, h3⟩
        have h1' : q.y = y := h1
        exact apart q hq h1 h2 ((h1' ▸ h3).trans here.symm)
      · rfl
    · show addPair b.settings b.carry _ b.cells = _
      have pair : q.y = y ∧ q.x + 2 = x ∧ cellOf b.settings q.x q.y = some k := ⟨hy', hx', hy' ▸ there⟩
      simp only [addPair, hq, here, if_pos pair, bump, coredDifference_eq]
      rfl

end Sys2Proof.Machine
end

section
/-! PROOFS. Fields of records of bytes, and those of a result record. -/

namespace Sys2Proof.Machine
set_option Elab.async false

variable {s t u v : State}

/-! ### Fields of a record of bytes -/

@[simp] theorem length_le (x n : Nat) : (le x n).length = n := by
  induction n generalizing x with
  | zero => rfl
  | succ n ih => simp [le, ih]

@[simp] theorem length_leSigned (x : Int) (n : Nat) : (leSigned x n).length = n := length_le _ n

@[simp] theorem length_fit (n : Nat) (bs : List Byte) : (fit n bs).length = n := by simp [fit, zeros]

/-- A byte within the bytes a record is filled from is theirs. -/
theorem byteAt_fit {n i : Nat} {bs : List Byte} (hi : i < n) : byteAt (fit n bs) i = byteAt bs i := by
  by_cases h : i < bs.length
  · simp [byteAt, fit, List.getD, hi, List.getElem?_append_left h]
  · have past : bs.length ≤ i := Nat.le_of_not_lt h
    have zero : (zeros n)[i - bs.length]? = some 0 := by
      simp only [zeros, List.getElem?_replicate]
      rw [if_pos (by omega)]
    simp only [byteAt, fit, List.getD, List.getElem?_take_of_lt hi, List.getElem?_append_right past, zero,
      List.getElem?_eq_none past]
    rfl

/-- The bytes behind the first ones are those of the rest. -/
theorem byteAt_append (pre rest : List Byte) (i : Nat) : byteAt (pre ++ rest) (pre.length + i) = byteAt rest i := by
  rw [byteAt, byteAt, List.getD, List.getD, List.getElem?_append_right (by omega), Nat.add_sub_cancel_left]

theorem readLe_congr {bs cs : List Byte} {i j : Nat} (n : Nat) (h : ∀ k < n, byteAt bs (i + k) = byteAt cs (j + k)) :
    readLe bs i n = readLe cs j n := by
  induction n generalizing i j with
  | zero => rfl
  | succ n ih =>
    have rest := ih (i := i + 1) (j := j + 1) fun k hk => by
      rw [Nat.add_assoc, Nat.add_assoc, Nat.add_comm 1 k]
      exact h (k + 1) (by omega)
    rw [readLe, readLe, rest, show byteAt bs i = byteAt cs j from h 0 (by omega)]

/-- A value written in n bytes is read back modulo 256^n. -/
theorem readLe_le (x n : Nat) (rest : List Byte) : readLe (le x n ++ rest) 0 n = x % 256 ^ n := by
  induction n generalizing x with
  | zero => simp [readLe, Nat.mod_one]
  | succ n ih =>
    have shift : readLe (le x (n + 1) ++ rest) 1 n = readLe (le (x / 256) n ++ rest) 0 n :=
      readLe_congr n fun k _ => by
        rw [Nat.add_comm 1 k, Nat.zero_add]
        rfl
    have first : (byteAt (le x (n + 1) ++ rest) 0).toNat = x % 256 := by
      show (BitVec.ofNat 8 x).toNat = _
      simp
    rw [readLe, first, shift, ih, Nat.pow_succ', Nat.mod_mul]

/-- A field of a record that is filled to its length. -/
theorem readLe_field {pre rest : List Byte} {i n m : Nat} (x : Nat) (hp : pre.length = i) (hm : i + n ≤ m) :
    readLe (fit m (pre ++ (le x n ++ rest))) i n = x % 256 ^ n := by
  rw [← readLe_le x n rest]
  refine readLe_congr n fun k hk => ?_
  rw [byteAt_fit (by omega), ← hp, byteAt_append, Nat.zero_add]

/-! ### The fields of a result record (R204) -/

@[simp] theorem length_exposureBytes (r : ResultInput) : r.exposureBytes.length = 25 := by
  unfold ResultInput.exposureBytes
  cases r.eo.n <;> simp

@[simp] theorem length_frameBytes (r : ResultInput) : r.frameBytes.length = 52 := by
  unfold ResultInput.frameBytes
  dsimp only
  simp only [List.length_append, length_le, length_leSigned]

/-- The sequence number stands first. -/
theorem readLe_seq (r : ResultInput) : readLe r.bytes 0 2 = r.seq % 65536 := by
  have split : ∃ rest, r.bytes = fit 512 ([] ++ (le r.seq 2 ++ rest)) := by
    apply Exists.intro
    unfold ResultInput.bytes ResultInput.frameBytes
    dsimp only
    simp only [List.append_assoc, List.nil_append]
    rfl
  obtain ⟨rest, e⟩ := split
  rw [e, readLe_field (i := 0) _ rfl (by decide)]
  rfl

/-- F and NF stand at 80 and 84. -/
theorem readLe_figures (r : ResultInput) :
    readLe r.bytes 80 4 = r.fo.f % 2 ^ 32 ∧ readLe r.bytes 84 4 = r.fo.nf % 2 ^ 32 := by
  have split : ∃ pre rest, pre.length = 80 ∧ r.bytes = fit 512 (pre ++ (le r.fo.f 4 ++ (le r.fo.nf 4 ++ rest))) := by
    refine ⟨r.frameBytes ++ r.exposureBytes ++ (le r.eo.reason.code 1 ++ le r.focus.state.code 1 ++
      le r.focus.state.failureCode 1), ?rest, ?len, ?split⟩
    case len => simp only [List.length_append, length_le, length_frameBytes, length_exposureBytes]
    case split =>
      simp only [ResultInput.bytes, ResultInput.focusBytes, List.append_assoc]
      rfl
  obtain ⟨pre, rest, hp, e⟩ := split
  refine ⟨by rw [e, readLe_field _ hp (by decide)]; rfl, ?_⟩
  rw [e, ← List.append_assoc, readLe_field (i := 84) _ (by simp [hp]) (by decide)]
  rfl

/-- USED is bit 5 of byte 30. -/
theorem used_bit (r : ResultInput) : (byteAt r.bytes 30).getLsbD 5 = r.fo.used := by
  have split : ∃ pre rest b0 b1 b2 b3 b4, pre.length = 30 ∧
      r.bytes = fit 512 (pre ++ (le (flagBits [b0, b1, b2, b3, b4, r.fo.used]) 1 ++ rest)) := by
    refine ⟨le r.seq 2 ++ le r.bank.buffer 1 ++ le r.copy.owner 1 ++ le r.copy.record.number 4 ++
      le r.copy.record.tH.toNat 4 ++ le (r.copy.record.completion.getD 0).toNat 4 ++ le r.copy.record.tHdr 4 ++
      le r.copy.record.readout 4 ++ le r.copy.record.gHdr 1 ++ le r.copy.record.aF 1 ++ le r.copy.record.zoomPos 2 ++
      le r.copy.record.focusPos 2, ?rest, ?b0, ?b1, ?b2, ?b3, ?b4, ?len, ?split⟩
    case len => simp only [List.length_append, length_le]
    case split =>
      unfold ResultInput.bytes ResultInput.frameBytes
      dsimp only
      simp only [List.append_assoc]
      rfl
  obtain ⟨pre, rest, b0, b1, b2, b3, b4, hp, e⟩ := split
  rw [e, byteAt_fit (by decide), ← hp, ← Nat.add_zero pre.length, byteAt_append]
  show (BitVec.ofNat 8 (flagBits [b0, b1, b2, b3, b4, r.fo.used])).getLsbD 5 = r.fo.used
  cases r.fo.used <;> cases b0 <;> cases b1 <;> cases b2 <;> cases b3 <;> cases b4 <;> rfl

end Sys2Proof.Machine
end

section
/-! PROOFS. Evaluation-done: the plan and the ring entry of the result. -/

namespace Sys2Proof.Machine
set_option Elab.async false

variable {s t u v : State}

/-! ### The Focus unit's part reads and changes the optics alone -/

/-- `t` is `s` but for the focus motor, the Focus unit and the latched bits. -/
def FocusOnly (s t : State) : Prop :=
  t = { s with
    lens := { s.lens with focus := t.lens.focus }
    focus := t.focus
    status := { s.status with latched := t.status.latched } }

namespace FocusOnly

theorem refl (s : State) : FocusOnly s s := rfl

theorem trans (h : FocusOnly s t) (k : FocusOnly t u) : FocusOnly s u := by
  unfold FocusOnly at *
  rw [k, h]

theorem zoom (h : FocusOnly s t) : t.lens.zoom = s.lens.zoom := by rw [show t = _ from h]

theorem ite {c : Prop} [Decidable c] (h : FocusOnly s t) (k : FocusOnly s u) : FocusOnly s (if c then t else u) := by
  split <;> assumption

theorem giveTarget (clears : Bool) (asked : Nat) (s : State) : FocusOnly s (giveTarget .focus clears asked s) := by
  rw [giveTarget_focus_eq]
  rfl

theorem focusArrived (s : State) : FocusOnly s (focusArrived s) := by
  unfold Machine.focusArrived
  dsimp only
  split
  · exact .ite rfl (.refl s)
  · exact .ite rfl (.refl s)
  · exact .refl s

theorem giveFocus (clears : Bool) (asked : Nat) (s : State) : FocusOnly s (giveFocus clears asked s) :=
  (giveTarget clears asked s).trans (focusArrived _)

theorem setFocus (f : Focus) (s : State) : FocusOnly s { s with focus := f } := rfl

theorem failSearch (r : FocusFailure) (s : State) : FocusOnly s (failSearch r s) := rfl

theorem setSearch (r : SearchRecord) (s : State) : FocusOnly s (setSearch r s) := rfl

theorem goSample (pos : Nat) (r : SearchRecord) (s : State) : FocusOnly s (goSample pos r s) :=
  .trans (t := setFocusState (.searching .travel) (Machine.setSearch { r with sample := pos } s)) rfl (giveFocus _ _ _)

theorem fineStep (r : SearchRecord) (b : TrailEntry) (s : State) : FocusOnly s (fineStep r b s) := by
  unfold Machine.fineStep
  exact (setFocus _ s).trans (giveFocus _ _ _)

theorem failSearchBack (why : FocusFailure) (r : SearchRecord) (s : State) : FocusOnly s (failSearchBack why r s) :=
  (failSearch why s).trans (giveFocus _ _ _)

theorem rangeEnd (r : SearchRecord) (b : TrailEntry) (s : State) : FocusOnly s (rangeEnd r b s) := by
  unfold Machine.rangeEnd
  exact .ite (goSample _ _ s) (.ite ((setSearch r s).trans (failSearchBack _ _ _)) (fineStep _ _ s))

theorem takeFrame (nf : Nat) (r : SearchRecord) (s : State) : FocusOnly s (takeFrame nf r s) := by
  unfold Machine.takeFrame
  exact (setFocus _ s).trans (.ite (fineStep _ _ _) (.ite (rangeEnd _ _ _) (goSample _ _ _)))

theorem countFrame (c : Time) (r : SearchRecord) (s : State) : FocusOnly s (countFrame c r s) := by
  unfold Machine.countFrame
  exact .ite (.ite ((setSearch _ s).trans (failSearchBack _ _ _)) (setSearch _ s)) (.refl s)

theorem focusEvaluate (cells : List Nat) (copy : RecordCopy) (level : Nat) (noData : Bool) (s : State) :
    FocusOnly s (focusEvaluate cells copy level noData s).1 := by
  unfold Machine.focusEvaluate
  dsimp only
  split
  · split
    · exact takeFrame _ _ s
    · exact countFrame _ _ s
  · exact .refl s

end FocusOnly

/-- Evaluation clears no latched bit. -/
theorem exposureEvaluate_latched (b : Bank) (f : FrameRecord) (s : State) {i : Nat}
    (h : s.status.latched.getLsbD i = true) : (exposureEvaluate b f s).1.status.latched.getLsbD i = true := by
  have published : ∀ x n (u : State), u.status = s.status → (publishPlan x n u).status.latched.getLsbD i = true := by
    intro x n u e
    exact (Steers.latchIf _ _ _).latched i ((Steers.latchIf _ _ _).latched i (by
      show u.status.latched.getLsbD i = true
      rw [e]
      exact h))
  have converged : ∀ p q, (setConverged p q s).status = s.status := fun p q => by cases p <;> rfl
  unfold exposureEvaluate
  dsimp only
  split
  · exact (Steers.latch _ s).latched i h
  · split
    · rw [converged]; exact h
    · exact published _ _ _ (converged _ _)

/-! ### What an evaluation-done hands on -/

/-- What is left of the parts after an evaluation (R55, R66, R82): `e` after the Exposure unit, `v` after the Focus
unit, and the result record with the figures. -/
structure Evaluates (id : BankId) (b : Bank) (copy : RecordCopy) (s e v u : State) (fo : FocusOutcome) : Prop where
  bank     : (u.bank id).state = .writing
  other    : u.bank id.other = s.bank id.other
  entry    : u.stats.nextEntry = (s.stats.nextEntry + 1) % 16
  seq      : u.stats.seq = (s.stats.seq + 1) % 65536
  newest   : u.stats.newest = s.stats.newest
  writer   : ∃ r : ResultInput, r.seq = (s.stats.seq + 1) % 65536 ∧ r.fo = fo ∧
    u.stats.writer = some { bank := id, entry := s.stats.nextEntry, bytes := r.bytes, secondHalf := false }
  frames   : u.frames.map = s.frames.map ∧ u.frames.free = s.frames.free
  records  : ∀ c, (u.record c).state = (s.record c).state
  exposure : u.exposure = e.exposure
  focus    : u.focus = v.focus
  lens     : u.lens = v.lens
  latched  : u.status.latched = v.status.latched
  steady   : u.steady = s.steady

theorem dropBankField_frames (b : Nat) (id : BankId) (s : State) :
    ((dropBankField b id s).frames.map = s.frames.map ∧ (dropBankField b id s).frames.free = s.frames.free) ∧
      ∀ c, ((dropBankField b id s).record c).state = (s.record c).state := by
  unfold dropBankField
  split
  · refine ⟨⟨rfl, rfl⟩, fun c => ?_⟩
    by_cases hc : c = b
    · subst hc
      by_cases hb : c < s.frames.table.length
      · rw [record_setRecord s hb]
      · have past : (setRecord c { s.record c with bank := none } s).frames.table.length ≤ c := by
          simpa [setRecord] using Nat.le_of_not_lt hb
        rw [record_state_of_ge past, record_state_of_ge (Nat.le_of_not_lt hb)]
    · rw [record_setRecord_of_ne s hc]
  · exact ⟨⟨rfl, rfl⟩, fun _ => rfl⟩

theorem evaluate_evaluates (id : BankId) (b : Bank) (copy : RecordCopy) (s : State) {e v : State}
    {eo : ExposureOutcome} {fo : FocusOutcome} (he : exposureEvaluate b copy.record s = (e, eo))
    (hv : focusEvaluate b.cells copy eo.level (eo.reason == .noData) e = (v, fo)) :
    Evaluates id b copy s e v (evaluate id b copy s) fo := by
  have first := exposureEvaluate_changes s b copy.record
  have second := FocusOnly.focusEvaluate b.cells copy eo.level (eo.reason == .noData) e
  rw [he] at first
  rw [hv] at second
  change FocusOnly e v at second
  have units : v.stats = s.stats ∧ v.frames = s.frames ∧ v.exposure = e.exposure ∧ v.steady = s.steady := by
    rw [show v = _ from second]
    exact ⟨first.stats_eq, first.frames_eq, rfl, first.steady_eq⟩
  obtain ⟨stats, frames, exposure, steady⟩ := units
  obtain ⟨r, hr, hfo, eq⟩ : ∃ r : ResultInput, r.seq = (s.stats.seq + 1) % 65536 ∧ r.fo = fo ∧
      evaluate id b copy s = beginResult id r.bytes
        (dropBankField b.buffer id (setBank id { b with state := .writing, stale := false } v)) := by
    unfold evaluate
    simp only [he, hv]
    exact ⟨_, rfl, rfl, rfl⟩
  obtain ⟨w, hw⟩ : ∃ w, dropBankField b.buffer id (setBank id { b with state := .writing, stale := false } v) = w :=
    ⟨_, rfl⟩
  have dropped := dropBankField_changes (setBank id { b with state := .writing, stale := false } v) b.buffer id
  have held := dropBankField_frames b.buffer id (setBank id { b with state := .writing, stale := false } v)
  rw [hw] at dropped held eq
  have before : w.stats.nextEntry = s.stats.nextEntry ∧ w.stats.seq = s.stats.seq ∧ w.stats.newest = s.stats.newest := by
    rw [dropped.stats_eq, ← stats]
    cases id <;> exact ⟨rfl, rfl, rfl⟩
  have map : w.frames.map = s.frames.map ∧ w.frames.free = s.frames.free := by
    rw [held.1.1, held.1.2, ← frames]
    cases id <;> exact ⟨rfl, rfl⟩
  obtain ⟨next, seq, newest⟩ := before
  constructor
  · rw [evaluate_bank, bank_setBank]
  · rw [evaluate_bank, bank_setBank_other]
  · rw [eq, ← next]; rfl
  · rw [eq, ← seq]; rfl
  · rw [eq, ← newest]; rfl
  · exact ⟨r, hr, hfo, by rw [eq, ← next]; rfl⟩
  · rw [eq]; exact map
  · intro c
    rw [eq]
    show (w.record c).state = _
    rw [held.2 c, State.record, State.record, ← frames]
    cases id <;> rfl
  · rw [eq, ← exposure]
    exact dropped.exposure_eq.trans (by cases id <;> rfl)
  · rw [eq]
    exact dropped.focus_eq.trans (by cases id <;> rfl)
  · rw [eq]
    exact dropped.lens_eq.trans (by cases id <;> rfl)
  · rw [eq]
    exact (congrArg StatusUnit.latched dropped.status_eq).trans (by cases id <;> rfl)
  · rw [eq, ← steady]
    exact dropped.steady_eq.trans (by cases id <;> rfl)

/-- An evaluation by its two units. -/
theorem evaluate_units (id : BankId) (b : Bank) (copy : RecordCopy) (s : State) :
    ∃ e eo v fo, exposureEvaluate b copy.record s = (e, eo) ∧
      focusEvaluate b.cells copy eo.level (eo.reason == .noData) e = (v, fo) ∧
      Changes [.exposure, .status] s e ∧ FocusOnly e v ∧ Steers e v ∧ Evaluates id b copy s e v (evaluate id b copy s) fo :=
  ⟨_, _, _, _, rfl, rfl, exposureEvaluate_changes s _ _, FocusOnly.focusEvaluate _ _ _ _ _, Steers.focusEvaluate _ _ _ _ _,
    evaluate_evaluates id b copy s rfl rfl⟩

namespace Evaluating

variable {id : BankId} {copy : RecordCopy}

/-- EVALUATION_DONE of the one bank under evaluation (R53, R55). -/
theorem runs (h : Evaluating s id copy) :
    exec .evaluationDone s = .next (finish s (evaluate id (s.bank id) copy s)) := by
  obtain ⟨out, state, alone, hc⟩ := h
  have chosen : s.evaluating? = some id := by
    cases id
    · exact if_pos state
    · exact (if_neg alone).trans (if_pos state)
  have done : evaluationDone s = evaluate id (s.bank id) copy s := by
    rw [evaluationDone, chosen]
    simp only [hc]
  show event evaluationDone s = _
  rw [event_of_out s out, done]

end Evaluating

/-- Settles O18: the bank WRITING, the next ring entry and sequence number, and a record of 512 bytes. -/
theorem evaluationTakesARingEntry : Obligations.EvaluationTakesARingEntry := by
  intro s id copy h
  obtain ⟨e, eo, v, fo, -, -, first, second, -, ends⟩ := evaluate_units id (s.bank id) copy s
  obtain ⟨bank, other, entry, seq, newest, ⟨r, hseq, -, writer⟩, ⟨map, free⟩, records, -, -, lens, -, steady⟩ := ends
  have zoom : v.lens.zoom = s.lens.zoom := second.zoom.trans (congrArg Lens.zoom first.lens_eq)
  refine ⟨_, { bank := id, entry := s.stats.nextEntry, bytes := r.bytes, secondHalf := false }, h.runs, ?_⟩
  have same : ∀ j, (finish s (evaluate id (s.bank id) copy s)).bank j = (evaluate id (s.bank id) copy s).bank j :=
    fun j => by cases j <;> simp [State.bank]
  have kept : ∀ c, (finish s (evaluate id (s.bank id) copy s)).record c = (evaluate id (s.bank id) copy s).record c :=
    fun c => by simp [State.record]
  simp only [same, kept, finish_stats, finish_lens, finish_steady, finish_frames, lens]
  refine ⟨bank, other, entry, seq, newest, writer, trivial, trivial, trivial, length_fit _ _, ?_, zoom, steady, map, free, records⟩
  rw [readLe_seq, hseq, seq, Nat.mod_mod]

/-! ### The plan -/

theorem exposureEvaluate_noData {b : Bank} (f : FrameRecord) (h : meanLevel s.exposure.weights b = none) :
    exposureEvaluate b f s = (latch .noData s, noDataOutcome) := by
  simp only [exposureEvaluate, h]

/-- An evaluation with data that holds the plan for a reason (R76, R77). -/
theorem exposureEvaluate_held {b : Bank} {f : FrameRecord} {level : Nat}
    (h : meanLevel s.exposure.weights b = some level) (hr : holdReason b f s.exposure.lock ≠ .none) :
    ∃ q, (exposureEvaluate b f s).1 = setConverged b.stale q s := by
  unfold exposureEvaluate
  simp only [h, if_pos hr]
  exact ⟨_, rfl⟩

/-- Settles O17: by the reason for which the plan is held. -/
theorem evaluationHoldsThePlan : Obligations.EvaluationHoldsThePlan := by
  intro s id copy h why
  obtain ⟨x, eo, v, fo, he, -, -, -, ⟨-, -, -, -, told⟩, ends⟩ := evaluate_units id (s.bank id) copy s
  refine ⟨_, h.runs, ?_⟩
  simp only [finish_exposure, finish_status_latched, ends.exposure, ends.latched]
  cases level : meanLevel s.exposure.weights (s.bank id) with
  | none =>
    obtain ⟨rfl, -⟩ := Prod.mk.inj ((exposureEvaluate_noData _ level).symm.trans he)
    exact ⟨rfl, rfl, rfl, fun _ => ⟨rfl, told _ (latch_bit _ _)⟩, fun _ => rfl⟩
  | some l =>
    have reason : holdReason (s.bank id) copy.record s.exposure.lock ≠ .none := by
      rcases why with e | e | e | e
      · rw [level] at e
        cases e
      all_goals
        simp only [holdReason, e, if_true]
        repeat' split
        all_goals simp
    obtain ⟨q, held⟩ := exposureEvaluate_held level reason
    rw [he] at held
    change x = setConverged _ q s at held
    rw [held]
    cases stale : (s.bank id).stale with
    | false => exact ⟨rfl, rfl, rfl, nofun, nofun⟩
    | true => exact ⟨rfl, rfl, rfl, nofun, fun _ => rfl⟩

/-- The plan is published with the split of the wanted code (R71 to R75). -/
theorem exposureEvaluate_published {b : Bank} {f : FrameRecord} {level : Nat}
    (h : meanLevel s.exposure.weights b = some level) (hs : b.stale = false) (hl : s.exposure.lock = false)
    (hb : f.badExposure = false) {m : Metering} {e n : Int} {top : Nat} (hm : m = s.exposure.settings)
    (he : e = guardedError (highlightGuard b) (exposureError m level))
    (hn : n = wantedCode f (moveOf m.db e) (s.interp Knot.a s.lens.zoom.position))
    (ht : top = maxShutter m (s.interp Knot.sLim s.lens.zoom.position) (s.steady.state == .active)) :
    (exposureEvaluate b f s).1 =
      publishPlan (splitCode m top n) f.number
        (setExposure { s.exposure with converged := decide (e.natAbs ≤ m.db) } s) := by
  subst hm he hn ht
  unfold exposureEvaluate
  simp only [h, holdReason, hs, hl, hb, setConverged, Bool.false_eq_true, if_false, ne_eq, not_true_eq_false]

/-- Settles O16: the split of N, by where it lies between S_min and the range of the gain. -/
theorem evaluationPublishesThePlan : Obligations.EvaluationPublishesThePlan := by
  intro s id copy level h hlevel stale lock sound m e move n top hm herror hmove hn htop
  have guarded : e = guardedError (highlightGuard (s.bank id)) (exposureError m level) := by
    rw [herror]
    unfold guardedError highlightGuard Bank.countSum exposureError
    by_cases c : (s.bank id).counts.sum < 64 * (s.bank id).clip <;> simp [c]
  have wanted : n = wantedCode copy.record (moveOf m.db e) (s.interp Knot.a s.lens.zoom.position) := by
    rw [hn, hmove, wantedCode]
  have most : top = maxShutter m (s.interp Knot.sLim s.lens.zoom.position) (s.steady.state == .active) := by
    rw [htop, maxShutter]
    simp only [beq_iff_eq]
  have plan := exposureEvaluate_published (f := copy.record) hlevel stale lock sound hm guarded wanted most
  have low : m.sMin ≤ top := by rw [htop]; exact Nat.le_max_left _ _
  obtain ⟨x, eo, v, fo, he, -, -, -, ⟨-, -, -, -, told⟩, ends⟩ := evaluate_units id (s.bank id) copy s
  refine ⟨_, h.runs, ?_⟩
  simp only [finish_exposure, finish_status_latched, ends.exposure, ends.latched]
  rw [he] at plan
  change x = _ at plan
  rw [plan] at told ⊢
  have exposure : ∀ x : Split, (publishPlan x copy.record.number
      (setExposure { s.exposure with converged := decide (e.natAbs ≤ m.db) } s)).exposure =
        { s.exposure with
          converged := decide (e.natAbs ≤ m.db), plan := x.plan copy.record.number, underLive := x.under
          overLive := x.over' } := by
    rintro ⟨a, g, under, over'⟩
    cases under <;> cases over' <;> rfl
  rw [exposure]
  refine ⟨rfl, hm.symm, rfl, rfl, rfl, fun h1 => ?_, fun h1 h2 => ?_, fun h1 h2 => ?_, fun h1 h2 => ?_⟩
  · rw [splitCode, if_pos h1] at told ⊢
    exact ⟨rfl, rfl, rfl, rfl, rfl, told _ (latch_bit _ _)⟩
  · rw [splitCode, if_neg (by omega), if_pos h2]
    exact ⟨rfl, rfl, rfl, rfl, rfl⟩
  · rw [splitCode, if_neg (by omega), if_neg (by omega), if_pos h2]
    exact ⟨rfl, rfl, rfl, rfl, rfl⟩
  · rw [splitCode, if_neg (by omega), if_neg (by omega), if_neg (by omega)] at told ⊢
    exact ⟨rfl, rfl, rfl, rfl, rfl, told _ (latch_bit _ _)⟩

end Sys2Proof.Machine
end

section
/-! PROOFS. The contrast search: frames taken and counted (O45). -/

namespace Sys2Proof.Machine
set_option Elab.async false

variable {s t u v : State}

/-! ### What the search reads -/

/-- Two states alike to the search; what is latched in the first is in the second. -/
structure Optics (s t : State) : Prop where
  lens    : t.lens = s.lens
  focus   : t.focus = s.focus
  time    : t.partTime = s.partTime
  latched : ∀ i, s.status.latched.getLsbD i = true → t.status.latched.getLsbD i = true

theorem interp_congr (h : t.lens = s.lens) : t.interp = s.interp := by
  funext field z
  unfold State.interp State.zmax State.knot
  rw [h]

theorem track_congr (h : t.lens = s.lens) : t.track = s.track := by
  funext z d
  unfold State.track
  rw [interp_congr h, h]

theorem fractionOf_congr (h : t.lens = s.lens) : t.fractionOf = s.fractionOf := by
  funext z p
  unfold State.fractionOf
  rw [interp_congr h]

/-- What the focus motor makes of a target is the Lens drive's own. -/
theorem giveTarget_lens_congr (clears : Bool) (asked : Nat) (hl : t.lens = s.lens) (ht : t.partTime = s.partTime) :
    (giveTarget .focus clears asked t).lens = (giveTarget .focus clears asked s).lens := by
  have motor : (giveTarget .focus clears asked t).motor .focus = (giveTarget .focus clears asked s).motor .focus := by
    have record : t.motor .focus = s.motor .focus := congrArg Lens.focus hl
    have top : t.topPosition .focus = s.topPosition .focus := congrArg (fun l => l.settings.fmax) hl
    have settle : t.settleTime .focus = s.settleTime .focus := congrArg (fun l => l.settings.focusSettle) hl
    rw [giveTarget_motor, giveTarget_motor, record, top, settle, hl, ht]
  change (giveTarget .focus clears asked t).lens.focus = (giveTarget .focus clears asked s).lens.focus at motor
  rw [giveTarget_focus_eq clears asked t, giveTarget_focus_eq clears asked s, motor]
  simp only [hl]

/-- The fine step: the new fraction, and the focus motor given its position (R91, R92). -/
theorem fineStep_eq (r : SearchRecord) (b : TrailEntry) (s : State) :
    fineStep r b s =
      giveFocus false (s.track r.zs (s.fractionOf r.zs (fineP s.focus.trail r b)))
        { s with
          focus :=
            { s.focus with
              d := s.fractionOf r.zs (fineP s.focus.trail r b), search := some r, state := .searching .final } } := rfl

namespace Optics

theorem latch (h : Optics s t) (b : LatchedBit) : Optics (latch b s) (latch b t) where
  lens := h.lens
  focus := h.focus
  time := h.time
  latched i k := by
    simp only [Machine.latch, BitVec.getLsbD_or, Bool.or_eq_true] at k ⊢
    exact k.imp (h.latched i) id

theorem setFocus (h : Optics s t) (f : Focus → Focus) :
    Optics { s with focus := f s.focus } { t with focus := f t.focus } where
  lens := h.lens
  focus := by simp only [h.focus]
  time := h.time
  latched := h.latched

theorem ite {c d : Prop} [Decidable c] [Decidable d] (e : c ↔ d) (h : Optics s t) (k : Optics u v) :
    Optics (if c then s else u) (if d then t else v) := by
  by_cases hc : c
  · rw [if_pos hc, if_pos (e.mp hc)]; exact h
  · rw [if_neg hc, if_neg (mt e.mpr hc)]; exact k

theorem giveTarget (h : Optics s t) (clears : Bool) (asked : Nat) :
    Optics (giveTarget .focus clears asked s) (giveTarget .focus clears asked t) where
  lens := giveTarget_lens_congr clears asked h.lens h.time
  focus := by rw [(giveTarget_others .focus clears asked t).2, (giveTarget_others .focus clears asked s).2, h.focus]
  time := by rw [giveTarget_focus_eq clears asked t, giveTarget_focus_eq clears asked s]; exact h.time
  latched := by rw [giveTarget_focus_eq clears asked t, giveTarget_focus_eq clears asked s]; exact h.latched

theorem focusArrived (h : Optics s t) : Optics (focusArrived s) (focusArrived t) := by
  unfold Machine.focusArrived
  dsimp only
  rw [h.focus, h.lens]
  split
  · refine .ite Iff.rfl ?_ h
    rw [h.time]
    exact (h.setFocus fun f => { f with search := _ }).setFocus fun f => { f with state := _ }
  · exact .ite Iff.rfl ((h.setFocus fun f => { f with state := .locked }).latch _) h
  · exact h

theorem giveFocus (h : Optics s t) (clears : Bool) (asked : Nat) :
    Optics (giveFocus clears asked s) (giveFocus clears asked t) :=
  (h.giveTarget clears asked).focusArrived

theorem goSample (h : Optics s t) (pos : Nat) (r : SearchRecord) : Optics (goSample pos r s) (goSample pos r t) :=
  ((h.setFocus fun f => { f with search := some { r with sample := pos } }).setFocus
    fun f => { f with state := .searching .travel }).giveFocus _ _

theorem fineStep (h : Optics s t) (r : SearchRecord) (b : TrailEntry) : Optics (fineStep r b s) (fineStep r b t) := by
  rw [fineStep_eq, fineStep_eq, h.focus, fractionOf_congr h.lens, track_congr h.lens]
  refine giveFocus ?_ _ _
  exact ⟨h.lens, rfl, h.time, h.latched⟩

theorem failSearchBack (h : Optics s t) (why : FocusFailure) (r : SearchRecord) :
    Optics (failSearchBack why r s) (failSearchBack why r t) := by
  unfold Machine.failSearchBack
  rw [h.focus, track_congr h.lens]
  exact ((h.setFocus fun f => { f with state := .failed why }).latch _).giveFocus _ _

theorem rangeEnd (h : Optics s t) (r : SearchRecord) (b : TrailEntry) : Optics (rangeEnd r b s) (rangeEnd r b t) := by
  unfold Machine.rangeEnd
  rw [h.focus]
  exact .ite Iff.rfl (h.goSample _ _)
    (.ite Iff.rfl ((h.setFocus fun f => { f with search := some r }).failSearchBack _ _) (h.fineStep _ _))

theorem takeFrame (h : Optics s t) (nf : Nat) (r : SearchRecord) : Optics (takeFrame nf r s) (takeFrame nf r t) := by
  have joined := h.setFocus fun f => { f with trail := ({ pos := r.sample, nf := nf } :: f.trail).take 8 }
  unfold Machine.takeFrame
  exact .ite Iff.rfl (joined.fineStep _ _) (.ite Iff.rfl (joined.rangeEnd _ _) (joined.goSample _ _))

end Optics

/-! ### The steps of a search -/

/-- The search goes to a new sample position: TRAVEL, or SAMPLE when the motor stands there (R86, R89). -/
structure GoesOn (s t : State) (pos : Nat) (r : SearchRecord) : Prop where
  search : ∃ n at', t.focus = { s.focus with
    state := t.focus.state, search := some { r with sample := pos, resolved := n, sampleStart := at' } }
  phase  : t.focus.state = .searching .travel ∨ t.focus.state = .searching .sample
  lens   : t.lens = (giveTarget .focus false pos s).lens

theorem goSample_goesOn (pos : Nat) (r : SearchRecord) (s : State) : GoesOn s (goSample pos r s) pos r := by
  obtain ⟨v, hv⟩ : ∃ v, setFocusState (.searching .travel) (setSearch { r with sample := pos } s) = v := ⟨_, rfl⟩
  have focus : v.focus = { s.focus with state := .searching .travel, search := some { r with sample := pos } } := by
    rw [← hv]; rfl
  have lens : v.lens = s.lens := by rw [← hv]; rfl
  have given := giveFocus_travel (s := v) (r := { r with sample := pos }) false pos (by rw [focus]) (by rw [focus]) rfl
  have target : (giveTarget .focus false pos v).lens = (giveTarget .focus false pos s).lens :=
    giveTarget_lens_congr false pos lens (by rw [← hv]; rfl)
  have run : goSample pos r s = giveFocus false pos v := by rw [← hv]; rfl
  rw [run, given]
  refine ⟨?_, ?_, ?_⟩
  · dsimp only
    rw [focus]
    split
    · exact ⟨_, _, rfl⟩
    · exact ⟨_, _, rfl⟩
  · dsimp only
    split
    · exact .inr rfl
    · exact .inl (by rw [focus])
  · rw [← target, giveTarget_focus_eq false pos v]

/-- The fine step (R91 to R93): `d` is the new fraction. -/
theorem fineStep_spec (r : SearchRecord) (b : TrailEntry) (s : State) {d : Nat}
    (hd : d = s.fractionOf r.zs (fineP s.focus.trail r b)) :
    (fineStep r b s).lens = (giveTarget .focus false (s.track r.zs d) s).lens ∧
      (fineStep r b s).focus = { s.focus with
        d := d, search := some r
        state :=
          if (fineStep r b s).lens.focus.state = .idle ∧
              (fineStep r b s).lens.focus.position = (fineStep r b s).lens.focus.target then .locked
          else .searching .final } := by
  subst hd
  rw [fineStep_eq]
  generalize s.fractionOf r.zs (fineP s.focus.trail r b) = d
  obtain ⟨v, hv⟩ : ∃ v : State, { s with
      focus := { s.focus with d := d, search := some r, state := .searching .final } } = v := ⟨_, rfl⟩
  have focus : v.focus = { s.focus with d := d, search := some r, state := .searching .final } := by rw [← hv]
  have target : (giveTarget .focus false (s.track r.zs d) v).lens = (giveTarget .focus false (s.track r.zs d) s).lens :=
    giveTarget_lens_congr _ _ (by rw [← hv]) (by rw [← hv])
  rw [hv]
  obtain ⟨z, hz⟩ : ∃ z, giveTarget .focus false (s.track r.zs d) v = z := ⟨_, rfl⟩
  have given : z.focus = v.focus := by rw [← hz]; exact (giveTarget_others _ _ _ _).2
  have final : z.focus.state = .searching .final := by rw [given, focus]
  have run : giveFocus false (s.track r.zs d) v = focusArrived z := by rw [← hz]; rfl
  rw [hz] at target
  rw [run, focusArrived_final final]
  split
  · next c =>
    have locked : (latch .focusLocked (setFocusState .locked z)).focus = { z.focus with state := .locked } := rfl
    refine ⟨target, ?_⟩
    rw [locked, given, focus]
    exact congrArg (fun st => { s.focus with d := d, search := some r, state := st }) (if_pos c).symm
  · exact ⟨target, by rw [given, focus]⟩

/-- A search that fails sends the focus motor back (R95). -/
theorem failSearchBack_spec (why : FocusFailure) (r : SearchRecord) (s : State) :
    (failSearchBack why r s).lens = (giveTarget .focus false (s.track r.zs s.focus.d) s).lens ∧
      (failSearchBack why r s).focus = { s.focus with state := .failed why } ∧
      (failSearchBack why r s).status.latched.getLsbD LatchedBit.focusFailed.index = true := by
  rw [failSearchBack, giveFocus_of_not _ _ rfl, (giveTarget_others _ _ _ _).2]
  refine ⟨giveTarget_lens_congr _ _ rfl rfl, rfl, ?_⟩
  rw [giveTarget_focus_eq]
  exact latch_bit _ _

/-! ### Frames that are counted -/

theorem countFrame_counted (c : Time) (r : SearchRecord) (s : State) :
    FrameCounted s (countFrame c r s) r c := by
  have seven : r.resolved + 1 = 8 ↔ r.resolved = 7 := by omega
  constructor
  · intro early
    rw [countFrame, if_neg (by unfold timeDiff; omega)]
    exact ⟨rfl, rfl⟩
  · intro late other
    simp only [countFrame, if_pos (show 0 ≤ timeDiff c r.sampleStart from late)]
    rw [if_neg (mt seven.mp other)]
    exact ⟨rfl, rfl⟩
  · intro late last
    simp only [countFrame, if_pos (show 0 ≤ timeDiff c r.sampleStart from late)]
    rw [if_pos (seven.mpr last)]
    obtain ⟨lens, focus, latched⟩ := failSearchBack_spec .noFrames { r with resolved := r.resolved + 1 }
      (setSearch { r with resolved := r.resolved + 1 } s)
    refine ⟨by rw [focus, last]; rfl, latched, lens.trans ?_⟩
    exact giveTarget_lens_congr _ _ rfl rfl

theorem resolveUnmetered_of_not (h : s.focus.state ≠ .searching .sample) : resolveUnmetered s = s := by
  unfold resolveUnmetered
  split
  · next hs _ => exact absurd hs h
  · rfl

theorem resolveUnmetered_sample {r : SearchRecord} (h : s.focus.state = .searching .sample)
    (hr : s.focus.search = some r) : resolveUnmetered s = countFrame s.partTime r s := by
  simp only [resolveUnmetered, h, hr]

end Sys2Proof.Machine
end

section
/-! PROOFS. The search climbs step by step (O45). -/

namespace Sys2Proof.Machine
set_option Elab.async false

variable {s t u : State}

/-! ### Best figure and falls -/

/-- Best and falls after a frame of figure `nf` at `p` (R89, step 1). -/
theorem updateBest_eq (r : SearchRecord) (p nf : Nat) {best : TrailEntry} {falls : Nat}
    (hb : best = (match r.best with
      | none => { pos := p, nf := nf }
      | some b => if b.nf < nf then { pos := p, nf := nf } else b))
    (hf : falls = (match r.best with
      | none => 0
      | some b => if ¬ b.nf < nf ∧ nf < b.nf - b.nf / 8 then r.falls + 1 else 0)) :
    updateBest r p nf = ({ r with best := some best, falls := falls }, best) := by
  unfold updateBest
  cases h : r.best with
  | none =>
    simp only [h] at hb hf
    subst hb hf
    rfl
  | some b =>
    simp only [h] at hb hf
    dsimp only
    by_cases more : b.nf < nf
    · rw [if_pos more] at hb ⊢
      rw [if_neg (by tauto)] at hf
      subst hb hf
      rfl
    · rw [if_neg more] at hb ⊢
      subst hb
      by_cases fall : nf < best.nf - best.nf / 8
      · rw [if_pos ⟨more, fall⟩] at hf
        rw [if_pos fall, hf, ← h]
      · rw [if_neg (by tauto)] at hf
        rw [if_neg fall, hf, ← h]

/-- The fall counter passes two only at the second fall in a row. -/
theorem falls_le {r : SearchRecord} {nf falls : Nat} (h : r.falls < 2)
    (hf : falls = (match r.best with
      | none => 0
      | some b => if ¬ b.nf < nf ∧ nf < b.nf - b.nf / 8 then r.falls + 1 else 0)) : falls ≤ 2 := by
  subst hf
  split
  · omega
  · split <;> omega

/-! ### The fine step in numbers -/

/-- p* is the vertex of the parabola through three entries, within a step of the best and within lo..hi (R91). -/
theorem fineP_eq (trail : List TrailEntry) (r : SearchRecord) (b : TrailEntry) (h : r.lo ≤ r.hi) {raw : Int}
    (hraw : raw = (match trail.find? (fun e => (e.pos : Int) == b.pos - r.step),
        trail.find? (fun e => (e.pos : Int) == b.pos + r.step) with
      | some l, some h =>
        if (l.nf : Int) - 2 * b.nf + h.nf < 0 then
          b.pos + roundDiv (r.step * ((h.nf : Int) - l.nf)) (2 * (2 * b.nf - l.nf - h.nf))
        else b.pos
      | _, _ => b.pos)) :
    fineP trail r b = max (r.lo : Int) (min r.hi (max ((b.pos : Int) - r.step) (min (b.pos + r.step) raw))) := by
  unfold fineP trailAt
  dsimp only
  rw [clampInt_eq (by omega), clampInt_eq (by omega)]
  congr 4
  subst hraw
  cases trail.find? (fun e => (e.pos : Int) == b.pos - r.step) with
  | none => rfl
  | some lo =>
    cases trail.find? (fun e => (e.pos : Int) == b.pos + r.step) with
    | none => rfl
    | some hi =>
      dsimp only [Option.map]
      by_cases bent : (lo.nf : Int) - 2 * b.nf + hi.nf < 0
      · have num : -((r.step : Int) * ((lo.nf : Int) - hi.nf)) = r.step * ((hi.nf : Int) - lo.nf) := by ring
        have den : (2 * ((lo.nf : Int) - 2 * b.nf + hi.nf)).natAbs = 2 * (2 * b.nf - lo.nf - hi.nf) := by omega
        rw [if_pos bent, if_pos (by omega), num, den]
      · rw [if_neg bent, if_neg (by omega)]

/-- The fraction of a position: its share of the way from pInf to pNear in 4,096ths, rounded (R92). -/
theorem fractionOf_eq {zs d : Nat} {p pInf span : Int} (hi : pInf = s.interp Knot.pInf zs)
    (hs : span = (s.interp Knot.pNear zs : Int) - pInf)
    (hd : d = (if span = 0 then 0
      else (max 0 (min 4096 (roundDiv (if 0 < span then (p - pInf) * 4096 else (pInf - p) * 4096)
        span.natAbs))).toNat)) :
    s.fractionOf zs p = d := by
  unfold State.fractionOf
  dsimp only
  rw [← hi, ← hs, hd, clampInt_eq (by decide), clampInt_eq (by decide)]
  by_cases flat : span = 0
  · rw [if_pos flat, if_pos flat]
  · rw [if_neg flat, if_neg flat]
    by_cases up : 0 < span
    · rw [if_pos up, if_pos up]
    · rw [if_neg up, if_neg up, show -((p - pInf) * 4096) = (pInf - p) * 4096 by ring]

/-! ### A frame is taken -/

/-- A frame joins the trail and the search takes its next step (R88, R89), with the names of O45. -/
theorem takeFrame_eq {nf falls : Nat} {r : SearchRecord} {best : TrailEntry} (s : State)
    (hb : updateBest r r.sample nf = ({ r with best := some best, falls := falls }, best)) {v : State}
    (hv : v = { s with focus := { s.focus with trail := ({ pos := r.sample, nf := nf } :: s.focus.trail).take 8 } }) :
    takeFrame nf r s =
      if falls = 2 then fineStep { r with best := some best, falls := falls } best v
      else if r.sample = (if r.up then r.hi else r.lo) then rangeEnd { r with best := some best, falls := falls } best v
      else goSample (clampNat r.lo r.hi (if r.up then r.sample + r.step else r.sample - r.step))
        { r with best := some best, falls := falls } v := by
  subst hv
  unfold takeFrame
  dsimp only
  rw [hb]

/-- What a step of the search after a taken frame keeps: the trail. -/
theorem GoesOn.trail {pos : Nat} {r : SearchRecord} (h : GoesOn s t pos r) : t.focus.trail = s.focus.trail := by
  obtain ⟨n, at', e⟩ := h.search
  rw [e]

theorem fineStep_trail (r : SearchRecord) (b : TrailEntry) (s : State) :
    (fineStep r b s).focus.trail = s.focus.trail := by
  rw [(fineStep_spec r b s rfl).2]

theorem rangeEnd_trail (r : SearchRecord) (b : TrailEntry) (s : State) :
    (rangeEnd r b s).focus.trail = s.focus.trail := by
  have back : (failSearchBack .lowContrast r (setSearch r s)).focus.trail = s.focus.trail := by
    rw [(failSearchBack_spec .lowContrast r (setSearch r s)).2.1]
    rfl
  simp only [rangeEnd]
  repeat' split
  all_goals first | exact (goSample_goesOn _ _ s).trail | exact back | exact fineStep_trail r b s

theorem takeFrame_trail (nf : Nat) (r : SearchRecord) (s : State) :
    (takeFrame nf r s).focus.trail = ({ pos := r.sample, nf := nf } :: s.focus.trail).take 8 := by
  obtain ⟨⟨q, b⟩, hx⟩ : ∃ x, updateBest r r.sample nf = x := ⟨_, rfl⟩
  unfold takeFrame
  dsimp only
  rw [hx]
  dsimp only
  repeat' split
  all_goals first | exact (goSample_goesOn _ _ _).trail | exact rangeEnd_trail _ _ _ | exact fineStep_trail _ _ _

/-! ### EVALUATION_DONE and the search -/

/-- The level of the outcome, and when it has no data (R66, R67). -/
theorem exposureEvaluate_level (b : Bank) (f : FrameRecord) (s : State) :
    (exposureEvaluate b f s).2.level = (meanLevel s.exposure.weights b).getD 0 ∧
      ((exposureEvaluate b f s).2.reason == .noData) = (meanLevel s.exposure.weights b).isNone := by
  have judged : (holdReason b f s.exposure.lock == .noData) = false := by
    unfold holdReason
    repeat' split
    all_goals rfl
  unfold exposureEvaluate
  cases meanLevel s.exposure.weights b with
  | none => exact ⟨rfl, rfl⟩
  | some l =>
    dsimp only
    split
    · exact ⟨rfl, judged⟩
    · exact ⟨rfl, judged⟩

theorem focusEvaluate_figures (cells : List Nat) (copy : RecordCopy) (level : Nat) (noData : Bool) (s : State) :
    (focusEvaluate cells copy level noData s).2.f = figure s.focus.mode cells ∧
      (focusEvaluate cells copy level noData s).2.nf = normalised (figure s.focus.mode cells) level := by
  unfold focusEvaluate
  dsimp only
  split
  · split <;> exact ⟨rfl, rfl⟩
  · exact ⟨rfl, rfl⟩

theorem focusEvaluate_of_not (cells : List Nat) (copy : RecordCopy) (level : Nat) (noData : Bool)
    (h : s.focus.state ≠ .searching .sample) :
    (focusEvaluate cells copy level noData s).1 = s ∧ (focusEvaluate cells copy level noData s).2.used = false := by
  unfold focusEvaluate
  dsimp only
  split
  · next hs _ => exact absurd hs h
  · exact ⟨rfl, rfl⟩

theorem focusEvaluate_sample {r : SearchRecord} (cells : List Nat) (copy : RecordCopy) (level : Nat) (noData : Bool)
    (h : s.focus.state = .searching .sample) (hr : s.focus.search = some r) :
    (focusEvaluate cells copy level noData s).1 =
        (if usable r noData copy.record then takeFrame (normalised (figure s.focus.mode cells) level) r s
          else countFrame (copy.record.completion.getD 0) r s) ∧
      (focusEvaluate cells copy level noData s).2.used = usable r noData copy.record := by
  simp only [focusEvaluate, h, hr]
  cases usable r noData copy.record <;> exact ⟨rfl, rfl⟩

/-- What is counted in a state alike to the search is counted here. -/
theorem FrameCounted.congr {e : State} {r : SearchRecord} {c : Time} (h : FrameCounted e u r c) (o : Optics s e)
    (hf : t.focus = u.focus) (hl : t.lens = u.lens) (hs : t.status.latched = u.status.latched) :
    FrameCounted s t r c := by
  obtain ⟨early, one, eighth⟩ := h
  rw [← hf, ← hl, o.focus, o.lens] at early one
  rw [← hf, ← hl, ← hs, o.focus, track_congr o.lens, giveTarget_lens_congr _ _ o.lens o.time] at eighth
  exact ⟨early, one, eighth⟩

/-- EVALUATION_DONE with its figures: the Focus unit's part is done in a state `e` alike to the search (R82). -/
theorem Evaluating.searches {id : BankId} {copy : RecordCopy} {f level nf : Nat} (h : Evaluating s id copy)
    (hf : f = figure s.focus.mode (s.bank id).cells) (hl : level = (meanLevel s.exposure.weights (s.bank id)).getD 0)
    (hn : nf = normalised f level) :
    ∃ e v fo t q, Optics s e ∧
      focusEvaluate (s.bank id).cells copy level (meanLevel s.exposure.weights (s.bank id)).isNone e = (v, fo) ∧
      fo.f = f ∧ fo.nf = nf ∧ exec .evaluationDone s = .next t ∧ t.focus = v.focus ∧ t.lens = v.lens ∧
      t.status.latched = v.status.latched ∧ ResultInput.fo q = fo ∧
      t.stats.writer = some { bank := id, entry := s.stats.nextEntry, bytes := q.bytes, secondHalf := false } := by
  obtain ⟨e, eo, v, fo, he, hv, first, -, -, ends⟩ := evaluate_units id (s.bank id) copy s
  obtain ⟨q, -, hfo, writer⟩ := ends.writer
  obtain ⟨lev, data⟩ := exposureEvaluate_level (s.bank id) copy.record s
  rw [he] at lev data
  change eo.level = _ at lev
  change (eo.reason == .noData) = _ at data
  rw [lev, ← hl, data] at hv
  have alike : Optics s e :=
    ⟨first.lens_eq, first.focus_eq, first.partTime_eq, fun i k => by
      have kept := exposureEvaluate_latched (s.bank id) copy.record s k
      rwa [he] at kept⟩
  obtain ⟨figF, figN⟩ := focusEvaluate_figures (s.bank id).cells copy level
    (meanLevel s.exposure.weights (s.bank id)).isNone e
  rw [hv, alike.focus, ← hf] at figF figN
  exact ⟨e, v, fo, _, q, alike, hv, figF, figN.trans hn.symm, h.runs, by rw [finish_focus, ends.focus],
    by rw [finish_lens, ends.lens], by rw [finish_status_latched, ends.latched], hfo, by rw [finish_stats, writer]⟩

/-- The fine step in a state whose Lens drive is that of `s`. -/
theorem fineStep_refines {v : State} {q r : SearchRecord} {best : TrailEntry} {d : Nat} (hl : v.lens = s.lens)
    (ht : v.partTime = s.partTime) (hz : q.zs = r.zs) (hd : d = v.fractionOf q.zs (fineP v.focus.trail q best))
    (e : t = fineStep q best v) :
    t.focus.d = d ∧ t.focus.search = some q ∧
      t.focus.state = (if t.lens.focus.state = .idle ∧ t.lens.focus.position = t.lens.focus.target then .locked
        else .searching .final) ∧
      t.lens = (giveTarget .focus false (s.track r.zs d) s).lens := by
  obtain ⟨lens, focus⟩ := fineStep_spec q best v hd
  rw [hz, track_congr hl, giveTarget_lens_congr _ _ hl ht] at lens
  rw [← e] at lens focus
  exact ⟨by rw [focus], by rw [focus], by rw [focus], lens⟩

/-- The next sample position in a state whose Lens drive is that of `s`. -/
theorem goSample_goes {v : State} {x : SearchRecord} {pos : Nat} (hl : v.lens = s.lens) (ht : v.partTime = s.partTime)
    (hd : v.focus.d = s.focus.d) (e : t = goSample pos x v) :
    ∃ y, t.focus.search = some y ∧ y.sample = pos ∧ y.best = x.best ∧ y.falls = x.falls ∧ y.up = x.up ∧
      y.reversed = x.reversed ∧ y.lo = x.lo ∧ y.hi = x.hi ∧ y.step = x.step ∧ t.focus.d = s.focus.d ∧
      (t.focus.state = .searching .travel ∨ t.focus.state = .searching .sample) ∧
      t.lens = (giveTarget .focus false pos s).lens := by
  obtain ⟨⟨n, at', search⟩, phase, lens⟩ := goSample_goesOn pos x v
  rw [← e] at search phase lens
  refine ⟨{ x with sample := pos, resolved := n, sampleStart := at' }, by rw [search], rfl, rfl, rfl, rfl, rfl, rfl, rfl, rfl,
    ?_, phase, lens.trans (giveTarget_lens_congr _ _ hl ht)⟩
  rw [search]
  exact hd

/-- The decision at the end of the range, with the names of O45 (R90). -/
theorem rangeEnd_eq {q r : SearchRecord} {best : TrailEntry} {falls back far : Nat} (v : State) (h : r.lo ≤ r.hi)
    (hq : q = { r with best := some best, falls := falls })
    (hb : back = (if r.up then max r.lo (min r.hi (r.ps - r.step)) else max r.lo (min r.hi (r.ps + r.step))))
    (hf : far = (if r.up then r.lo else r.hi)) :
    rangeEnd q best v =
      if best.pos = r.ps ∧ r.reversed = false ∧ r.ps ≠ far then
        goSample back { q with up := !r.up, reversed := true, falls := 0 } v
      else if best.nf < v.focus.settings.minc then failSearchBack .lowContrast q (setSearch q v)
      else fineStep q best v := by
  subst hq hb hf
  unfold rangeEnd
  simp only [clampNat_eq h]

/-- Settles O45: a resolved frame is taken, counted or neither; a taken one makes the search go on, turn, fail or
refine. -/
theorem searchClimbsStepByStep : Obligations.SearchClimbsStepByStep := by
  refine ⟨fun s id copy f level nf h hf hlevel hnf => ?_, fun s => ⟨resolveUnmetered_of_not, fun r hs hr => ?_⟩,
    fun s t nf r hr hrange hfalls ht => ⟨by rw [ht, takeFrame_trail], ?_⟩⟩
  · obtain ⟨e, v, fo, t, q, alike, hv, figF, figN, run, focus, lens, latched, hfo, writer⟩ := h.searches hf hlevel hnf
    obtain ⟨at80, at84⟩ := readLe_figures q
    have used := used_bit q
    have small : nf < 2 ^ 32 := by omega
    rw [hfo] at at80 at84 used
    rw [figF] at at80
    rw [figN, Nat.mod_eq_of_lt small] at at84
    refine ⟨t, _, run, writer, ?_⟩
    dsimp only
    refine ⟨at80, at84, fun other => ?_, fun r judged hs hr hj => ?_⟩
    · rw [← alike.focus] at other
      obtain ⟨same, no⟩ := focusEvaluate_of_not (s.bank id).cells copy level
        (meanLevel s.exposure.weights (s.bank id)).isNone other
      rw [hv] at same no
      change v = e at same
      rw [focus, lens, same, alike.focus, alike.lens]
      exact ⟨rfl, rfl, used.trans no⟩
    · have mode : normalised (figure e.focus.mode (s.bank id).cells) level = nf := by
        rw [alike.focus, hnf, hf]
        rfl
      rw [← alike.focus] at hs hr
      obtain ⟨took, use⟩ := focusEvaluate_sample (s.bank id).cells copy level
        (meanLevel s.exposure.weights (s.bank id)).isNone hs hr
      rw [hv, mode] at took
      rw [hv] at use
      change v = _ at took
      change fo.used = _ at use
      have judges : usable r (meanLevel s.exposure.weights (s.bank id)).isNone copy.record = true ↔ judged := by
        rw [hj]
        simp [usable, and_assoc, Option.isSome_iff_ne_none]
      refine ⟨by rw [used, use]; exact judges, fun yes => ?_, fun no c hc => ?_⟩
      · rw [if_pos (judges.mpr yes)] at took
        have taken := alike.takeFrame nf r
        rw [focus, lens, latched, took]
        exact ⟨taken.focus, taken.lens, taken.latched⟩
      · rw [if_neg (mt judges.mp no), hc] at took
        have counted := countFrame_counted c r e
        exact (took ▸ counted : FrameCounted e v r c).congr alike focus lens latched
  · rw [resolveUnmetered_sample hs hr]
    exact countFrame_counted _ _ _
  · intro best falls next back far edge d raw p pInf span hbest hfall hnext hback hedge hfar hraw hp hpInf hspan hd
    obtain ⟨v, hv⟩ : ∃ v : State, v = { s with
        focus := { s.focus with trail := ({ pos := r.sample, nf := nf } :: s.focus.trail).take 8 } } := ⟨_, rfl⟩
    have run := takeFrame_eq s (updateBest_eq r r.sample nf hbest hfall) hv
    obtain ⟨lens, time, dSame, settings⟩ : v.lens = s.lens ∧ v.partTime = s.partTime ∧ v.focus.d = s.focus.d ∧
        v.focus.settings = s.focus.settings := by rw [hv]; exact ⟨rfl, rfl, rfl, rfl⟩
    obtain ⟨q, hq⟩ : ∃ q, q = { r with best := some best, falls := falls } := ⟨_, rfl⟩
    have zs : q.zs = r.zs := by rw [hq]
    have two := falls_le hfalls hfall
    have star : fineP v.focus.trail q best = p := by
      have trail : t.focus.trail = v.focus.trail := by rw [ht, takeFrame_trail, hv]
      obtain ⟨lo, hi, step⟩ : q.lo = r.lo ∧ q.hi = r.hi ∧ q.step = r.step := by rw [hq]; exact ⟨rfl, rfl, rfl⟩
      rw [← step] at hraw hp
      rw [hp, ← trail, ← lo, ← hi]
      exact fineP_eq t.focus.trail q best (by rw [lo, hi]; exact hrange) hraw
    have frac : d = v.fractionOf q.zs (fineP v.focus.trail q best) := by
      rw [star, zs, fractionOf_congr lens, fractionOf_eq hpInf hspan hd]
    have turns := rangeEnd_eq v hrange hq hback hfar
    rw [← ht, ← hq, ← hedge] at run
    rw [settings] at turns
    refine ⟨fun h => ?_, fun h1 h2 h3 h4 => ?_, fun h1 h2 h3 h4 h5 => ?_, fun h1 h2 => ?_⟩
    · rw [← hq]
      refine fineStep_refines lens time zs frac ?_
      by_cases second : falls = 2
      · rw [run, if_pos second]
      · obtain ⟨atEdge, stays, enough⟩ := h.resolve_left second
        rw [run, if_neg second, if_pos atEdge, turns, if_neg stays, if_neg (by omega)]
    · have e : t = failSearchBack .lowContrast q (setSearch q v) := by
        rw [run, if_neg (by omega), if_pos h2, turns, if_neg h3, if_pos h4]
      obtain ⟨hlens, hfocus, latched⟩ := failSearchBack_spec .lowContrast q (setSearch q v)
      rw [← e] at hlens hfocus latched
      refine ⟨by rw [hfocus], by rw [hfocus]; exact dSame, latched, hlens.trans ?_⟩
      rw [zs, show (setSearch q v).track = s.track from track_congr lens,
        show (setSearch q v).focus.d = s.focus.d from dSame]
      exact giveTarget_lens_congr _ _ lens time
    · have e := goSample_goes (t := t) (pos := back) (x := { q with up := !r.up, reversed := true, falls := 0 }) lens time
        dSame (by rw [run, if_neg (by omega), if_pos h2, turns, if_pos ⟨h3, h4, h5⟩])
      rw [hq] at e
      exact e
    · have e := goSample_goes (t := t) (pos := next) (x := q) lens time dSame (by
        rw [run, if_neg (by omega), if_neg h2, clampNat_eq hrange, hnext]
        cases r.up <;> rfl)
      rw [hq] at e
      exact e

end Sys2Proof.Machine
end

section
/-! PROOFS. The end of an exchange: the round goes on, the lens may be parked, and the rest stays (R124, R117). The settle
timer (O30). -/

namespace Sys2Proof.Machine
set_option Elab.async false

variable {s t u v : State}

/-! ### The round goes on -/

theorem RequestDue.congr {id : MotorId} {r : Option Request} (h : RequestDue s id r) (hl : t.lens = s.lens) :
    RequestDue t id r := by
  have cap : t.cap id = s.cap id := by cases id <;> simp [State.cap, hl]
  have motor : t.motor id = s.motor id := by cases id <;> simp [State.motor, hl]
  exact
    { cap := by rw [cap, hl]; exact h.cap
      low := by rw [hl]; exact h.low
      still := by rw [motor]; exact h.still
      home := by rw [hl, motor]; exact h.home
      seek := by rw [hl, motor, cap]; exact h.seek
      ask := by rw [hl, motor, cap]; exact h.ask
      go := by rw [hl, motor, cap]; exact h.go }

theorem RequestSent.congr {id : MotorId} {r : Request} (h : RequestSent s id r) (hl : t.link = s.link)
    (ht : t.partTime = s.partTime) : RequestSent t id r := by
  obtain ⟨h1, h2, h3, h4⟩ := h
  rw [← hl, ← ht] at h1
  rw [← hl] at h2 h3 h4
  exact ⟨h1, h2, h3, h4⟩

theorem TurnFollows.congr {last : Turn} (h : TurnFollows last s) (hl : t.lens = s.lens) (hk : t.link = s.link)
    (ht : t.partTime = s.partTime) : TurnFollows last t := by
  obtain ⟨f, z, hf, hz, focus, zoom, quiet⟩ := h
  refine ⟨f, z, hf.congr hl, hz.congr hl, fun a r b => (focus a r b).congr hk ht, fun a r b => (zoom a r b).congr hk ht, ?_⟩
  rw [hk]
  exact quiet

/-! ### The lens is parked -/

theorem rests_iff (m : Motor) : m.Rests ↔ m.underWay = false := by
  unfold Motor.Rests Motor.underWay Motor.driven
  cases m.state <;> decide

theorem enterConfig_frames (s : State) :
    (enterConfig s).frames = { s.frames with map := (enterConfig s).frames.map, free := (enterConfig s).frames.free } ∧
      (s.frames.geometry = none → (enterConfig s).frames = s.frames) ∧
      ∀ g, s.frames.geometry = some g →
        (enterConfig s).frames.free = (List.range g.s).map (g.l + ·) ∧
          (enterConfig s).frames.map = (List.range g.l).map fun k => { s.entry k with phys := k } := by
  cases h : s.frames.geometry with
  | none =>
    have same : (enterConfig s).frames = s.frames := by simp only [enterConfig, Frames.rebuilt, h]
    exact ⟨by rw [same], fun _ => same, nofun⟩
  | some g =>
    have built : (enterConfig s).frames =
        { s.frames with
          map := (List.range g.l).map fun k => { s.entry k with phys := k }
          free := g.spares } := by
      simp only [enterConfig, Frames.rebuilt, h]
      rfl
    refine ⟨by rw [built], nofun, fun g' e => ?_⟩
    cases e
    rw [built]
    exact ⟨rfl, rfl⟩

/-- In PARKING, with no motor under way, the part enters CONFIG (R117). -/
theorem checkParked_parks (s : State) : LensParks s (checkParked s) := by
  have lens : (checkParked s).lens = s.lens := (checkParked_changes s).lens_eq
  constructor
  · intro parking zoom focus
    rw [lens, rests_iff] at zoom focus
    have e : checkParked s = enterConfig s := if_pos ⟨parking, zoom, focus⟩
    rw [e]
    exact ⟨rfl, ⟨rfl, rfl, rfl, rfl⟩, enterConfig_frames s⟩
  · intro h
    rw [lens, rests_iff, rests_iff] at h
    have e : checkParked s = s := if_neg (by tauto)
    rw [e]
    exact ⟨rfl, rfl⟩

theorem LensParks.congr (h : LensParks s t) (hp : u.partState = t.partState) (hf : u.frames = t.frames)
    (hl : u.lens = t.lens) (hk : t.partState = .config → u.link = t.link) : LensParks s u := by
  obtain ⟨parks, waits⟩ := h
  constructor
  · intro parking zoom focus
    rw [hl] at zoom focus
    obtain ⟨config, quiet, frames⟩ := parks parking zoom focus
    rw [hp, hf, hk config]
    exact ⟨config, quiet, frames⟩
  · intro h
    rw [hl] at h
    rw [hp, hf]
    exact waits h

/-- What was handed on before counts from where its part state and frames were the same. -/
theorem LensParks.from (h : LensParks s t) (hp : s.partState = u.partState) (hf : s.frames = u.frames) :
    LensParks u t := by
  obtain ⟨parks, waits⟩ := h
  constructor
  · rw [← hp, ← hf, ← show s.entry = u.entry by funext k; rw [State.entry, State.entry, hf]]
    exact parks
  · rw [← hp, ← hf]
    exact waits

/-! ### What the end of an exchange leaves -/

/-- The state `t` an event ends in when the exchange had delivered what it had to in `v`. -/
structure Closes (v t : State) : Prop where
  lens     : t.lens = v.lens
  focus    : t.focus = v.focus
  steady   : t.steady = v.steady
  exposure : t.exposure = v.exposure
  stats    : t.stats = v.stats
  hostOut  : t.hostOut = v.hostOut
  queue    : t.orders.queue = v.orders.queue
  latched  : t.status.latched = v.status.latched
  counters : t.status.counters = v.status.counters
  table    : t.frames.table = v.frames.table
  fails    : ∀ g, t.link.fails g = v.link.fails g
  mark     : t.link.sensingFaulted = v.link.sensingFaulted
  parks    : LensParks v t
  goes     : RoundGoesOn v t

/-- Neither parking the lens nor a turn touches a failure count or the mark. -/
theorem fails_nextTurn (s : State) (g : Target) :
    (nextTurn s).link.fails g = s.link.fails g ∧ (nextTurn s).link.sensingFaulted = s.link.sensingFaulted := by
  have zoom : ∀ w : State, (zoomTurn w).link.fails g = w.link.fails g ∧
      (zoomTurn w).link.sensingFaulted = w.link.sensingFaulted := fun w => by
    unfold zoomTurn
    split <;> cases g <;> exact ⟨rfl, rfl⟩
  unfold nextTurn
  split
  · exact ⟨rfl, rfl⟩
  · split
    · unfold focusTurn
      split
      · cases g <;> exact ⟨rfl, rfl⟩
      · exact zoom s
    · exact zoom s
    · cases g <;> exact ⟨rfl, rfl⟩
    · cases g <;> exact ⟨rfl, rfl⟩

theorem checkParked_link (s : State) :
    (∀ g, (checkParked s).link.fails g = s.link.fails g) ∧
      (checkParked s).link.sensingFaulted = s.link.sensingFaulted ∧
      (checkParked s).frames.table = s.frames.table ∧
      (((checkParked s).partState = s.partState ∧ (checkParked s).link = s.link) ∨
        (checkParked s).partState = .config ∧ s.partState = .parking ∧ QuietLink (checkParked s).link) := by
  unfold checkParked
  split
  · next h =>
    refine ⟨fun g => by cases g <;> rfl, rfl, enterConfig_table s, .inr ⟨rfl, h.1, rfl, rfl, rfl, rfl⟩⟩
  · exact ⟨fun _ => rfl, rfl, rfl, .inl ⟨rfl, rfl⟩⟩

theorem nextTurn_config (h : s.partState = .config) : nextTurn s = s := if_pos h

/-- The end of an event that ends an exchange (R117, R124). -/
theorem closes (s v : State) : Closes v (finish s (nextTurn (checkParked v))) := by
  obtain ⟨w, hw⟩ : ∃ w, checkParked v = w := ⟨_, rfl⟩
  have parked := checkParked_changes v
  obtain ⟨fails, mark, table, config⟩ := checkParked_link v
  have parks := checkParked_parks v
  rw [hw] at parked fails mark table config parks
  have turned := nextTurn_changes w
  rw [hw]
  constructor
  · rw [finish_lens, turned.lens_eq, parked.lens_eq]
  · rw [finish_focus, turned.focus_eq, parked.focus_eq]
  · rw [finish_steady, turned.steady_eq, parked.steady_eq]
  · rw [finish_exposure, turned.exposure_eq, parked.exposure_eq]
  · rw [finish_stats, turned.stats_eq, parked.stats_eq]
  · rw [finish_hostOut, turned.hostOut_eq, parked.hostOut_eq]
  · rw [finish_orders_queue, turned.orders_eq, parked.orders_eq]
  · rw [finish_status_latched, turned.status_eq, parked.status_eq]
  · rw [finish_status_counters, turned.status_eq, parked.status_eq]
  · rw [finish_frames, turned.frames_eq, table]
  · intro g
    rw [finish_link, (fails_nextTurn w g).1, fails]
  · rw [finish_link, (fails_nextTurn w .zoom).2, mark]
  · refine parks.congr (by rw [finish_partState, turned.partState_eq]) (by rw [finish_frames, turned.frames_eq])
      (by rw [finish_lens, turned.lens_eq]) fun h => ?_
    rw [finish_link, nextTurn_config h]
  · constructor
    · intro running
      rw [finish_partState, turned.partState_eq] at running
      have follows := nextTurn_follows w running
      have turn : w.link.turn = v.link.turn := by
        rcases config with ⟨-, same⟩ | ⟨entered, -⟩
        · rw [same]
        · exact absurd entered running
      rw [turn] at follows
      exact follows.congr (by rw [finish_lens]) (by rw [finish_link]) (by rw [finish_partTime])
    · intro before after
      rw [finish_partState, turned.partState_eq] at after
      rcases config with ⟨same, -⟩ | ⟨-, -, quiet⟩
      · exact absurd (same ▸ after) before
      · rw [finish_link, nextTurn_config after]
        exact quiet

/-- The round goes on from where the exchange stood, as its turn and being in CONFIG have not changed. -/
theorem RoundGoesOn.from (h : RoundGoesOn v t) (ht : v.link.turn = s.link.turn) (hp : PartGoesOn s v) : RoundGoesOn s t := by
  obtain ⟨follows, quiet⟩ := h
  rw [ht] at follows
  exact ⟨follows, fun a b => quiet (mt hp.config_iff.mp a) b⟩

/-! ### The settle timer -/

theorem checkParked_or (s : State) :
    checkParked s = s ∨ (s.partState = .parking ∧ checkParked s = enterConfig s) := by
  unfold checkParked
  split
  · next h => exact .inr ⟨h.1, rfl⟩
  · exact .inl rfl

theorem checkParked_eq (s : State) :
    checkParked s =
      { s with
        partState := (checkParked s).partState, link := (checkParked s).link, frames := (checkParked s).frames } := by
  rcases checkParked_or s with e | ⟨-, e⟩ <;> rw [e]
  rfl

theorem focusArrived_lens (s : State) : (focusArrived s).lens = s.lens := by
  unfold focusArrived
  dsimp only
  split
  · split <;> rfl
  · split <;> rfl
  · rfl

theorem SearchArrives.congr (h : SearchArrives s t) (hs : u.focus = s.focus) (hp : u.partTime = s.partTime)
    (hf : v.focus = t.focus) (hl : v.lens = t.lens) (hb : v.status.latched = t.status.latched) : SearchArrives u v := by
  obtain ⟨sample, travel, locked, final, others⟩ := h
  rw [← hs, ← hf, ← hl] at sample travel locked final
  rw [← hs, ← hf] at others
  rw [← hp] at sample
  rw [← hb] at locked
  exact ⟨sample, travel, locked, final, others⟩

theorem becomeIdle_focus (id : MotorId) (s : State) : (becomeIdle id s).focus = s.focus := by
  rw [becomeIdle, latchIf]
  cases id <;> split <;> rfl

/-- A settled motor, with what the search makes of it (R86, R93, R110). -/
theorem becomeIdle_arrives (id : MotorId) {a b : State} (ha : becomeIdle id s = a)
    (hb : (if id = .focus then focusArrived a else a) = b) :
    MotorsOnly s b ∧
      b.motor id = { s.motor id with state := .idle, stillSince := s.partTime, zoomToPending := false } ∧
      (∀ j, j ≠ id → b.motor j = s.motor j) ∧
      (id = .zoom → (s.motor id).zoomToPending = true →
        b.status.latched.getLsbD LatchedBit.zoomDone.index = true) ∧
      (id = .focus → SearchArrives s b) ∧ (id = .zoom → b.focus = s.focus) := by
  have only : MotorsOnly s a := ha ▸ MotorsOnly.becomeIdle id s
  have lens : b.lens = a.lens := by
    rw [← hb]
    split
    · exact focusArrived_lens a
    · rfl
  have motors : ∀ j, b.motor j = a.motor j := fun j => by cases j <;> simp only [State.motor, lens]
  refine ⟨hb ▸ only.trans (.ite (.focusArrived a) (.refl a)), ?_, fun j hj => ?_, ?_, ?_, ?_⟩
  · rw [motors, ← ha, becomeIdle, latchIf_motor, motor_setMotor]
  · rw [motors, ← ha, becomeIdle, latchIf_motor, motor_setMotor_of_ne _ hj]
  · rintro rfl pending
    rw [← hb, if_neg nofun, ← ha, becomeIdle, pending]
    exact latch_bit _ _
  · rintro rfl
    rw [← hb, if_pos rfl]
    exact (focusArrived_arrives a).congr (by rw [← ha, becomeIdle_focus]) (by rw [show a = _ from only]) rfl rfl rfl
  · rintro rfl
    rw [← hb, if_neg nofun, ← ha, becomeIdle_focus]

/-- Settles O30: the motor is IDLE, the search goes on with it, and the lens may then be parked. -/
theorem settleTimeoutMakesIdle : Obligations.SettleTimeoutMakesIdle := by
  intro s id out
  refine ⟨fun settling late => ?_, fun early => ?_⟩
  · obtain ⟨a, ha⟩ : ∃ a, becomeIdle id s = a := ⟨_, rfl⟩
    obtain ⟨b, hb⟩ : ∃ b, (if id = .focus then focusArrived a else a) = b := ⟨_, rfl⟩
    obtain ⟨only, idle, others, done, arrives, zoom⟩ := becomeIdle_arrives id ha hb
    have run : settleExpired id s = checkParked b := by
      rw [← hb, ← ha]
      exact if_pos ⟨settling, late⟩
    obtain ⟨w, hw⟩ : ∃ w, checkParked b = w := ⟨_, rfl⟩
    have parked := checkParked_changes b
    have parks := checkParked_parks b
    have whole := checkParked_eq b
    rw [hw] at parked parks whole
    have same : b.partState = s.partState ∧ b.frames = s.frames ∧ b.link = s.link := by
      rw [show b = _ from only]
      exact ⟨rfl, rfl, rfl⟩
    obtain ⟨part, frames, link⟩ := same
    have motors : ∀ j, (finish s w).motor j = b.motor j := fun j => by
      cases j <;> simp only [State.motor, finish_lens, parked.lens_eq]
    have ends : exec (.settleTimeout id) s = .next (finish s w) := by
      show event (settleExpired id) s = _
      rw [event_of_out s out, run, hw]
    refine ⟨_, ends, ?_⟩
    rw [settled_finish]
    simp only [motors, finish_status_latched, finish_focus, finish_lens, finish_partState, finish_frames, finish_link]
    refine ⟨idle, others, ?_, fun hf => ?_, ?_, ?_, fun stays => ?_, fun enters => ?_, ?_⟩
    · rw [parked.status_eq]; exact done
    · exact (arrives hf).congr rfl rfl (by rw [finish_focus, parked.focus_eq]) (by rw [finish_lens, parked.lens_eq])
        (by rw [finish_status_latched, parked.status_eq])
    · rw [parked.focus_eq]; exact zoom
    · exact (parks.from part frames).congr (by rw [finish_partState]) (by rw [finish_frames]) (by rw [finish_lens])
        fun _ => by rw [finish_link]
    · rcases checkParked_or b with e | ⟨parking, e⟩
      · rw [← hw, e, link]
      · rw [← hw, e, ← part, parking] at stays
        cases stays
    · rcases checkParked_or b with e | ⟨parking, e⟩
      · rw [← hw, e, part] at enters
        exact absurd rfl enters
      · rw [← hw, e, enterConfig, link]
        rfl
    · rw [parked.focus_eq, parked.lens_eq, parked.status_eq]
      rw [show b = _ from only] at whole
      exact (congrArg State.settled whole :)
  · have run : settleExpired id s = s := by
      refine if_neg ?_
      rintro ⟨settling, late⟩
      rcases early with h | h
      · exact h settling
      · exact absurd late (Nat.not_le.mpr h)
    refine ⟨finish s s, ?_, settled_finish s s⟩
    show event (settleExpired id) s = _
    rw [event_of_out s out, run]

end Sys2Proof.Machine
end

section
/-! PROOFS. The end of homing, and motors that are lost (R109, R115, R116). -/

namespace Sys2Proof.Machine
set_option Elab.async false

variable {s t u v : State}

/-! ### The end of homing -/

theorem MotorsOnly.parkZoom (s : State) : MotorsOnly s (parkZoom s) :=
  .ite ((MotorsOnly.setMotor .zoom _ s).trans (MotorsOnly.giveTarget _ _ _ _)) (.refl s)

theorem MotorsOnly.parkFocus (s : State) : MotorsOnly s (parkFocus s) := .ite (.giveFocus _ _ s) (.refl s)

/-- The part state at the end of homing (R191). -/
def State.homed (s : State) : State := { s with partState := if s.partState = .homing then .running else s.partState }

theorem endOfHoming_eq (s : State) : endOfHoming s = setZoomHomed false (parkFocus (parkZoom s.homed)) := rfl

/-- The end of homing changes the motors, the note of the zoom, the search, the latched bits and the part state. -/
theorem endOfHoming_whole (s : State) :
    endOfHoming s =
      { s with
        partState := s.homed.partState
        lens :=
          { s.lens with
            zoom := (endOfHoming s).lens.zoom, focus := (endOfHoming s).lens.focus, zoomHomed := false }
        focus := (endOfHoming s).focus
        status := { s.status with latched := (endOfHoming s).status.latched } } := by
  have motors := (MotorsOnly.parkZoom s.homed).trans (MotorsOnly.parkFocus _)
  rw [endOfHoming_eq]
  obtain ⟨w, hw⟩ : ∃ w, parkFocus (parkZoom s.homed) = w := ⟨_, rfl⟩
  rw [hw] at motors ⊢
  rw [show w = _ from motors]
  rfl

theorem parkZoom_of_not (h : s.lens.zoomHomed = false ∨ s.lens.zoom.state ≠ .idle) : parkZoom s = s :=
  if_neg (by rintro ⟨a, b⟩; simp_all)

theorem parkFocus_of_not (h : s.lens.focus.state ≠ .idle) : parkFocus s = s := if_neg h

/-- Parking the zoom leaves the focus motor and the Focus unit. -/
theorem parkZoom_others (s : State) : (parkZoom s).lens.focus = s.lens.focus ∧ (parkZoom s).focus = s.focus := by
  unfold parkZoom
  split
  · obtain ⟨others, focus⟩ := giveTarget_others .zoom false s.lens.settings.park
      (setMotor .zoom { s.lens.zoom with speed := 8 } s)
    exact ⟨others .focus nofun, focus⟩
  · exact ⟨rfl, rfl⟩

theorem parkFocus_zoom (s : State) : (parkFocus s).lens.zoom = s.lens.zoom := by
  unfold parkFocus
  split
  · exact (FocusOnly.giveFocus _ _ s).zoom
  · rfl

/-- A motor that is not IDLE stands as it does at the end of homing (R116). -/
theorem endOfHoming_motor (id : MotorId) (h : (s.motor id).state ≠ .idle) : (endOfHoming s).motor id = s.motor id := by
  rw [endOfHoming_eq]
  cases id with
  | zoom =>
    show (parkFocus (parkZoom s.homed)).lens.zoom = _
    rw [parkFocus_zoom, parkZoom_of_not (s := s.homed) (.inr h)]
    rfl
  | focus =>
    obtain ⟨focus, -⟩ := parkZoom_others s.homed
    show (parkFocus (parkZoom s.homed)).lens.focus = _
    rw [parkFocus_of_not (by rw [focus]; exact h), focus]
    rfl

/-- With the focus motor not IDLE the end of homing leaves the Focus unit. -/
theorem endOfHoming_focus (h : s.lens.focus.state ≠ .idle) : (endOfHoming s).focus = s.focus := by
  obtain ⟨focus, unit⟩ := parkZoom_others s.homed
  show (parkFocus (parkZoom s.homed)).focus = _
  rw [parkFocus_of_not (by rw [focus]; exact h), unit]
  rfl

theorem endOfHoming_supply (s : State) : (endOfHoming s).lens.supply = s.lens.supply := by rw [endOfHoming_whole]

theorem leftHoming_motor (id : MotorId) (h : (s.motor id).state ≠ .idle) : (leftHoming id s).motor id = s.motor id := by
  cases id with
  | zoom =>
    show (zoomLeftHoming s).motor .zoom = _
    unfold zoomLeftHoming
    split
    · rfl
    · rfl
    · exact endOfHoming_motor .zoom h
  | focus => exact endOfHoming_motor .focus h

theorem leftHoming_supply (id : MotorId) (s : State) : (leftHoming id s).lens.supply = s.lens.supply := by
  cases id with
  | zoom =>
    show (zoomLeftHoming s).lens.supply = _
    unfold zoomLeftHoming
    split
    · rfl
    · rfl
    · exact endOfHoming_supply s
  | focus => exact endOfHoming_supply s

/-! ### Lost motors -/

/-- A search on a focus motor that is lost ends for LENS (R95). -/
theorem focusMotorLost_spec (s : State) :
    (focusMotorLost s).lens = s.lens ∧
      (s.focus.state.isSearching = false → focusMotorLost s = s) ∧
      (s.focus.state.isSearching = true →
        (focusMotorLost s).focus = { s.focus with state := .failed .lens } ∧
          (focusMotorLost s).status.latched.getLsbD LatchedBit.focusFailed.index = true) := by
  unfold focusMotorLost
  cases s.focus.state.isSearching with
  | false => exact ⟨rfl, fun _ => rfl, nofun⟩
  | true => exact ⟨rfl, nofun, fun _ => ⟨rfl, latch_bit _ _⟩⟩

/-- A motor is lost for a reason, from `s` to `t` (R95, R109, R115): `m` is its record but for its fault. -/
structure MotorLost (s t : State) (id : MotorId) (m : Motor) (why : MotorFault) : Prop where
  motor  : t.motor id = { m with state := .faulted, fault := why, zoomToPending := false }
  bit    : t.status.latched.getLsbD LatchedBit.lensFault.index = true
  others : (s.motor id).state ≠ .homing → ∀ j, j ≠ id → t.motor j = s.motor j
  part   : (s.motor id).state ≠ .homing → t.partState = s.partState
  zoom   : id = .zoom → (s.motor id).state ≠ .homing → t.focus = s.focus
  still  : id = .focus → s.focus.state.isSearching = false → t.focus = s.focus
  search : id = .focus → s.focus.state.isSearching = true →
    t.focus = { s.focus with state := .failed .lens } ∧
      t.status.latched.getLsbD LatchedBit.focusFailed.index = true
  supply : t.lens.supply = s.lens.supply

theorem faultMotor_lost (id : MotorId) (m : Motor) (why : MotorFault) (s : State) :
    MotorLost s (faultMotor id m why s) id m why := by
  obtain ⟨a, ha⟩ : ∃ a, a = latch .lensFault
      (setMotor id { m with state := .faulted, fault := why, zoomToPending := false } s) := ⟨_, rfl⟩
  obtain ⟨b, hb⟩ : ∃ b, b = if id = .focus then focusMotorLost a else a := ⟨_, rfl⟩
  have run : faultMotor id m why s = if (s.motor id).state = .homing then leftHoming id b else b := by
    rw [hb, ha]
    rfl
  have focus : a.focus = s.focus := by rw [ha]; cases id <;> rfl
  obtain ⟨lens, idle, lost⟩ := focusMotorLost_spec a
  have lensB : b.lens = a.lens := by
    rw [hb]
    split
    · exact lens
    · rfl
  have motors : ∀ j, b.motor j = a.motor j := fun j => by cases j <;> simp only [State.motor, lensB]
  have mine : b.motor id = { m with state := .faulted, fault := why, zoomToPending := false } := by
    rw [motors, ha]
    simp
  have steers : Steers a b := by
    rw [hb]
    exact .ite (Steers.focusMotorLost a) (.refl a)
  have after : Steers b (faultMotor id m why s) := by
    rw [run]
    exact .ite (Steers.leftHoming id b) (.refl b)
  have bit : b.status.latched.getLsbD LatchedBit.lensFault.index = true :=
    steers.latched _ (by rw [ha]; exact latch_bit _ _)
  have unit : id = .focus → (faultMotor id m why s).focus = b.focus := by
    rintro rfl
    rw [run]
    split
    · exact endOfHoming_focus (by rw [show b.lens.focus = _ from mine]; nofun)
    · rfl
  constructor
  · rw [run]
    split
    · rw [leftHoming_motor id (by rw [mine]; nofun), mine]
    · exact mine
  · exact after.latched _ bit
  · intro h j hj
    rw [run, if_neg h, motors, ha]
    rw [latch_motor]
    exact motor_setMotor_of_ne s hj _
  · intro h
    have same : MotorsOnly s b := by
      rw [hb, ha]
      exact ((MotorsOnly.setMotor id _ s).trans (MotorsOnly.latch _ _)).trans
        (.ite (.ite (MotorsOnly.failSearch _ _) (.refl _)) (.refl _))
    rw [run, if_neg h, show b = _ from same]
  · rintro rfl h
    rw [run, if_neg h, hb, if_neg nofun, focus]
  · rintro rfl h
    rw [unit rfl, hb, if_pos rfl, idle (by rw [focus]; exact h), focus]
  · rintro rfl h
    obtain ⟨failed, told⟩ := lost (by rw [focus]; exact h)
    rw [unit rfl]
    refine ⟨by rw [hb, if_pos rfl, failed, focus], after.latched _ ?_⟩
    rw [hb, if_pos rfl]
    exact told
  · have before : b.lens.supply = s.lens.supply := by
      rw [lensB, ha]
      cases id <;> rfl
    rw [run]
    split
    · rw [leftHoming_supply, before]
    · exact before

end Sys2Proof.Machine
end

section
/-! PROOFS. Exchanges that end missing (O23, O25). -/

namespace Sys2Proof.Machine
set_option Elab.async false

variable {s t u v : State}

/-! ### The counters -/

/-- A correction is counted unless the header was in (R130). -/
theorem countHeader_eq (x : Exchange) (h : ReplyHeader) (s : State) :
    countHeader x h s =
      { s with
        status :=
          { s.status with
            counters :=
              { s.status.counters with
                correctedHeader :=
                  if x.headerIn = false ∧ headerCorrected h = true then min 65535 (s.status.counters.correctedHeader + 1)
                  else s.status.counters.correctedHeader } } } := by
  unfold countHeader
  cases x.headerIn with
  | true => simp
  | false => simp [countCorrected_eq]

/-- The exchange is over, with the counters `c` (R129, R133). -/
def State.exchangeOver (s : State) (c : Counters) : State :=
  { s with link := { s.link with exchange := none, lselN := true }, status := { s.status with counters := c } }

/-- The end of an exchange that ends missing (R117, R133). -/
theorem endMissing_eq (x : Exchange) (s : State) :
    endMissing x s =
      checkParked
        (deliverMissing x
          (s.exchangeOver
            { s.status.counters with missingReply := min 65535 (s.status.counters.missingReply + 1) })) := by
  have up : countUp s.status.counters.missingReply = min 65535 (s.status.counters.missingReply + 1) := by
    simp [countUp, satAdd, max16, Nat.min_comm]
  rw [← up]
  rfl

/-! ### What a missing reply delivers -/

/-- What a missing reply makes of a motor record (R109, R115). -/
def Motor.unanswered (m : Motor) : Request → Motor
  | .move n _ =>
    { m with
      uncertain := true
      travel := if m.state = .homing then min (2 ^ 32 - 1) (m.travel + n.natAbs) else m.travel
      state := if m.state = .idle ∨ m.state = .settling then .moving else m.state }
  | _ => m

theorem motorMissing_eq (id : MotorId) (r : Request) (s : State) :
    motorMissing id r s = setMotor id ((s.motor id).unanswered r) s := by
  cases r with
  | move n rate =>
    show movedMissing id n s = _
    unfold movedMissing
    dsimp only
    split
    · next h => simp [Motor.unanswered, h, satAdd, max32]
    · next h => simp [Motor.unanswered, h]
    · next h => simp [Motor.unanswered, h]
    · next h1 h2 h3 =>
      have moved : ¬((s.motor id).state = .idle ∨ (s.motor id).state = .settling) := fun h => h.elim h3 h2
      rw [Motor.unanswered, if_neg h1, if_neg moved]
  | sense => exact (setMotor_self id s).symm
  | home => exact (setMotor_self id s).symm

theorem unanswered_position (m : Motor) (r : Request) : (m.unanswered r).position = m.position := by
  cases r <;> rfl

theorem setFails_whole (g : Target) (n : Nat) (s : State) :
    setFails g n s = { s with link := (setFails g n s).link } ∧ (setFails g n s).link.fails g = n ∧
      (setFails g n s).link.turn = s.link.turn ∧ (setFails g n s).link.sensingFaulted =
        s.link.sensingFaulted := by
  cases g <;> exact ⟨rfl, rfl, rfl, rfl⟩

/-- A motor target's missing reply, from `s` to `t` (R109, R133, R134): `u` is the motor's record before the link may
fail. -/
structure ReplyMissing (s t : State) (g : Target) (id : MotorId) (u : Motor) : Prop where
  fails  : t.link.fails g = s.link.fails g + 1
  turn   : t.link.turn = s.link.turn
  counts : t.status.counters = s.status.counters
  steady : t.steady = s.steady
  supply : t.lens.supply = s.lens.supply
  again  : s.link.fails g ≠ 2 → t.motor id = u ∧ t.focus = s.focus ∧ ∀ j, j ≠ id → t.motor j = s.motor j
  third  : s.link.fails g = 2 →
    t.motor id =
        { u with
          state := .faulted, fault := .link, target := u.position, aim := u.position, overshoot := false
          zoomToPending := false } ∧
      t.status.latched.getLsbD LatchedBit.lensFault.index = true ∧
      ((s.motor id).state ≠ .homing → ∀ j, j ≠ id → t.motor j = s.motor j) ∧
      (id = .focus → s.focus.state.isSearching = true → t.focus.state = .failed .lens ∧
        t.status.latched.getLsbD LatchedBit.focusFailed.index = true)

theorem motorExchangeMissing_missing (g : Target) (id : MotorId) (r : Request) (s : State) :
    ReplyMissing s (motorExchangeMissing g id r s) g id ((s.motor id).unanswered r) := by
  obtain ⟨a, ha⟩ : ∃ a, setFails g (s.link.fails g + 1) s = a := ⟨_, rfl⟩
  obtain ⟨b, hb⟩ : ∃ b, motorMissing id r a = b := ⟨_, rfl⟩
  obtain ⟨whole, count, turnA, -⟩ := setFails_whole g (s.link.fails g + 1) s
  rw [ha] at whole count
  have motorsA : ∀ j, a.motor j = s.motor j := fun j => by rw [whole]; cases j <;> rfl
  have eqB : b = setMotor id ((s.motor id).unanswered r) a := by rw [← hb, motorMissing_eq, motorsA]
  have mine : b.motor id = (s.motor id).unanswered r := by rw [eqB, motor_setMotor]
  have others : ∀ j, j ≠ id → b.motor j = s.motor j := fun j hj => by
    rw [eqB, motor_setMotor_of_ne a hj, motorsA]
  have focus : b.focus = s.focus := by rw [eqB, setMotor_focus, whole]
  have supply : b.lens.supply = s.lens.supply := by rw [eqB, setMotor_supply, whole]
  have countB : b.link.fails g = s.link.fails g + 1 := by rw [eqB, setMotor_link, count]
  have run : motorExchangeMissing g id r s = if b.link.fails g = 3 then motorLinkFault id b else b := by
    rw [← hb, ← ha]
    rfl
  have homing : ((s.motor id).unanswered r).state = .homing ↔ (s.motor id).state = .homing := by
    cases r with
    | move n rate =>
      simp only [Motor.unanswered]
      cases (s.motor id).state <;> simp
    | sense => rfl
    | home => rfl
  have turnB : b.link.turn = s.link.turn := by rw [eqB, setMotor_link, ← ha]; exact turnA
  have countsB : b.status.counters = s.status.counters := by rw [eqB, setMotor_status, whole]
  have steadyB : b.steady = s.steady := by rw [eqB, setMotor_steady, whole]
  have lost := faultMotor_lost id ((s.motor id).unanswered r).stoppedHere .link b
  have told : motorLinkFault id b = faultMotor id ((s.motor id).unanswered r).stoppedHere .link b := by
    rw [motorLinkFault, mine]
  obtain ⟨sameLink, sameSteady, sameCounts⟩ :
      (faultMotor id ((s.motor id).unanswered r).stoppedHere .link b).link = b.link ∧
      (faultMotor id ((s.motor id).unanswered r).stoppedHere .link b).steady = b.steady ∧
      (faultMotor id ((s.motor id).unanswered r).stoppedHere .link b).status.counters = b.status.counters := by
    rw [show faultMotor id _ _ b = _ from faultMotor_only b id _ _]
    exact ⟨rfl, rfl, rfl⟩
  rw [told] at run
  by_cases h : s.link.fails g = 2
  · rw [run, if_pos (by omega)]
    obtain ⟨motor, bit, alone, -, -, -, search, kept⟩ := lost
    rw [mine] at alone
    rw [focus] at search
    refine ⟨by rw [sameLink, countB], by rw [sameLink, turnB], sameCounts.trans countsB, sameSteady.trans steadyB,
      kept.trans supply, fun n => absurd h n, fun _ => ⟨motor, bit, fun nh j hj => ?_, ?_⟩⟩
    · exact (alone (mt homing.mp nh) j hj).trans (others j hj)
    · intro hid hs
      obtain ⟨failed, told⟩ := search hid hs
      exact ⟨congrArg Focus.state failed, told⟩
  · rw [run, if_neg (by omega)]
    exact ⟨countB, turnB, countsB, steadyB, supply, fun _ => ⟨mine, focus, others⟩, fun n => absurd n h⟩

/-- Target 0 is marked faulted and the Steadying unit told (R134, R140). -/
theorem faultSensing_spec (s : State) :
    (faultSensing s).link = { s.link with sensingFaulted := true } ∧ (faultSensing s).steady.state = .faulted ∧
      (s.steady.state ≠ .faulted → (faultSensing s).status.latched.getLsbD LatchedBit.gyroFault.index = true) ∧
      (faultSensing s).status.counters = s.status.counters := by
  unfold faultSensing sensingFaulted
  split
  · next h => exact ⟨rfl, h, fun n => absurd h n, rfl⟩
  · exact ⟨rfl, rfl, fun _ => latch_bit _ _, rfl⟩

theorem quietAt_zero (u : SteadySettings) : u.quietAt 0 = false := by
  simp only [SteadySettings.quietAt, decide_eq_false_iff_not]
  omega

/-- A missing sensing reply, from `s` to `t` (R133 to R135). -/
structure SenseMissing (s t : State) : Prop where
  lens  : t.lens = s.lens
  focus : t.focus = s.focus
  turn  : t.link.turn = s.link.turn
  sound : s.link.sensingFaulted = false →
    t.link.failSensing = s.link.failSensing + 1 ∧ t.steady.quietRun = 0 ∧ t.steady.quiet = false ∧
    (s.link.failSensing ≠ 2 → t.link.sensingFaulted = false ∧ t.steady.state = s.steady.state ∧
      t.steady.lastRx = s.steady.lastRx ∧ t.steady.lastRy = s.steady.lastRy ∧
      t.status.latched.getLsbD LatchedBit.gyroHeld.index = true) ∧
    (s.link.failSensing = 2 → t.link.sensingFaulted = true ∧ t.steady.state = .faulted ∧
      t.steady.lastRx = 0 ∧ t.steady.lastRy = 0 ∧
      (s.steady.state ≠ .faulted → t.status.latched.getLsbD LatchedBit.gyroFault.index = true))
  lost  : s.link.sensingFaulted = true →
    t.link.failSensing = s.link.failSensing ∧ t.link.sensingFaulted = true ∧
      t.steady = (faultedSample s.link.roundStart s).steady
  counters : t.status.counters.correctedHeader = s.status.counters.correctedHeader ∧
    t.status.counters.discardedReply = s.status.counters.discardedReply ∧
    t.status.counters.missingReply = s.status.counters.missingReply

theorem sensingMissing_missing (s : State) : SenseMissing s (sensingMissing s) := by
  have changed := sensingMissing_changes s
  have run : sensingMissing s =
      if s.link.sensingFaulted then faultedSample s.link.roundStart s
      else if s.link.failSensing + 1 = 3 then
        faultedSample s.link.roundStart (faultSensing (setFails .sensing (s.link.failSensing + 1) s))
      else missingSample s.link.roundStart (setFails .sensing (s.link.failSensing + 1) s) := rfl
  cases marked : s.link.sensingFaulted with
  | true =>
    rw [marked, if_pos rfl] at run
    refine ⟨changed.lens_eq, changed.focus_eq, by rw [run]; rfl, by rw [marked]; nofun, fun _ => ?_, ?_⟩
    · rw [run]
      exact ⟨rfl, marked, rfl⟩
    · rw [run]
      exact ⟨rfl, rfl, rfl⟩
  | false =>
    rw [marked, if_neg nofun] at run
    refine ⟨changed.lens_eq, changed.focus_eq, ?_, fun _ => ?_, by rw [marked]; nofun, ?_⟩
    · rw [run]
      split
      · exact (congrArg Link.turn (faultSensing_spec (setFails .sensing (s.link.failSensing + 1) s)).1 :)
      · rfl
    · by_cases h : s.link.failSensing = 2
      · rw [if_pos (by omega)] at run
        rw [run]
        obtain ⟨link, faulted, told, -⟩ := faultSensing_spec (setFails .sensing (s.link.failSensing + 1) s)
        exact ⟨congrArg Link.failSensing link, rfl, rfl, fun n => absurd h n,
          fun _ => ⟨congrArg Link.sensingFaulted link, faulted, rfl, rfl, told⟩⟩
      · rw [if_neg (by omega)] at run
        rw [run]
        exact ⟨rfl, rfl, quietAt_zero _, fun _ => ⟨marked, rfl, rfl, rfl, latch_bit _ _⟩, fun n => absurd n h⟩
    · rw [run]
      split
      · have kept := (faultSensing_spec (setFails .sensing (s.link.failSensing + 1) s)).2.2.2
        exact ⟨congrArg Counters.correctedHeader kept, congrArg Counters.discardedReply kept,
          congrArg Counters.missingReply kept⟩
      · exact ⟨rfl, rfl, rfl⟩

/-! ### Discarded replies -/

/-- REPLY_DISCARDED: the counters, and then what a missing reply delivers (R130, R133). -/
theorem replyDiscarded_eq {x : Exchange} {h : ReplyHeader} {line : List Byte} (hx : s.link.exchange = some x)
    (hs : x.state = .reading h) (hj : judgeReply x h line = none) :
    replyDiscarded line s =
      nextTurn
        (checkParked
          (deliverMissing x
            (s.exchangeOver
              { s.status.counters with
                correctedHeader :=
                  if x.headerIn = false ∧ headerCorrected h = true then min 65535 (s.status.counters.correctedHeader + 1)
                  else s.status.counters.correctedHeader
                discardedReply := min 65535 (s.status.counters.discardedReply + 1)
                missingReply := min 65535 (s.status.counters.missingReply + 1) }))) := by
  have up : countUp s.status.counters.discardedReply = min 65535 (s.status.counters.discardedReply + 1) := by
    simp [countUp, satAdd, max16, Nat.min_comm]
  have reading : s.reading? = some (x, h) := by simp only [State.reading?, hx, hs]
  rw [replyDiscarded, reading]
  simp only [hj, Option.isNone_none, if_true]
  rw [countHeader_eq, endMissing_eq, ← up]
  rfl

theorem exchangeOver_motor (s : State) (c : Counters) (id : MotorId) : (s.exchangeOver c).motor id = s.motor id := by
  cases id <;> rfl

/-- Settles O25: the counters, then what a missing SENSE or a missing reply of a motor delivers. -/
theorem discardedReplyIsMissing : Obligations.DiscardedReplyIsMissing := by
  intro s x h line out hx hs hj
  have run := replyDiscarded_eq hx hs hj
  generalize hc : ({ s.status.counters with
    correctedHeader :=
      if x.headerIn = false ∧ headerCorrected h = true then min 65535 (s.status.counters.correctedHeader + 1)
      else s.status.counters.correctedHeader
    discardedReply := min 65535 (s.status.counters.discardedReply + 1)
    missingReply := min 65535 (s.status.counters.missingReply + 1) } : Counters) = c at run
  obtain ⟨a, ha⟩ : ∃ a, s.exchangeOver c = a := ⟨_, rfl⟩
  obtain ⟨v, hv⟩ : ∃ v, deliverMissing x a = v := ⟨_, rfl⟩
  rw [ha, hv] at run
  obtain ⟨changed, goesOn⟩ := deliverMissing_ends x a
  rw [hv] at changed goesOn
  have ends : exec (.replyDiscarded line) s = .next (finish s (nextTurn (checkParked v))) := by
    show event (replyDiscarded line) s = _
    rw [event_of_out s out, run]
  obtain ⟨t, ht⟩ : ∃ t, finish s (nextTurn (checkParked v)) = t := ⟨_, rfl⟩
  have over' := closes s v
  rw [ht] at ends over'
  have units : t.exposure = s.exposure ∧ t.stats = s.stats ∧ t.hostOut = s.hostOut := by
    rw [over'.exposure, over'.stats, over'.hostOut, changed.exposure_eq, changed.stats_eq, changed.hostOut_eq, ← ha]
    exact ⟨rfl, rfl, rfl⟩
  have goesA : PartGoesOn s a := by rw [← ha]; exact .of_eq rfl
  cases g : x.target.motor with
  | none =>
    have missing : deliverMissing x a = sensingMissing a := by simp only [deliverMissing, g]
    have target : x.target = .sensing := by
      cases e : x.target with
      | sensing => rfl
      | zoom | focus => rw [e] at g; cases g
    obtain ⟨lens, focus, turn, sound, lost, corrected, discarded, missed⟩ := sensingMissing_missing a
    rw [← missing, hv] at lens focus turn sound lost corrected discarded missed
    have lensS : t.lens = s.lens := by rw [over'.lens, lens, ← ha]; rfl
    refine ⟨t, ends, over'.goes.from (by rw [turn, ← ha]; rfl) (goesA.trans goesOn), ?_, ?_, ?_, by rw [lensS], units.1,
      units.2.1, units.2.2, fun _ => ⟨lensS, by rw [over'.focus, focus, ← ha]; rfl, fun sane => ?_, fun mark => ?_⟩, ?_⟩
    · rw [over'.counters, discarded, ← ha, ← hc]; rfl
    · rw [over'.counters, missed, ← ha, ← hc]; rfl
    · rw [over'.counters, corrected, ← ha, ← hc]; rfl
    · have count := over'.fails .sensing
      have told := sound (by rw [← ha]; exact sane)
      rw [over'.steady, over'.mark, over'.latched, show t.link.failSensing = v.link.failSensing from count]
      rw [← ha] at told
      exact told
    · have count := over'.fails .sensing
      have told := lost (by rw [← ha]; exact mark)
      rw [over'.steady, over'.mark, show t.link.failSensing = v.link.failSensing from count]
      rw [← ha] at told
      exact told
    · intro id m u he
      cases he
  | some id =>
    have missing : deliverMissing x a = motorExchangeMissing x.target id x.request a := by simp only [deliverMissing, g]
    obtain ⟨fails, turn, counts, steady, supply, again, third⟩ := motorExchangeMissing_missing x.target id x.request a
    rw [← missing, hv] at fails turn counts steady supply again third
    have motorsA : ∀ j, a.motor j = s.motor j := fun j => by rw [← ha, exchangeOver_motor]
    have motors : ∀ j, t.motor j = v.motor j := fun j => by cases j <;> simp only [State.motor, over'.lens]
    have failsA : ∀ k, a.link.fails k = s.link.fails k := fun k => by rw [← ha]; cases k <;> rfl
    have focusA : a.focus = s.focus := by rw [← ha]; rfl
    refine ⟨t, ends, over'.goes.from (by rw [turn, ← ha]; rfl) (goesA.trans goesOn), ?_, ?_, ?_, ?_, units.1,
      units.2.1, units.2.2, fun e => ?_, fun id' m u he hm hu => ?_⟩
    · rw [over'.counters, counts, ← ha, ← hc]; rfl
    · rw [over'.counters, counts, ← ha, ← hc]; rfl
    · rw [over'.counters, counts, ← ha, ← hc]; rfl
    · rw [over'.lens, supply, ← ha]; rfl
    · rw [e] at g
      cases g
    · cases he
      have record : u = (a.motor id).unanswered x.request := by
        rw [hu, motorsA, ← hm]
        cases x.request <;> rfl
      rw [← record, failsA, focusA] at again third
      rw [motorsA] at third
      simp only [motorsA] at again third
      rw [over'.steady, over'.fails, over'.focus, over'.latched, steady, fails, failsA, ← ha]
      simp only [motors]
      refine ⟨rfl, trivial, again, fun three => ?_⟩
      obtain ⟨motor, bit, alone, search⟩ := third three
      have at' : u.position = m.position := by rw [record, unanswered_position, motorsA, hm]
      refine ⟨motor.trans (by rw [at', ← at']), bit, fun nh => alone (hm ▸ nh), search⟩

/-! ### Unanswered requests -/

/-- Settles O23: the exchange ends missing, and the next round begins. -/
theorem unansweredMoveIsMissing : Obligations.UnansweredMoveIsMissing := by
  intro s x id n rate out running hx hid hmove settled due
  obtain ⟨c, hc⟩ : ∃ c : Counters, { s.status.counters with
      missingReply := min 65535 (s.status.counters.missingReply + 1) } = c := ⟨_, rfl⟩
  obtain ⟨a, ha⟩ : ∃ a, s.exchangeOver c = a := ⟨_, rfl⟩
  obtain ⟨v, hv⟩ : ∃ v, deliverMissing x a = v := ⟨_, rfl⟩
  have missing : deliverMissing x a = motorExchangeMissing x.target id x.request a := by simp only [deliverMissing, hid]
  obtain ⟨fails, turn, counts, steady, supply, again, third⟩ := motorExchangeMissing_missing x.target id x.request a
  have goesOn := (deliverMissing_ends x a).2
  rw [← missing, hv] at fails turn counts steady supply again third
  rw [hv] at goesOn
  have partA : a.partState = .running := by rw [← ha]; exact running
  have part : v.partState = .running := by
    rcases goesOn with e | ⟨e, -⟩
    · rw [e, partA]
    · rw [partA] at e; cases e
  have stays : checkParked v = v := by
    rcases checkParked_or v with e | ⟨e, -⟩
    · exact e
    · rw [part] at e; cases e
  have ended : endMissing x s = v := by rw [endMissing_eq, hc, ha, hv, stays]
  have run : roundExpired s = beginRound v := by
    have active : s.partState ≠ .config := by rw [running]; nofun
    have on : v.partState ≠ .config := by rw [part]; nofun
    have late : s.link.period ≤ elapsed s.partTime s.link.roundStart := due
    rw [roundExpired, if_pos ⟨active, late⟩]
    simp only [hx, ended, if_neg on]
  have ends : exec .roundStart s = .next (finish s (beginRound v)) := by
    show event roundExpired s = _
    rw [event_of_out s out, run]
  have motors : ∀ j, (finish s (beginRound v)).motor j = v.motor j := fun j => by
    cases j <;> simp only [State.motor, finish_lens] <;> rfl
  have motorA : a.motor id = s.motor id := by rw [← ha, exchangeOver_motor]
  have failsA : a.link.fails x.target = s.link.fails x.target := by rw [← ha]; cases x.target <;> rfl
  have failsT : (finish s (beginRound v)).link.fails x.target = v.link.fails x.target := by
    rw [finish_link]
    cases x.target <;> rfl
  have countsT : (finish s (beginRound v)).status.counters = c := by
    rw [finish_status_counters, show (beginRound v).status = v.status from rfl, counts, ← ha]
    rfl
  rw [failsA, motorA, hmove] at again
  rw [failsA, motorA, hmove] at third
  refine ⟨_, ends, ?_⟩
  rw [countsT, failsT, fails, failsA, motors, finish_status_latched, show (beginRound v).status = v.status from rfl, ← hc]
  have both : (s.link.fails x.target = 2 ∨ s.link.fails x.target ≠ 2) := Classical.em _
  have record : (v.motor id).uncertain = true ∧ (v.motor id).position = (s.motor id).position := by
    rcases both with h | h
    · rw [(third h).1]
      exact ⟨rfl, rfl⟩
    · rw [(again h).1]
      exact ⟨rfl, rfl⟩
  refine ⟨rfl, rfl, rfl, rfl, record.1, record.2, fun h => ?_, fun h => ?_⟩
  · rw [(again h).1]
    refine ⟨rfl, fun idle => ?_⟩
    rw [Motor.unanswered, if_pos idle]
  · obtain ⟨motor, bit, -, -⟩ := third h
    rw [motor]
    exact ⟨rfl, rfl, rfl, bit⟩

end Sys2Proof.Machine
end

section
/-! PROOFS. Accepted MOVED replies (O28). -/

namespace Sys2Proof.Machine
set_option Elab.async false

variable {s t u v : State}

/-! ### The zoom's position changes -/

theorem interp_of_table (hk : t.lens.knots = s.lens.knots) (hs : t.lens.settings = s.lens.settings) :
    t.interp = s.interp := by
  funext field z
  unfold State.interp State.zmax State.knot
  rw [hk, hs]

theorem track_of_table (hk : t.lens.knots = s.lens.knots) (hs : t.lens.settings = s.lens.settings) :
    t.track = s.track := by
  funext z d
  unfold State.track
  rw [interp_of_table hk hs, hs]

/-- The focus motor's record after it was given a target depends on its own record, the settings and the time. -/
theorem giveTarget_focus_congr (clears : Bool) (asked : Nat) (hf : t.lens.focus = s.lens.focus)
    (hs : t.lens.settings = s.lens.settings) (ht : t.partTime = s.partTime) :
    (giveTarget .focus clears asked t).lens.focus = (giveTarget .focus clears asked s).lens.focus := by
  have record : t.motor .focus = s.motor .focus := hf
  have top : t.topPosition .focus = s.topPosition .focus := congrArg LensSettings.fmax hs
  have settle : t.settleTime .focus = s.settleTime .focus := congrArg LensSettings.focusSettle hs
  have motor : (giveTarget .focus clears asked t).motor .focus = (giveTarget .focus clears asked s).motor .focus := by
    rw [giveTarget_motor, giveTarget_motor, record, top, settle, hs, ht]
  exact motor

/-- What the Focus unit makes of a changed zoom position, from `s` to `t` (R94, R95). -/
structure ZoomTold (s t : State) : Prop where
  locked : s.focus.state = .locked → t.focus = { s.focus with state := .tracking }
  search : s.focus.state.isSearching = true → t.focus = { s.focus with state := .failed .cancelled } ∧
    t.status.latched.getLsbD LatchedBit.focusFailed.index = true
  others : s.focus.state ≠ .locked → s.focus.state.isSearching = false → t.focus = s.focus

theorem focusOnZoomChange_told (s : State) :
    ZoomTold s (focusOnZoomChange s) ∧ (focusOnZoomChange s).lens = s.lens ∧
      (focusOnZoomChange s).focus.d = s.focus.d ∧ (focusOnZoomChange s).partTime = s.partTime := by
  unfold focusOnZoomChange
  split
  · next p h => exact ⟨⟨by rw [h]; nofun, fun _ => ⟨rfl, latch_bit _ _⟩, by rw [h]; nofun⟩, rfl, rfl, rfl⟩
  · next h => exact ⟨⟨fun _ => rfl, by rw [h]; nofun, fun n => absurd h n⟩, rfl, rfl, rfl⟩
  · next h1 h2 =>
    refine ⟨⟨fun h => absurd h h2, fun h => ?_, fun _ _ => rfl⟩, rfl, rfl, rfl⟩
    cases hs : s.focus.state with
    | searching p => exact absurd hs (h1 p)
    | _ => rw [hs] at h; cases h

/-- The zoom's position has changed: the Focus unit is told, and the focus motor given the track (R94, R111). -/
theorem zoomChanged_spec (s : State) :
    ZoomTold s (zoomChanged s) ∧ (zoomChanged s).lens.zoom = s.lens.zoom ∧
      (zoomChanged s).lens.focus =
        (giveTarget .focus false (s.track s.lens.zoom.position s.focus.d) s).lens.focus := by
  obtain ⟨told, lens, d, time⟩ := focusOnZoomChange_told s
  obtain ⟨w, hw⟩ : ∃ w, focusOnZoomChange s = w := ⟨_, rfl⟩
  rw [hw] at told lens d time
  have run : zoomChanged s = giveTarget .focus false (s.track s.lens.zoom.position s.focus.d) w := by
    rw [zoomChanged_eq, hw, State.trackHere, track_congr lens, lens, d]
  have whole := giveTarget_focus_eq false (s.track s.lens.zoom.position s.focus.d) w
  obtain ⟨locked, search, others⟩ := told
  rw [run]
  refine ⟨?_, ?_, congrArg Lens.focus (giveTarget_lens_congr _ _ lens time)⟩
  · rw [whole]
    exact ⟨locked, search, others⟩
  · rw [whole]
    exact (congrArg Lens.zoom lens :)

/-! ### The comparison of R108 -/

theorem enterSettling_others (id : MotorId) (s : State) :
    (∀ j, j ≠ id → (enterSettling id s).motor j = s.motor j) ∧ (enterSettling id s).focus = s.focus ∧
      (enterSettling id s).partTime = s.partTime := by
  unfold enterSettling becomeIdle latchIf
  dsimp only
  repeat' split
  all_goals
    refine ⟨fun j hj => ?_, ?_, ?_⟩
    · simp [motor_setMotor_of_ne _ hj]
    · simp
    · simp

/-- Step 4 of R108, from `s` to `t`: `m` is the motor's record before. -/
structure Compared (s t : State) (id : MotorId) (m : Motor) : Prop where
  motor  : t.motor id =
    if m.compared.2 then
      (if s.settleTime id = 0 then
        { m.compared.1 with
          state := .idle, settleStart := s.partTime, stillSince := s.partTime, zoomToPending := false }
      else { m.compared.1 with state := .settling, settleStart := s.partTime })
    else m.compared.1
  others : ∀ j, j ≠ id → t.motor j = s.motor j
  zoom   : id = .zoom → t.focus = s.focus
  focus  : id = .focus → SearchArrives s t

theorem compareMotor_compared (id : MotorId) (s : State) : Compared s (compareMotor id s) id (s.motor id) := by
  obtain ⟨⟨m, b⟩, hm⟩ : ∃ x, (s.motor id).compared = x := ⟨_, rfl⟩
  obtain ⟨a, ha⟩ : ∃ a, (if b then enterSettling id (setMotor id m s) else setMotor id m s) = a := ⟨_, rfl⟩
  have run : compareMotor id s = if id = .focus then focusArrived a else a := by
    rw [← ha]
    unfold compareMotor
    rw [hm]
  have lens : (compareMotor id s).lens = a.lens := by
    rw [run]
    split
    · exact focusArrived_lens a
    · rfl
  have motors : ∀ j, (compareMotor id s).motor j = a.motor j := fun j => by cases j <;> simp only [State.motor, lens]
  have unit : a.focus = s.focus ∧ a.partTime = s.partTime := by
    rw [← ha]
    obtain ⟨-, focus, time⟩ := enterSettling_others id (setMotor id m s)
    cases b with
    | true => exact ⟨focus.trans (setMotor_focus _ _ _), time.trans (setMotor_partTime _ _ _)⟩
    | false => exact ⟨setMotor_focus _ _ _, setMotor_partTime _ _ _⟩
  constructor
  · rw [motors, ← ha, hm]
    cases b with
    | true =>
      simp only [if_true]
      rw [enterSettling_motor, motor_setMotor, setMotor_settleTime, setMotor_partTime]
    | false =>
      simp only [Bool.false_eq_true, if_false]
      exact motor_setMotor s id m
  · intro j hj
    rw [motors, ← ha]
    cases b with
    | true =>
      exact ((enterSettling_others id (setMotor id m s)).1 j hj).trans (motor_setMotor_of_ne s hj m)
    | false => exact motor_setMotor_of_ne s hj m
  · rintro rfl
    rw [run, if_neg nofun, unit.1]
  · rintro rfl
    rw [run, if_pos rfl]
    exact (focusArrived_arrives a).congr unit.1.symm unit.2.symm rfl rfl rfl

theorem compared_idle {m : Motor} (h : m.state = .idle ∨ m.state = .settling) :
    m.compared = (if m.position = m.target then m else { m with state := .moving }, false) := by
  unfold Motor.compared
  rcases h with h | h <;> rw [h] <;> by_cases here : m.position = m.target <;> simp [here]

theorem compared_stalled {m : Motor} (h : m.state = .stalled) : m.compared = (m.stoppedHere, false) := by
  rw [Motor.compared, h]

theorem compared_lost {m : Motor} (h : m.state = .unhomed ∨ m.state = .faulted) : m.compared = (m, false) := by
  rcases h with h | h <;> rw [Motor.compared, h]

theorem compared_moving {m : Motor} (h : m.state = .moving) :
    m.compared =
      if m.position = m.aim then
        if m.aim = m.target then (m, true) else ({ m with aim := m.target, overshoot := false }, false)
      else (m, false) := by
  rw [Motor.compared, h]

theorem compared_lastSteps (m : Motor) : m.compared.1.lastSteps = m.lastSteps := by
  unfold Motor.compared
  repeat' split
  all_goals rfl

/-! ### An accepted MOVED reply -/

/-- The zoom's position after a reply, from `s` to `t`, where `z` is the one before (R94, R111). -/
structure ZoomMoved (s t : State) (z : Nat) : Prop where
  zoom : t.lens.zoom = s.lens.zoom
  same : s.lens.zoom.position = z → t = s
  told : s.lens.zoom.position ≠ z → ZoomTold s t ∧
    t.lens.focus = (giveTarget .focus false (s.track s.lens.zoom.position s.focus.d) s).lens.focus

theorem zoomMoved_moved (z : Nat) (s : State) : ZoomMoved s (zoomMoved .zoom z s) z := by
  unfold zoomMoved
  by_cases h : s.lens.zoom.position = z
  · rw [if_neg (by tauto)]
    exact ⟨rfl, fun _ => rfl, fun n => absurd h n⟩
  · rw [if_pos ⟨rfl, h⟩]
    obtain ⟨told, zoom, focus⟩ := zoomChanged_spec s
    exact ⟨zoom, fun e => absurd e h, fun _ => ⟨told, focus⟩⟩

theorem zoomMoved_focus (z : Nat) (s : State) : zoomMoved .focus z s = s := if_neg nofun

theorem zoomMoved_motor (id : MotorId) (z : Nat) (s : State) : (zoomMoved id z s).motor id = s.motor id := by
  cases id with
  | zoom => exact (zoomMoved_moved z s).zoom
  | focus => rw [zoomMoved_focus]

theorem clampInt_stop {top : Nat} {abs : Int} {stop : Nat} (h : abs < 0 ∨ (top : Int) < abs)
    (hs : stop = if abs < 0 then 0 else top) :
    (clampInt 0 top abs).toNat = stop ∧ ((clampInt 0 top abs).toNat : Int) ≠ abs := by
  subst hs
  rw [clampInt_eq (by omega)]
  split <;> omega

/-- With a position in range the motor's record takes it and is compared (R108, steps 2 to 4). -/
theorem movedReply_in {id : MotorId} {abs : Int} {pos : Nat} (steps : Int) (ref : Bool)
    (hm : (s.motor id).state ≠ .homing) (ha : abs = (pos : Int)) (hp : pos ≤ s.topPosition id) :
    movedReply id steps abs ref s =
      compareMotor id (zoomMoved id (s.motor id).position
        (setMotor id { s.motor id with lastSteps := steps, position := pos, uncertain := false } s)) := by
  subst ha
  have clamp : (clampInt 0 (s.topPosition id) (pos : Int)).toNat = pos := by
    rw [clampInt_eq (by omega)]
    omega
  rw [movedReply, if_neg hm, movedAway]
  simp only [clamp, ne_eq, not_true_eq_false, if_false]

/-- With one out of range the motor is stopped at the end of its range (R108, step 2). -/
theorem movedReply_out {id : MotorId} {abs : Int} {stop : Nat} (steps : Int) (ref : Bool)
    (hm : (s.motor id).state ≠ .homing) (ha : abs < 0 ∨ (s.topPosition id : Int) < abs)
    (hs : stop = if abs < 0 then 0 else s.topPosition id) :
    movedReply id steps abs ref s =
      zoomMoved id (s.motor id).position
        (faultMotor id
          { s.motor id with
            lastSteps := steps, position := stop, target := stop, aim := stop, overshoot := false, uncertain := false }
          .range s) := by
  obtain ⟨clamp, off⟩ := clampInt_stop ha hs
  rw [movedReply, if_neg hm, movedAway]
  simp only [if_pos off]
  rw [clamp]
  rfl

/-- A reply in range, from `s` to `t`: the motor's record as compared, and what follows for the focus (R108). -/
structure MovedIn (s t : State) (id : MotorId) (u : Motor) : Prop where
  motor : t.motor id =
    if u.compared.2 then
      (if s.settleTime id = 0 then
        { u.compared.1 with
          state := .idle, settleStart := s.partTime, stillSince := s.partTime, zoomToPending := false }
      else { u.compared.1 with state := .settling, settleStart := s.partTime })
    else u.compared.1
  focus : id = .focus → t.lens.zoom = s.lens.zoom ∧ SearchArrives s t
  same  : id = .zoom → u.position = (s.motor id).position → t.lens.focus = s.lens.focus ∧ t.focus = s.focus
  told  : id = .zoom → u.position ≠ (s.motor id).position → ZoomTold s t ∧
    t.lens.focus = (giveTarget .focus false (s.track u.position s.focus.d) s).lens.focus
  part  : t.partState = s.partState

/-- A MOVING motor goes on, turns at its aim, or settles at its target (R106, R108). -/
theorem MovedIn.moving {id : MotorId} {u : Motor} (h : MovedIn s t id u) (hu : u.state = .moving) :
    (t.motor id).position = u.position ∧ (t.motor id).uncertain = u.uncertain ∧ (t.motor id).target = u.target ∧
      (u.position ≠ u.aim → (t.motor id).state = .moving ∧ (t.motor id).aim = u.aim) ∧
      (u.position = u.aim → u.aim ≠ u.target → (t.motor id).state = .moving ∧ (t.motor id).aim = u.target) ∧
      (u.position = u.aim → u.aim = u.target →
        (t.motor id).state = if s.settleTime id = 0 then .idle else .settling) := by
  have motor := h.motor
  rw [compared_moving hu] at motor
  rw [motor]
  by_cases aimed : u.position = u.aim
  · rw [if_pos aimed]
    by_cases done : u.aim = u.target
    · rw [if_pos done]
      simp only [if_true]
      by_cases now : s.settleTime id = 0
      · rw [if_pos now]
        exact ⟨rfl, rfl, rfl, fun n => absurd aimed n, fun _ n => absurd done n, fun _ _ => (if_pos now).symm⟩
      · rw [if_neg now]
        exact ⟨rfl, rfl, rfl, fun n => absurd aimed n, fun _ n => absurd done n, fun _ _ => (if_neg now).symm⟩
    · rw [if_neg done]
      exact ⟨rfl, rfl, rfl, fun n => absurd aimed n, fun _ _ => ⟨hu, rfl⟩, fun _ e => absurd e done⟩
  · rw [if_neg aimed]
    exact ⟨rfl, rfl, rfl, fun _ => ⟨hu, rfl⟩, fun e => absurd e aimed, fun e => absurd e aimed⟩

theorem movedIn (id : MotorId) (u : Motor) (s : State) :
    MovedIn s (compareMotor id (zoomMoved id (s.motor id).position (setMotor id u s))) id u := by
  obtain ⟨a, ha⟩ : ∃ a, setMotor id u s = a := ⟨_, rfl⟩
  obtain ⟨b, hb⟩ : ∃ b, zoomMoved id (s.motor id).position a = b := ⟨_, rfl⟩
  have only : LensOnly s b := by
    rw [← hb, ← ha]
    exact (setMotor_only s id u).trans (zoomMoved_only _ _ _)
  have whole := only.trans (compareMotor_only b id)
  have mineA : a.motor id = u := by rw [← ha, motor_setMotor]
  have mineB : b.motor id = u := by rw [← hb, zoomMoved_motor, mineA]
  have time : b.partTime = s.partTime := only.changes.partTime_eq
  have settings : b.lens.settings = s.lens.settings := by
    rw [← hb, ← ha]
    exact ((Steers.setMotor id u s).trans (Steers.zoomMoved _ _ _)).settings
  have settle : b.settleTime id = s.settleTime id := by cases id <;> simp only [State.settleTime, settings]
  obtain ⟨motor, others, zoom, focus⟩ := compareMotor_compared id b
  have steers := Steers.compareMotor id b
  obtain ⟨t, ht⟩ : ∃ t, compareMotor id b = t := ⟨_, rfl⟩
  rw [ha, hb, ht]
  rw [ht] at motor others zoom focus whole steers
  rw [mineB, settle, time] at motor
  refine ⟨motor, ?_, ?_, ?_, whole.changes.partState_eq⟩
  · rintro rfl
    have e : b = a := by rw [← hb, zoomMoved_focus]
    refine ⟨?_, (focus rfl).congr ?_ time.symm rfl rfl rfl⟩
    · have kept := others .zoom nofun
      rw [e, ← ha] at kept
      exact kept
    · rw [e, ← ha]
      rfl
  · rintro rfl stays
    have moved := zoomMoved_moved (s.motor .zoom).position a
    rw [hb] at moved
    have e : b = a := moved.same (by rw [show a.lens.zoom = u from mineA]; exact stays)
    have motorF := others .focus nofun
    rw [e, ← ha] at motorF
    rw [zoom rfl, e, ← ha]
    exact ⟨motorF, rfl⟩
  · rintro rfl goes
    have moved := zoomMoved_moved (s.motor .zoom).position a
    rw [hb] at moved
    obtain ⟨⟨locked, search, still⟩, given⟩ := moved.told (by rw [show a.lens.zoom = u from mineA]; exact goes)
    have unit : a.focus = s.focus := by rw [← ha]; rfl
    rw [unit] at locked search still given
    have knots : a.track = s.track := by rw [← ha]; exact track_of_table rfl rfl
    rw [show a.lens.zoom = u from mineA, knots, giveTarget_focus_congr (s := s) false _ (by rw [← ha]; rfl)
      (by rw [← ha]; rfl) (by rw [← ha]; rfl)] at given
    refine ⟨⟨fun h => (zoom rfl).trans (locked h), fun h => ?_, fun h1 h2 => (zoom rfl).trans (still h1 h2)⟩,
      (others .focus nofun).trans given⟩
    obtain ⟨failed, told⟩ := search h
    exact ⟨(zoom rfl).trans failed, steers.latched _ told⟩

/-- A reply out of range, from `s` to `t` (R108, step 2; notes/assumptions/43.md). -/
structure MovedOut (s t : State) (id : MotorId) (u : Motor) : Prop where
  motor : t.motor id = { u with state := .faulted, fault := .range, zoomToPending := false }
  bit   : t.status.latched.getLsbD LatchedBit.lensFault.index = true
  focus : id = .focus → t.lens.zoom = s.lens.zoom ∧ (s.focus.state.isSearching = false → t.focus = s.focus) ∧
    (s.focus.state.isSearching = true → t.focus = { s.focus with state := .failed .lens } ∧
      t.status.latched.getLsbD LatchedBit.focusFailed.index = true)
  same  : id = .zoom → u.position = (s.motor id).position → t.lens.focus = s.lens.focus ∧ t.focus = s.focus
  told  : id = .zoom → u.position ≠ (s.motor id).position → ZoomTold s t ∧
    t.lens.focus = (giveTarget .focus false (s.track u.position s.focus.d) s).lens.focus
  part  : t.partState = s.partState

theorem movedOut (id : MotorId) (u : Motor) (s : State) (hm : (s.motor id).state ≠ .homing) :
    MovedOut s (zoomMoved id (s.motor id).position (faultMotor id u .range s)) id u := by
  obtain ⟨motor, bit, others, part, zoom, still, search, -⟩ := faultMotor_lost id u .range s
  have settings := (Steers.faultMotor id u .range s).settings
  have knots := (Steers.faultMotor id u .range s).knots
  have time := (faultMotor_only s id u .range).changes.partTime_eq
  obtain ⟨a, ha⟩ : ∃ a, faultMotor id u .range s = a := ⟨_, rfl⟩
  rw [ha] at motor bit others part zoom still search settings knots time ⊢
  have steers := Steers.zoomMoved id (s.motor id).position a
  refine ⟨by rw [zoomMoved_motor, motor], steers.latched _ bit, ?_, ?_, ?_,
    (zoomMoved_only a id _).changes.partState_eq.trans (part hm)⟩
  · rintro rfl
    rw [zoomMoved_focus]
    exact ⟨others hm .zoom nofun, still rfl, search rfl⟩
  · rintro rfl stays
    have moved := zoomMoved_moved (s.motor .zoom).position a
    rw [moved.same (by rw [show a.lens.zoom = _ from motor]; exact stays)]
    exact ⟨others hm .focus nofun, zoom rfl hm⟩
  · rintro rfl goes
    have moved := zoomMoved_moved (s.motor .zoom).position a
    obtain ⟨⟨locked, failed, kept⟩, given⟩ := moved.told (by rw [show a.lens.zoom = _ from motor]; exact goes)
    rw [zoom rfl hm] at locked failed kept given
    rw [show a.lens.zoom = _ from motor, track_of_table knots settings,
      giveTarget_focus_congr (s := s) false _ (others hm .focus nofun) settings time] at given
    exact ⟨⟨locked, failed, kept⟩, given⟩

/-- An accepted MOVED reply of a HOMING motor (R115). -/
theorem movedReply_homing (id : MotorId) (steps abs : Int) (ref : Bool) {s v : State} {m : Motor}
    (hm : m = s.motor id) (hh : m.state = .homing) {travel : Nat}
    (ht : travel = min (2 ^ 32 - 1) (m.travel + steps.natAbs)) (hv : movedReply id steps abs ref s = v) :
    (ref = true → v.motor id = { m with travel := travel, lastSteps := steps, refSeen := true }) ∧
      (ref = false → travel < s.topPosition id + 64 → v.motor id = { m with travel := travel, lastSteps := steps }) ∧
      (ref = false → s.topPosition id + 64 ≤ travel →
        v.motor id =
          { m with travel := travel, lastSteps := steps, state := .faulted, fault := .noHome, zoomToPending := false } ∧
        v.status.latched.getLsbD LatchedBit.lensFault.index = true) := by
  have grown : satAdd max32 m.travel steps.natAbs = travel := ht.symm
  rw [movedReply, if_pos (hm ▸ hh)] at hv
  simp only [movedHoming, ← hm, grown, State.homingLimit] at hv
  refine ⟨fun h => ?_, fun h far => ?_, fun h far => ?_⟩
  · rw [← hv, if_pos h, motor_setMotor]
  · rw [← hv, if_neg (by rw [h]; nofun), if_neg (by omega), motor_setMotor]
  · rw [← hv, if_neg (by rw [h]; nofun), if_pos far]
    have lost := faultMotor_lost id { m with travel := travel, lastSteps := steps } .noHome s
    exact ⟨lost.motor, lost.bit⟩

/-- An accepted reply ends its exchange: the correction counted, then what it delivers (R130, R133). -/
theorem replyAccepted_eq {sort : Request → Bool} {x : Exchange} {h : ReplyHeader} {line pl : List Byte}
    (hx : s.link.exchange = some x) (hr : sort x.request = true) (hs : x.state = .reading h)
    (hp : judgeReply x h line = some pl) :
    replyAccepted sort line s =
      nextTurn
        (checkParked
          (deliverAccepted x pl
            (s.exchangeOver
              { s.status.counters with
                correctedHeader :=
                  if x.headerIn = false ∧ headerCorrected h = true then min 65535 (s.status.counters.correctedHeader + 1)
                  else s.status.counters.correctedHeader }))) := by
  rw [replyAccepted_of_reading s hx hr hs hp, countHeader_eq]
  rfl

/-- Settles O28: by the state of the motor and where the reply puts it. -/
theorem movedUpdatesTheMotor : Obligations.MovedUpdatesTheMotor := by
  intro s x id n rate h line pl m steps abs out hx hid hmove hs hj hm hsteps habs
  have run := replyAccepted_eq (sort := Request.isMove) hx (by rw [hmove]; rfl) hs hj
  generalize hc : ({ s.status.counters with
    correctedHeader :=
      if x.headerIn = false ∧ headerCorrected h = true then min 65535 (s.status.counters.correctedHeader + 1)
      else s.status.counters.correctedHeader } : Counters) = c at run
  obtain ⟨a, ha⟩ : ∃ a, setFails x.target 0 (s.exchangeOver c) = a := ⟨_, rfl⟩
  obtain ⟨v, hv⟩ : ∃ v, movedReply id steps abs (byteAt pl 4 != 0) a = v := ⟨_, rfl⟩
  have delivered : deliverAccepted x pl (s.exchangeOver c) = v := by
    rw [← hv, ← ha, hsteps, habs]
    simp only [deliverAccepted, hid, hmove]
  have ends : exec (.moved line) s = .next (finish s (nextTurn (checkParked v))) := by
    show event (replyAccepted Request.isMove line) s = _
    rw [event_of_out s out, run, delivered]
  obtain ⟨t, ht⟩ : ∃ t, finish s (nextTurn (checkParked v)) = t := ⟨_, rfl⟩
  have over' := closes s v
  rw [ht] at ends over'
  obtain ⟨wholeA, count, turnA, -⟩ := setFails_whole x.target 0 (s.exchangeOver c)
  rw [ha] at wholeA count turnA
  have motorA : a.motor id = m := by rw [wholeA, hm]; cases id <;> rfl
  have lensA : a.lens = s.lens := by rw [wholeA]; rfl
  have focusA : a.focus = s.focus := by rw [wholeA]; rfl
  have timeA : a.partTime = s.partTime := by rw [wholeA]; rfl
  have partA : a.partState = s.partState := by rw [wholeA]; rfl
  have framesA : a.frames = s.frames := by rw [wholeA]; rfl
  have unitsA : a.exposure = s.exposure ∧ a.stats = s.stats ∧ a.steady = s.steady ∧ a.hostOut = s.hostOut := by
    rw [wholeA]
    exact ⟨rfl, rfl, rfl, rfl⟩
  have only := movedReply_only a id steps abs (byteAt pl 4 != 0)
  have goesOn := movedReply_goesOn id steps abs (byteAt pl 4 != 0) a
  rw [hv] at only goesOn
  have changed := only.changes
  have motors : ∀ j, t.motor j = v.motor j := fun j => by cases j <;> simp only [State.motor, over'.lens]
  have topA : a.topPosition id = s.topPosition id := by cases id <;> simp only [State.topPosition, State.zmax, lensA]
  have settleA : a.settleTime id = s.settleTime id := by cases id <;> simp only [State.settleTime, lensA]
  -- a reply in range, and one out of range, of a motor that is not HOMING
  have inside : ∀ pos : Nat, m.state ≠ .homing → abs = (pos : Int) → pos ≤ s.topPosition id →
      MovedIn a v id { m with lastSteps := steps, position := pos, uncertain := false } := by
    intro pos away at' top
    have e := movedReply_in steps (byteAt pl 4 != 0) (s := a) (by rw [motorA]; exact away) at' (by rw [topA]; exact top)
    rw [hv, motorA] at e
    rw [e, ← motorA]
    exact movedIn id _ a
  have outside : ∀ stop : Nat, m.state ≠ .homing → abs < 0 ∨ (s.topPosition id : Int) < abs →
      stop = (if abs < 0 then 0 else s.topPosition id) →
      MovedOut a v id { m with
        lastSteps := steps, position := stop, target := stop, aim := stop, overshoot := false, uncertain := false } := by
    intro stop away off hstop
    have e := movedReply_out (stop := stop) steps (byteAt pl 4 != 0) (s := a) (by rw [motorA]; exact away) (by rw [topA]; exact off)
      (by rw [topA]; exact hstop)
    rw [hv, motorA] at e
    rw [e, ← motorA]
    exact movedOut id _ a (by rw [motorA]; exact away)
  have where' : (∃ pos : Nat, abs = (pos : Int) ∧ pos ≤ s.topPosition id) ∨
      (abs < 0 ∨ (s.topPosition id : Int) < abs) := by
    by_cases h0 : abs < 0
    · exact .inr (.inl h0)
    · by_cases h1 : (s.topPosition id : Int) < abs
      · exact .inr (.inr h1)
      · exact .inl ⟨abs.toNat, by omega, by omega⟩
  have last : (v.motor id).lastSteps = steps := by
    by_cases away : m.state = .homing
    · obtain ⟨seen, near, far⟩ := movedReply_homing id steps abs (byteAt pl 4 != 0) motorA.symm away rfl hv
      cases ref : (byteAt pl 4 != 0) with
      | true => rw [seen ref]
      | false =>
        by_cases limit : a.topPosition id + 64 ≤ min (2 ^ 32 - 1) (m.travel + steps.natAbs)
        · rw [(far ref limit).1]
        · rw [near ref (by omega)]
    · rcases where' with ⟨pos, at', top⟩ | off
      · rw [(inside pos away at' top).motor]
        repeat' split
        all_goals exact compared_lastSteps _
      · rw [(outside _ away off rfl).motor]
  have part : m.state ≠ .homing → v.partState = s.partState := fun away => by
    rcases where' with ⟨pos, at', top⟩ | off
    · exact (inside pos away at' top).part.trans partA
    · exact (outside _ away off rfl).part.trans partA
  have framesV : v.frames = s.frames := changed.frames_eq.trans framesA
  have turnV : v.link.turn = s.link.turn := by rw [changed.link_eq, turnA]; rfl
  refine ⟨t, ends, over'.goes.from turnV ((PartGoesOn.of_eq partA).trans goesOn), ?_, by rw [motors, last], ?_, ?_, ?_, ?_, ?_,
    fun away => over'.parks.from (part away) framesV, fun pos u away at' top hu => ?_, fun pos away hz hpos => ?_,
    fun pos moving at' top => ?_, fun travel homing ht => ?_, fun stop away off hstop => ?_⟩
  · rw [over'.fails, changed.link_eq, count]
  · rw [over'.exposure, changed.exposure_eq, unitsA.1]
  · rw [over'.stats, changed.stats_eq, unitsA.2.1]
  · rw [over'.steady, changed.steady_eq, unitsA.2.2.1]
  · rw [over'.hostOut, changed.hostOut_eq, unitsA.2.2.2]
  · rw [over'.table, framesV]
  · obtain ⟨motor, focus, -, -, -⟩ := inside pos away at' top
    rw [← hu, settleA, timeA] at motor
    rw [motors, motor]
    have state : u.state = m.state := by rw [hu]
    have target : u.target = m.target ∧ u.position = pos := by rw [hu]; exact ⟨rfl, rfl⟩
    refine ⟨fun h => ?_, fun h => ?_, fun h => ?_, fun hf => ?_⟩
    · rw [compared_idle (state ▸ h), target.1, target.2]
      exact if_neg nofun
    · rw [compared_stalled (state.trans h), ← target.2]
      exact if_neg nofun
    · rw [compared_lost (state ▸ h)]
      exact if_neg nofun
    · obtain ⟨zoom, arrives⟩ := focus hf
      exact ⟨by rw [over'.lens, zoom, lensA], arrives.congr focusA.symm timeA.symm over'.focus over'.lens over'.latched⟩
  · have facts : (pos = m.position → v.lens.focus = a.lens.focus ∧ v.focus = a.focus) ∧
        (pos ≠ m.position → ZoomTold a v ∧
          v.lens.focus = (giveTarget .focus false (a.track pos a.focus.d) a).lens.focus) := by
      rcases where' with ⟨at', e, top⟩ | off
      · have same : at' = pos := by omega
        obtain ⟨-, -, stays, told, -⟩ := inside at' away e top
        rw [motorA] at stays told
        rw [← same]
        exact ⟨stays hz, told hz⟩
      · have same : (if abs < 0 then 0 else s.topPosition id) = pos := by split <;> omega
        obtain ⟨-, -, -, stays, told, -⟩ := outside _ away off rfl
        rw [motorA] at stays told
        simp only [same] at stays told
        exact ⟨stays hz, told hz⟩
    rw [lensA, focusA] at facts
    rw [over'.lens, over'.focus, over'.latched]
    refine ⟨facts.1, fun n => ?_⟩
    obtain ⟨⟨locked, search, others⟩, given⟩ := facts.2 n
    rw [focusA] at locked search others
    refine ⟨given.trans ?_, locked, search, others⟩
    rw [track_congr lensA, giveTarget_lens_congr _ _ lensA timeA]
  · have arrived := (inside pos (by rw [moving]; nofun) at' top).moving moving
    rw [settleA] at arrived
    rw [motors]
    exact arrived
  · obtain ⟨seen, near, far⟩ := movedReply_homing id steps abs (byteAt pl 4 != 0) motorA.symm homing ht hv
    have mark : (byteAt pl 4 != 0) = true ↔ pl.getD 4 0 ≠ 0#8 := by
      rw [bne_iff_ne]
      rfl
    have unmarked : (byteAt pl 4 != 0) = false ↔ pl.getD 4 0 = 0#8 := by
      rw [← Bool.not_eq_true, mark, not_not]
    rw [topA] at near far
    rw [motors, over'.latched]
    exact ⟨fun n => seen (mark.mpr n), fun e => near (unmarked.mpr e), fun e => far (unmarked.mpr e)⟩
  · obtain ⟨motor, bit, focus, -, -, -⟩ := outside stop away off hstop
    rw [lensA, focusA] at focus
    rw [motors, over'.latched, over'.lens, over'.focus]
    exact ⟨motor, bit, focus⟩

end Sys2Proof.Machine
end

section
/-! PROOFS. Accepted HOMED replies (O29). -/

namespace Sys2Proof.Machine
set_option Elab.async false

variable {s t u v : State}

/-! ### A target for an IDLE motor -/

theorem aimed_direct {m : Motor} {id : MotorId} (backlash : Nat) {goal : Nat} (h : id = .zoom ∨ m.position ≤ goal) :
    m.aimed id backlash goal = { m with target := goal, aim := goal, overshoot := false } := by
  unfold Motor.aimed
  refine if_neg ?_
  rintro ⟨focus, -, below, -⟩
  rcases h with h | h
  · rw [h] at focus
    cases focus
  · omega

/-- An IDLE motor given a target it reaches without backlash (R105, R106). -/
theorem giveTarget_idle {id : MotorId} {clears : Bool} {asked goal : Nat} {m : Motor} (hm : s.motor id = m)
    (hi : m.state = .idle) (hg : goal = min (s.topPosition id) asked) (up : id = .zoom ∨ m.position ≤ goal) :
    (giveTarget id clears asked s).motor id =
      { m with
        target := goal, aim := goal, overshoot := false
        state := if goal = m.position then .idle else .moving } := by
  rw [giveTarget_motor]
  simp only [hm, ← hg, hi, aimed_direct s.lens.settings.backlash up]
  split
  · rw [← hi]
  · rfl

theorem track_le (s : State) (z d : Nat) : s.track z d ≤ s.lens.settings.fmax := by
  unfold State.track
  dsimp only
  rw [clampInt_eq (by omega)]
  omega

theorem giveFocus_lens (clears : Bool) (asked : Nat) (s : State) :
    (giveFocus clears asked s).lens = (giveTarget .focus clears asked s).lens := focusArrived_lens _

/-! ### The end of homing -/

/-- Homing ends, from `s` to `t` (R116, R191). -/
structure HomingEnds (s t : State) : Prop where
  part   : s.partState = .homing ∨ s.partState = .running → t.partState = .running
  homed  : t.lens.zoomHomed = false
  zoom   : ∀ park, park = min s.zmax s.lens.settings.park → s.lens.zoomHomed = true → s.lens.zoom.state = .idle →
    t.lens.zoom =
      { s.lens.zoom with
        target := park, aim := park, overshoot := false, speed := 8
        state := if park = s.lens.zoom.position then .idle else .moving }
  waits  : s.lens.zoomHomed = false ∨ s.lens.zoom.state ≠ .idle → t.lens.zoom = s.lens.zoom
  focus  : ∀ goal, goal = s.track s.lens.zoom.position s.focus.d → s.lens.focus.state = .idle →
    s.lens.focus.position = 0 →
    t.lens.focus =
      { s.lens.focus with
        target := goal, aim := goal, overshoot := false, state := if goal = 0 then .idle else .moving }
  still  : s.lens.focus.state ≠ .idle → t.lens.focus = s.lens.focus
  unit   : s.focus.state.isSearching = false → t.focus = s.focus

/-- Parking the zoom at the end of homing (R116). -/
theorem parkZoom_spec {park : Nat} (hp : park = min s.zmax s.lens.settings.park) (hh : s.lens.zoomHomed = true)
    (hi : s.lens.zoom.state = .idle) :
    (parkZoom s).lens.zoom =
      { s.lens.zoom with
        target := park, aim := park, overshoot := false, speed := 8
        state := if park = s.lens.zoom.position then .idle else .moving } := by
  have given := giveTarget_idle (s := setMotor .zoom { s.lens.zoom with speed := 8 } s) (clears := false) (id := .zoom)
    (asked := s.lens.settings.park) (goal := park) rfl hi hp (.inl rfl)
  unfold parkZoom
  rw [if_pos ⟨hh, hi⟩]
  exact given

theorem parkZoom_position (s : State) : (parkZoom s).lens.zoom.position = s.lens.zoom.position := by
  unfold parkZoom
  split
  · exact (giveTarget_keeps .zoom false s.lens.settings.park (setMotor .zoom { s.lens.zoom with speed := 8 } s)).1
  · rfl

theorem endOfHoming_ends (s : State) : HomingEnds s (endOfHoming s) := by
  obtain ⟨focusA, unitA⟩ := parkZoom_others s.homed
  have onlyA := MotorsOnly.parkZoom s.homed
  obtain ⟨a, ha⟩ : ∃ a, parkZoom s.homed = a := ⟨_, rfl⟩
  have position := parkZoom_position s.homed
  rw [ha] at focusA unitA onlyA position
  have whole := endOfHoming_whole s
  have run : endOfHoming s = setZoomHomed false (parkFocus a) := by rw [endOfHoming_eq, ha]
  have zoom : (endOfHoming s).lens.zoom = a.lens.zoom := by
    rw [run]
    exact parkFocus_zoom a
  have track : a.track = s.track := by rw [show a = _ from onlyA]; exact track_of_table rfl rfl
  constructor
  · intro h
    rw [whole]
    rcases h with h | h <;> simp [State.homed, h]
  · rw [whole]
  · intro park hp hh hi
    rw [zoom, ← ha]
    exact parkZoom_spec (s := s.homed) hp hh hi
  · intro h
    rw [zoom, ← ha, parkZoom_of_not (s := s.homed) h]
    rfl
  · intro goal hg hi h0
    have idle : a.lens.focus.state = .idle := by rw [focusA]; exact hi
    have here : a.trackHere = goal := by rw [State.trackHere, track, position, unitA, hg]; rfl
    have settings : a.lens.settings = s.lens.settings := by rw [show a = _ from onlyA]; rfl
    have motor : a.motor .focus = s.lens.focus := focusA
    have parked : parkFocus a = giveFocus false goal a := by rw [parkFocus, if_pos idle, here]
    have given := giveTarget_idle (clears := false) (asked := goal) (goal := goal) motor hi
      (by rw [State.topPosition, settings]; exact (Nat.min_eq_right (hg ▸ track_le s _ _)).symm) (.inr (by omega))
    rw [run]
    show (parkFocus a).lens.focus = _
    rw [parked, giveFocus_lens]
    exact given.trans (congrArg (fun at' => { s.lens.focus with
      target := goal, aim := goal, overshoot := false, state := if goal = at' then .idle else .moving }) h0)
  · intro h
    rw [run]
    show (parkFocus a).lens.focus = _
    rw [parkFocus_of_not (by rw [focusA]; exact h), focusA]
    rfl
  · intro h
    have idle : a.focus.state.isSearching = false := by rw [unitA]; exact h
    have parked : (parkFocus a).focus = a.focus := by
      unfold parkFocus
      split
      · rw [giveFocus_of_not _ _ idle]
        exact (giveTarget_others _ _ _ _).2
      · rfl
    rw [run]
    show (parkFocus a).focus = _
    rw [parked, unitA]
    rfl

/-! ### The zoom leaves HOMING -/

/-- A zoom that is IDLE leaves HOMING, from `s` to `t` (R114, R116). -/
theorem zoomLeftHoming_unhomed (h : s.lens.focus.state = .unhomed) :
    zoomLeftHoming s = setMotor .focus (s.lens.focus.prepared .homing) s := by rw [zoomLeftHoming, h]

theorem zoomLeftHoming_homing (h : s.lens.focus.state = .homing) : zoomLeftHoming s = s := by rw [zoomLeftHoming, h]

theorem zoomLeftHoming_ends (h1 : s.lens.focus.state ≠ .unhomed) (h2 : s.lens.focus.state ≠ .homing) :
    zoomLeftHoming s = endOfHoming s := by
  unfold zoomLeftHoming
  split
  · next h => exact absurd h h1
  · next h => exact absurd h h2
  · rfl

/-- What every way out of HOMING keeps of an IDLE zoom and of a Focus unit that does not search. -/
theorem zoomLeftHoming_keeps (hi : s.lens.zoom.state = .idle) (hs : s.focus.state.isSearching = false) :
    (zoomLeftHoming s).lens.zoom.position = s.lens.zoom.position ∧
      (zoomLeftHoming s).lens.zoom.stillSince = s.lens.zoom.stillSince ∧ (zoomLeftHoming s).focus = s.focus := by
  unfold zoomLeftHoming
  split
  · exact ⟨rfl, rfl, rfl⟩
  · exact ⟨rfl, rfl, rfl⟩
  · obtain ⟨-, -, zoom, waits, -, -, unit⟩ := endOfHoming_ends s
    cases hh : s.lens.zoomHomed with
    | true =>
      rw [zoom _ rfl hh hi, unit hs]
      exact ⟨rfl, rfl, rfl⟩
    | false =>
      rw [waits (.inl hh), unit hs]
      exact ⟨rfl, rfl, rfl⟩

/-- The zoom's position becoming known ends a search and leaves a lost focus motor (R94). -/
theorem zoomChanged_lost (h : s.lens.focus.state = .unhomed ∨ s.lens.focus.state = .faulted) :
    zoomChanged s = focusOnZoomChange s := by
  obtain ⟨-, lens, -, -⟩ := focusOnZoomChange_told s
  rw [zoomChanged_eq]
  refine giveTarget_refused rfl ?_ _
  rw [show (focusOnZoomChange s).motor .focus = s.lens.focus by rw [State.motor, lens]]
  tauto

theorem zoomChanged_state (s : State) :
    (zoomChanged s).focus.state =
        (if s.focus.state = .locked then .tracking
          else if s.focus.state.isSearching = true then .failed .cancelled else s.focus.state) ∧
      (zoomChanged s).focus.state.isSearching = false := by
  have state := focusOnZoomChange_state s
  have same : (zoomChanged s).focus = (focusOnZoomChange s).focus := by
    rw [zoomChanged_eq]
    exact (giveTarget_others _ _ _ _).2
  rw [same, state]
  refine ⟨rfl, ?_⟩
  cases s.focus.state <;> simp [FocusState.isSearching]

/-- The record of a motor that is homed now (R115). -/
def Motor.homedAt (m : Motor) (now : Time) : Motor :=
  { m with position := 0, target := 0, aim := 0, overshoot := false, state := .idle, stillSince := now }

theorem homedReply_focus (h : s.lens.focus.state = .homing) :
    homedReply .focus s = endOfHoming (setMotor .focus (s.lens.focus.homedAt s.partTime) s) := if_pos h

theorem homedReply_zoom (h : s.lens.zoom.state = .homing) :
    homedReply .zoom s =
      zoomLeftHoming (zoomChanged (setZoomHomed true (setMotor .zoom (s.lens.zoom.homedAt s.partTime) s))) := if_pos h

/-- Settles O29: the motor stands at 0, and the homing goes on with the focus or ends. -/
theorem homedEndsTheHoming : Obligations.HomedEndsTheHoming := by
  intro s x h line pl park goal out hpart hx hhome hs hj hpark
  have run := replyAccepted_eq (sort := Request.isHome) hx (by rw [hhome]; rfl) hs hj
  generalize ({ s.status.counters with
    correctedHeader :=
      if x.headerIn = false ∧ headerCorrected h = true then min 65535 (s.status.counters.correctedHeader + 1)
      else s.status.counters.correctedHeader } : Counters) = c at run
  obtain ⟨a, ha⟩ : ∃ a, setFails x.target 0 (s.exchangeOver c) = a := ⟨_, rfl⟩
  obtain ⟨wholeA, count, turnA, -⟩ := setFails_whole x.target 0 (s.exchangeOver c)
  rw [ha] at wholeA count turnA
  -- what every HOMED reply of a motor ends in
  have closed : ∀ id v, x.target.motor = some id → homedReply id a = v →
      ∃ t, exec (.homed line) s = .next t ∧ RoundGoesOn s t ∧ Closes v t ∧ t.partState = v.partState ∧
        t.link.fails x.target = 0 ∧ t.exposure = s.exposure ∧ t.stats = s.stats ∧ t.steady = s.steady ∧
        t.frames = s.frames := by
    intro id v hid hv
    have delivered : deliverAccepted x pl (s.exchangeOver c) = v := by
      rw [← hv, ← ha]
      simp only [deliverAccepted, hid, hhome]
    have changed := (homedReply_only a id).changes
    have goesOn := homedReply_goesOn id a
    rw [hv] at changed goesOn
    have over' := closes s v
    have goesA : PartGoesOn s a := by rw [wholeA]; exact .of_eq rfl
    have parking : v.partState ≠ .parking := by
      rw [ne_eq, (goesA.trans goesOn).parking_iff]
      rcases hpart with h | h <;> rw [h] <;> nofun
    obtain ⟨part, frames⟩ := over'.parks.waits (.inl parking)
    refine ⟨_, ?_, over'.goes.from ?_ (goesA.trans goesOn), over', part, ?_, ?_, ?_, ?_, ?_⟩
    · show event (replyAccepted Request.isHome line) s = _
      rw [event_of_out s out, run, delivered]
    · rw [changed.link_eq, turnA]
      rfl
    · rw [over'.fails, changed.link_eq, count]
    · rw [over'.exposure, changed.exposure_eq, wholeA]; rfl
    · rw [over'.stats, changed.stats_eq, wholeA]; rfl
    · rw [over'.steady, changed.steady_eq, wholeA]; rfl
    · rw [frames, changed.frames_eq, wholeA]; rfl
  have lensA : a.lens = s.lens := by rw [wholeA]; rfl
  have focusA : a.focus = s.focus := by rw [wholeA]; rfl
  have timeA : a.partTime = s.partTime := by rw [wholeA]; rfl
  have partA : a.partState = s.partState := by rw [wholeA]; rfl
  refine ⟨fun target homing hg => ?_, fun target homing => ?_⟩
  · have homingA : a.lens.focus.state = .homing := by rw [lensA]; exact homing
    obtain ⟨b, hb⟩ : ∃ b, setMotor .focus (a.lens.focus.homedAt a.partTime) a = b := ⟨_, rfl⟩
    obtain ⟨t, ends, goes, over', part, fails, exposure, stats, steady, frames⟩ :=
      closed .focus (endOfHoming b) (by rw [target]; rfl) (by rw [homedReply_focus homingA, hb])
    obtain ⟨running, noted, zoom, waits, focus, -, unit⟩ := endOfHoming_ends b
    have lensB : b.lens = { s.lens with focus := s.lens.focus.homedAt s.partTime } := by
      rw [← hb, lensA, timeA]
      exact congrArg (fun l => { l with focus := s.lens.focus.homedAt s.partTime }) lensA
    have focusB : b.focus = s.focus := by rw [← hb, setMotor_focus, focusA]
    have partB : b.partState = s.partState := by rw [← hb, setMotor_partState, partA]
    have zmaxB : b.zmax = s.zmax := by rw [State.zmax, State.zmax, lensB]
    have trackB : b.track = s.track := track_of_table (by rw [lensB]) (by rw [lensB])
    rw [lensB] at zoom waits focus
    rw [zmaxB] at zoom
    rw [trackB, focusB] at focus
    rw [focusB] at unit
    rw [target] at fails
    refine ⟨t, ends, goes, part.trans (running (by rw [partB]; exact hpart)), by rw [over'.lens, noted], ?_, ?_, ?_, ?_,
      fails, exposure, stats, steady, frames⟩
    · rw [over'.lens]
      exact focus goal hg rfl rfl
    · rw [over'.lens]
      exact zoom park hpark
    · rw [over'.lens]
      exact waits
    · rw [over'.focus]
      exact unit
  · have homingA : a.lens.zoom.state = .homing := by rw [lensA]; exact homing
    obtain ⟨b, hb⟩ : ∃ b, setZoomHomed true (setMotor .zoom (a.lens.zoom.homedAt a.partTime) a) = b := ⟨_, rfl⟩
    obtain ⟨w, hw⟩ : ∃ w, zoomChanged b = w := ⟨_, rfl⟩
    obtain ⟨t, ends, goes, over', part, fails, exposure, stats, steady, frames⟩ :=
      closed .zoom (zoomLeftHoming w) (by rw [target]; rfl) (by rw [homedReply_zoom homingA, hb, hw])
    have lensB : b.lens = { s.lens with zoom := s.lens.zoom.homedAt s.partTime, zoomHomed := true } := by
      rw [← hb, lensA, timeA]
      exact congrArg (fun l => { l with zoom := s.lens.zoom.homedAt s.partTime, zoomHomed := true }) lensA
    have focusB : b.focus = s.focus := by rw [← hb]; exact focusA
    have partB : b.partState = s.partState := by rw [← hb]; exact partA
    have zoomW : w.lens.zoom = s.lens.zoom.homedAt s.partTime := by
      rw [← hw, (zoomChanged_spec b).2.1, lensB]
    obtain ⟨state, quiet⟩ := zoomChanged_state b
    rw [hw, focusB] at state
    rw [hw] at quiet
    obtain ⟨position, still, unit⟩ := zoomLeftHoming_keeps (s := w) (by rw [zoomW]; rfl) quiet
    have lost : s.lens.focus.state = .unhomed ∨ s.lens.focus.state = .faulted →
        w.lens = b.lens ∧ w.partState = s.partState := fun hl => by
      have e := zoomChanged_lost (s := b) (by rw [lensB]; exact hl)
      rw [hw] at e
      rw [← partB, e]
      exact ⟨(focusOnZoomChange_told b).2.1, (focusOnZoomChange_only b).changes.partState_eq⟩
    rw [target] at fails
    refine ⟨t, ends, goes, by rw [over'.lens, position, zoomW]; rfl, by rw [over'.lens, still, zoomW]; rfl,
      fun unhomed => ?_, fun faulted => ?_, by rw [over'.focus, unit, state], fails, exposure, stats, steady, frames⟩
    · obtain ⟨lensW, partW⟩ := lost (.inl unhomed)
      have waiting : w.lens.focus.state = .unhomed := by rw [lensW, lensB]; exact unhomed
      rw [zoomLeftHoming_unhomed waiting] at part over'
      rw [part, over'.lens, setMotor_partState, partW]
      refine ⟨rfl, ?_, ?_, ?_⟩
      · exact (congrArg Lens.zoomHomed (lensW.trans lensB) :)
      · exact (congrArg Lens.zoom (lensW.trans lensB) :)
      · rw [lensW, lensB]
        rfl
    · obtain ⟨lensW, partW⟩ := lost (.inr faulted)
      have gone : w.lens.focus.state = .faulted := by rw [lensW, lensB]; exact faulted
      rw [zoomLeftHoming_ends (by rw [gone]; nofun) (by rw [gone]; nofun)] at part over'
      obtain ⟨running, noted, zoom, -, -, stays, -⟩ := endOfHoming_ends w
      have zmaxW : w.zmax = s.zmax := by rw [State.zmax, State.zmax, lensW, lensB]
      rw [zmaxW, lensW, lensB] at zoom
      rw [part, over'.lens, noted, stays (by rw [gone]; nofun), lensW, lensB]
      exact ⟨running (by rw [partW]; exact hpart), rfl, rfl, zoom park hpark rfl rfl⟩

end Sys2Proof.Machine
end

section
/-! PROOFS. Accepted SENSED replies: the supply monitor and the stall rule (O26). -/

namespace Sys2Proof.Machine
set_option Elab.async false

variable {s t u v : State}

/-! ### The rules of the supply monitor -/

/-- The over-current rule: the condition, and its bit where it begins (R119). -/
theorem overCurrentRule_spec (i : Nat) (s : State) :
    (overCurrentRule i s).lens =
        { s.lens with
          supply :=
            { s.lens.supply with
              overCurrent :=
                if s.lens.supply.overCurrent then !decide (i < s.lens.supply.iWarn - s.lens.supply.iHyst)
                else decide (s.lens.supply.iWarn < i) } } ∧
      (overCurrentRule i s).focus = s.focus ∧
      (s.lens.supply.overCurrent = false → s.lens.supply.iWarn < i →
        (overCurrentRule i s).status.latched.getLsbD LatchedBit.overCurrent.index = true) := by
  have same : ∀ b, s.lens.supply.overCurrent = b →
      s.lens = { s.lens with supply := { s.lens.supply with overCurrent := b } } := by
    rintro b rfl
    rfl
  unfold overCurrentRule
  dsimp only
  cases hc : s.lens.supply.overCurrent with
  | true =>
    simp only [if_true]
    by_cases below : i < s.lens.supply.iWarn - s.lens.supply.iHyst
    · rw [if_pos below, decide_eq_true below]
      exact ⟨rfl, rfl, nofun⟩
    · rw [if_neg below, decide_eq_false below]
      exact ⟨same true hc, rfl, nofun⟩
  | false =>
    simp only [Bool.false_eq_true, if_false]
    by_cases above : s.lens.supply.iWarn < i
    · rw [if_pos above, decide_eq_true above]
      exact ⟨rfl, rfl, fun _ _ => latch_bit _ _⟩
    · rw [if_neg above, decide_eq_false above]
      exact ⟨same false hc, rfl, fun _ h => absurd h above⟩

/-- The low-supply rule: the condition, and its bit where it begins (R121). -/
theorem lensLowRule_spec (v : Nat) (s : State) :
    (lensLowRule v s).lens =
        { s.lens with
          supply :=
            { s.lens.supply with
              lensLow :=
                if s.lens.supply.lensLow then !decide (s.lens.supply.vLow + s.lens.supply.vHyst < v)
                else decide (v < s.lens.supply.vLow) } } ∧
      (lensLowRule v s).focus = s.focus ∧
      (s.lens.supply.lensLow = false → v < s.lens.supply.vLow →
        (lensLowRule v s).status.latched.getLsbD LatchedBit.lensLow.index = true) := by
  have same : ∀ b, s.lens.supply.lensLow = b →
      s.lens = { s.lens with supply := { s.lens.supply with lensLow := b } } := by
    rintro b rfl
    rfl
  unfold lensLowRule
  dsimp only
  cases hc : s.lens.supply.lensLow with
  | true =>
    simp only [if_true]
    by_cases above : s.lens.supply.vLow + s.lens.supply.vHyst < v
    · rw [if_pos above, decide_eq_true above]
      exact ⟨rfl, rfl, nofun⟩
    · rw [if_neg above, decide_eq_false above]
      exact ⟨same true hc, rfl, nofun⟩
  | false =>
    simp only [Bool.false_eq_true, if_false]
    by_cases below : v < s.lens.supply.vLow
    · rw [if_pos below, decide_eq_true below]
      exact ⟨rfl, rfl, fun _ _ => latch_bit _ _⟩
    · rw [if_neg below, decide_eq_false below]
      exact ⟨same false hc, rfl, fun _ h => absurd h below⟩

/-! ### The third high reading -/

theorem stalledBy_ne_idle {m : Motor} (h : m.state = .moving ∨ m.state = .homing) : m.stalledBy.state ≠ .idle := by
  unfold Motor.stalledBy
  rcases h with h | h <;> rw [h] <;> nofun

theorem zoomLeftHoming_motor {id : MotorId} (h : (s.motor id).state ≠ .idle) (hu : id = .focus → s.lens.focus.state ≠ .unhomed) :
    (zoomLeftHoming s).motor id = s.motor id := by
  unfold zoomLeftHoming
  split
  · next hf =>
    cases id with
    | zoom => rfl
    | focus => exact absurd hf (hu rfl)
  · rfl
  · exact endOfHoming_motor id h

/-- The motors are stopped, from `s` to `t` (R120). -/
structure Stalls (s t : State) : Prop where
  supply : t.lens.supply = s.lens.supply
  bit    : t.status.latched.getLsbD LatchedBit.stall.index = true
  driven : ∀ id, (s.motor id).state = .moving ∨ (s.motor id).state = .homing → t.motor id = (s.motor id).stalledBy
  fault  : ∀ id, (s.motor id).state = .homing → t.status.latched.getLsbD LatchedBit.lensFault.index = true
  alone  : (∀ j, (s.motor j).state ≠ .homing) → ∀ id, t.motor id = (s.motor id).stalledBy
  search : s.lens.focus.state = .moving ∨ s.lens.focus.state = .homing → s.focus.state.isSearching = true →
    t.focus.state = .failed .lens

theorem stallMotors_stalls (s : State) : Stalls s (stallMotors s) := by
  obtain ⟨a, ha⟩ : ∃ a, a = latch .stall (latchIf (s.lens.zoom.state = .homing ∨ s.lens.focus.state = .homing) .lensFault
      (setLens { s.lens with zoom := s.lens.zoom.stalledBy, focus := s.lens.focus.stalledBy } s)) := ⟨_, rfl⟩
  obtain ⟨b, hb⟩ : ∃ b, b = stalledFocus s.lens.focus.state a := ⟨_, rfl⟩
  have run : stallMotors s = stalledHoming s.lens.zoom.state s.lens.focus.state b := by rw [hb, ha]; rfl
  have motorsA : ∀ id, a.motor id = (s.motor id).stalledBy := fun id => by
    rw [ha, latch_motor, latchIf_motor]
    cases id <;> rfl
  have focusA : a.focus = s.focus := by rw [ha]; unfold latchIf; split <;> rfl
  have supplyA : a.lens.supply = s.lens.supply := by rw [ha]; unfold latchIf; split <;> rfl
  obtain ⟨lens, -, lost⟩ := focusMotorLost_spec a
  have lensB : b.lens = a.lens := by
    rw [hb, stalledFocus]
    split
    · exact lens
    · rfl
  have motorsB : ∀ id, b.motor id = (s.motor id).stalledBy := fun id => by
    rw [← motorsA]
    cases id <;> simp only [State.motor, lensB]
  have steersB : Steers a b := by
    rw [hb, stalledFocus]
    exact .ite (Steers.focusMotorLost a) (.refl a)
  have steers : Steers b (stallMotors s) := by
    rw [run, stalledHoming]
    exact .ite (Steers.endOfHoming b) (.ite (Steers.leftHoming .zoom b) (.refl b))
  constructor
  · rw [run, stalledHoming, ← supplyA, ← lensB]
    split
    · exact endOfHoming_supply b
    · split
      · exact leftHoming_supply .zoom b
      · rfl
  · refine steers.latched _ (steersB.latched _ ?_)
    rw [ha]
    exact latch_bit _ _
  · intro id h
    have notIdle : (b.motor id).state ≠ .idle := by rw [motorsB]; exact stalledBy_ne_idle h
    rw [run, stalledHoming, ← motorsB]
    split
    · exact endOfHoming_motor id notIdle
    · split
      · refine zoomLeftHoming_motor notIdle ?_
        rintro rfl
        rw [show b.lens.focus = s.lens.focus.stalledBy from motorsB .focus, Motor.stalledBy]
        rcases h with h | h <;> rw [show s.lens.focus.state = _ from h] <;> nofun
      · rfl
  · intro id h
    refine steers.latched _ (steersB.latched _ ?_)
    have either : s.lens.zoom.state = .homing ∨ s.lens.focus.state = .homing := by
      cases id with
      | zoom => exact .inl h
      | focus => exact .inr h
    rw [ha]
    refine (Steers.latch .stall _).latched _ ?_
    rw [latchIf, if_pos (decide_eq_true either)]
    exact latch_bit _ _
  · intro none id
    have still : s.lens.zoom.state ≠ .homing ∧ s.lens.focus.state ≠ .homing := ⟨none .zoom, none .focus⟩
    rw [run, stalledHoming, if_neg still.2, if_neg still.1, motorsB]
  · intro h hs
    have unit : (stallMotors s).focus = b.focus := by
      have notIdle : b.lens.focus.state ≠ .idle := by
        rw [show b.lens.focus = s.lens.focus.stalledBy from motorsB .focus]
        exact stalledBy_ne_idle h
      rw [run, stalledHoming]
      split
      · exact endOfHoming_focus notIdle
      · split
        · unfold zoomLeftHoming
          split
          · rfl
          · rfl
          · exact endOfHoming_focus notIdle
        · rfl
    rw [unit, hb, stalledFocus, if_pos h]
    exact congrArg Focus.state (lost (by rw [focusA]; exact hs)).1

/-! ### The stall rule -/

/-- Whether a reading counts for the stall rule (R120). -/
def State.highReading (s : State) (i : Nat) : Prop :=
  s.lens.supply.iStall < i ∧ ∃ id, (s.motor id).state = .moving ∨ (s.motor id).state = .homing

theorem highReading_iff (i : Nat) :
    s.highReading i ↔ s.lens.supply.iStall < i ∧ (s.lens.zoom.driven = true ∨ s.lens.focus.driven = true) := by
  have driven : ∀ m : Motor, m.driven = true ↔ m.state = .moving ∨ m.state = .homing := fun m => by
    simp [Motor.driven]
  rw [State.highReading, driven, driven]
  refine and_congr Iff.rfl ⟨?_, ?_⟩
  · rintro ⟨id, h⟩
    cases id with
    | zoom => exact .inl h
    | focus => exact .inr h
  · rintro (h | h)
    · exact ⟨.zoom, h⟩
    · exact ⟨.focus, h⟩

/-- The stall rule, from `s` to `t` (R120). -/
structure StallRuled (s t : State) (i : Nat) : Prop where
  supply : t.lens.supply = { s.lens.supply with stallCount := t.lens.supply.stallCount }
  quiet  : ¬s.highReading i → t.lens.supply.stallCount = 0
  counts : s.highReading i → s.lens.supply.stallCount ≠ 2 →
    t.lens.supply.stallCount = s.lens.supply.stallCount + 1
  alone  : ¬s.highReading i ∨ s.lens.supply.stallCount ≠ 2 →
    t.lens.zoom = s.lens.zoom ∧ t.lens.focus = s.lens.focus ∧ t.focus = s.focus
  third  : s.highReading i → s.lens.supply.stallCount = 2 →
    t.lens.supply.stallCount = 0 ∧
      ∃ w, w.lens.zoom = s.lens.zoom ∧ w.lens.focus = s.lens.focus ∧ w.focus = s.focus ∧ Stalls w t

theorem stallRule_ruled (i : Nat) (s : State) : StallRuled s (stallRule i s) i := by
  have high := highReading_iff (s := s) i
  unfold stallRule
  dsimp only
  by_cases h : s.highReading i
  · rw [if_pos (high.mp h)]
    by_cases two : s.lens.supply.stallCount = 2
    · rw [if_pos (by omega)]
      have stalls := stallMotors_stalls (setSupply { s.lens.supply with stallCount := 0 } s)
      have zero : (stallMotors (setSupply { s.lens.supply with stallCount := 0 } s)).lens.supply =
          { s.lens.supply with stallCount := 0 } := stalls.supply
      exact ⟨by rw [zero], fun n => absurd h n, fun _ n => absurd two n, fun n => by tauto,
        fun _ _ => ⟨by rw [zero], setSupply { s.lens.supply with stallCount := 0 } s, rfl, rfl, rfl, stalls⟩⟩
    · rw [if_neg (by omega)]
      exact ⟨rfl, fun n => absurd h n, fun _ _ => rfl, fun _ => ⟨rfl, rfl, rfl⟩, fun _ e => absurd e two⟩
  · rw [if_neg (mt high.mpr h)]
    exact ⟨rfl, fun _ => rfl, fun e => absurd e h, fun _ => ⟨rfl, rfl, rfl⟩, fun e => absurd e h⟩

/-! ### A reading -/

/-- A reading reaches the supply monitor, from `s` to `t`, by its four rules (R118 to R121). -/
theorem supplyReading_chain (v i period : Nat) (s : State) :
    ∃ b c, StallRuled b c i ∧
      b.lens =
        { s.lens with
          supply :=
            { s.lens.supply.sampled v i period with
              overCurrent :=
                if s.lens.supply.overCurrent then !decide (i < s.lens.supply.iWarn - s.lens.supply.iHyst)
                else decide (s.lens.supply.iWarn < i) } } ∧
      b.focus = s.focus ∧
      (s.lens.supply.overCurrent = false → s.lens.supply.iWarn < i →
        (supplyReading v i period s).status.latched.getLsbD LatchedBit.overCurrent.index = true) ∧
      (supplyReading v i period s).lens =
        { c.lens with
          supply :=
            { c.lens.supply with
              lensLow :=
                if c.lens.supply.lensLow then !decide (c.lens.supply.vLow + c.lens.supply.vHyst < v)
                else decide (v < c.lens.supply.vLow) } } ∧
      (supplyReading v i period s).focus = c.focus ∧
      (c.lens.supply.lensLow = false → v < c.lens.supply.vLow →
        (supplyReading v i period s).status.latched.getLsbD LatchedBit.lensLow.index = true) ∧
      ∀ k, c.status.latched.getLsbD k = true → (supplyReading v i period s).status.latched.getLsbD k = true := by
  obtain ⟨lensB, focusB, bitB⟩ := overCurrentRule_spec i (setSupply (s.lens.supply.sampled v i period) s)
  obtain ⟨b, hb⟩ : ∃ b, overCurrentRule i (setSupply (s.lens.supply.sampled v i period) s) = b := ⟨_, rfl⟩
  have ruled := stallRule_ruled i b
  obtain ⟨c, hc⟩ : ∃ c, stallRule i b = c := ⟨_, rfl⟩
  obtain ⟨lensC, focusC, bitC⟩ := lensLowRule_spec v c
  have run : supplyReading v i period s = lensLowRule v c := by rw [← hc, ← hb]; rfl
  have stall : Steers b c := by
    rw [← hc]
    unfold stallRule
    exact .ite (.ite ((Steers.setSupply _ b).trans (Steers.stallMotors _)) (.setSupply _ b)) (.setSupply _ b)
  have low : Steers c (lensLowRule v c) :=
    .ite (.ite (.setSupply _ c) (.refl c)) (.ite ((Steers.setSupply _ c).trans (.latch _ _)) (.refl c))
  rw [hb] at lensB focusB bitB
  rw [hc] at ruled
  rw [run]
  exact ⟨b, c, ruled, lensB, focusB, fun h1 h2 => low.latched _ (stall.latched _ (bitB h1 h2)), lensC, focusC, bitC, low.latched⟩

/-- What a SENSED reply delivers with target 0 sound (R118, R133, R142). -/
theorem deliverSensed_sound {pl : List Byte} (h : s.link.sensingFaulted = false) :
    deliverSensed pl s =
      acceptedSample s.link.roundStart (signedOf 16 (readBe16 pl 0)) (signedOf 16 (readBe16 pl 2))
        (supplyReading (readBe16 pl 4) (readBe16 pl 6) s.link.period (setFails .sensing 0 s)) := by
  rw [deliverSensed]
  simp only [h, Bool.false_eq_true, if_false]

theorem deliverSensed_faulted {pl : List Byte} (h : s.link.sensingFaulted = true) :
    deliverSensed pl s = faultedSample s.link.roundStart s := by
  rw [deliverSensed]
  simp only [h, if_true]

/-- A SENSED reply leaves the turn, and of the status the counters. -/
theorem deliverSensed_keeps (pl : List Byte) (s : State) :
    (deliverSensed pl s).link.turn = s.link.turn ∧ (deliverSensed pl s).status.counters = s.status.counters ∧
      (deliverSensed pl s).link.sensingFaulted = s.link.sensingFaulted := by
  cases h : s.link.sensingFaulted with
  | true =>
    rw [deliverSensed_faulted h]
    exact ⟨rfl, rfl, h⟩
  | false =>
    rw [deliverSensed_sound h]
    obtain ⟨w, hw⟩ : ∃ w, supplyReading (readBe16 pl 4) (readBe16 pl 6) s.link.period (setFails .sensing 0 s) = w := ⟨_, rfl⟩
    have only := supplyReading_only (setFails .sensing 0 s) (readBe16 pl 4) (readBe16 pl 6) s.link.period
    rw [hw] at only ⊢
    rw [show w = _ from only]
    exact ⟨rfl, rfl, h⟩

end Sys2Proof.Machine
end

section
/-! PROOFS. SENSED updates the supply and the rates (O26). -/

namespace Sys2Proof.Machine
set_option Elab.async false

variable {s t u v : State}

/-- An accepted SENSED reply ends its exchange: `a` is the state with the correction counted. -/
theorem sensed_ends {x : Exchange} {h : ReplyHeader} {line pl : List Byte} (out : s.resetN = true)
    (hx : s.link.exchange = some x) (ht : x.target = .sensing) (hr : x.request = .sense) (hs : x.state = .reading h)
    (hj : judgeReply x h line = some pl) :
    ∃ c t, exec (.sensed line) s = .next t ∧ RoundGoesOn s t ∧ Closes (deliverSensed pl (s.exchangeOver c)) t ∧
      c.missingReply = s.status.counters.missingReply ∧
      c.correctedHeader =
        if x.headerIn = false ∧ headerCorrected h = true then min 65535 (s.status.counters.correctedHeader + 1)
        else s.status.counters.correctedHeader := by
  have run := replyAccepted_eq (sort := Request.isSense) hx (by rw [hr]; rfl) hs hj
  generalize hc : ({ s.status.counters with
    correctedHeader :=
      if x.headerIn = false ∧ headerCorrected h = true then min 65535 (s.status.counters.correctedHeader + 1)
      else s.status.counters.correctedHeader } : Counters) = c at run
  have delivered : deliverAccepted x pl (s.exchangeOver c) = deliverSensed pl (s.exchangeOver c) := by
    rw [deliverAccepted, ht]
    rfl
  have goesOn := (deliverAccepted_ends x pl (s.exchangeOver c)).2
  rw [delivered] at goesOn run
  have over' := closes s (deliverSensed pl (s.exchangeOver c))
  have goesA : PartGoesOn s (s.exchangeOver c) := .of_eq rfl
  refine ⟨c, _, ?_, over'.goes.from (deliverSensed_keeps pl _).1 (goesA.trans goesOn), over', by rw [← hc], by rw [← hc]⟩
  show event (replyAccepted Request.isSense line) s = _
  rw [event_of_out s out, run]

/-- What the supply monitor makes of a reading, from `s` to `t` (R118, R119, R121). -/
structure SupplyRead (s t : State) (v i p period : Nat) : Prop where
  last : t.lens.supply.lastV = v ∧ t.lens.supply.lastI = i ∧ t.lens.supply.lastP = p
  energy : t.lens.supply.energy =
    if 2 ^ 32 ≤ s.lens.supply.energy + p * period / 1000 then s.lens.supply.energy + p * period / 1000 - 2 ^ 32
    else s.lens.supply.energy + p * period / 1000
  rollover : t.lens.supply.rollover =
    if 2 ^ 32 ≤ s.lens.supply.energy + p * period / 1000 then (s.lens.supply.rollover + 1) % 65536
    else s.lens.supply.rollover
  samples : t.lens.supply.samples = (s.lens.supply.samples + 1) % 2 ^ 32
  peaks : t.lens.supply.peakI = max s.lens.supply.peakI i ∧ t.lens.supply.peakP = max s.lens.supply.peakP p
  over' : t.lens.supply.overCurrent = true ↔
    (s.lens.supply.overCurrent = false ∧ s.lens.supply.iWarn < i) ∨
      (s.lens.supply.overCurrent = true ∧ ¬i + s.lens.supply.iHyst < s.lens.supply.iWarn)
  low : t.lens.supply.lensLow = true ↔
    (s.lens.supply.lensLow = false ∧ v < s.lens.supply.vLow) ∨
      (s.lens.supply.lensLow = true ∧ ¬s.lens.supply.vLow + s.lens.supply.vHyst < v)

theorem sampled_energy (p : Supply) (v i period : Nat) :
    (p.sampled v i period).energy =
        (if 2 ^ 32 ≤ p.energy + v * i / 1000 * period / 1000 then p.energy + v * i / 1000 * period / 1000 - 2 ^ 32
          else p.energy + v * i / 1000 * period / 1000) ∧
      (p.sampled v i period).rollover =
        if 2 ^ 32 ≤ p.energy + v * i / 1000 * period / 1000 then (p.rollover + 1) % 65536 else p.rollover := by
  have past : max32 < p.energy + v * i / 1000 * period / 1000 ↔
      2 ^ 32 ≤ p.energy + v * i / 1000 * period / 1000 := by
    unfold max32
    omega
  simp only [Supply.sampled, past]
  exact ⟨rfl, rfl⟩

/-- The supply after its rules: sampled, then the conditions as they begin and end (R118 to R121). -/
theorem supplyRead_of {p v i period n : Nat} (hp : p = v * i / 1000)
    (ht : t.lens.supply =
      { s.lens.supply.sampled v i period with
        overCurrent :=
          if s.lens.supply.overCurrent then !decide (i < s.lens.supply.iWarn - s.lens.supply.iHyst)
          else decide (s.lens.supply.iWarn < i)
        stallCount := n
        lensLow :=
          if s.lens.supply.lensLow then !decide (s.lens.supply.vLow + s.lens.supply.vHyst < v)
          else decide (v < s.lens.supply.vLow) }) :
    SupplyRead s t v i p period := by
  obtain ⟨energy, rollover⟩ := sampled_energy s.lens.supply v i period
  subst hp
  constructor
  · rw [ht]
    exact ⟨rfl, rfl, rfl⟩
  · rw [ht]
    exact energy
  · rw [ht]
    exact rollover
  · rw [ht]
    rfl
  · rw [ht]
    exact ⟨rfl, rfl⟩
  · rw [ht]
    cases s.lens.supply.overCurrent <;> simp
  · rw [ht]
    cases s.lens.supply.lensLow <;> simp

/-- Settles O26: the supply by its rules, the motors by the stall rule, and the sample. -/
theorem sensedUpdatesSupplyAndRates : Obligations.SensedUpdatesSupplyAndRates := by
  refine ⟨fun s x h line pl out hx ht hr hs hj => ?_, fun s x h line pl v i p out hx ht hr hs sound hj hv hi hp => ?_⟩
  · obtain ⟨c, t, ends, goes, over', missing, corrected⟩ := sensed_ends out hx ht hr hs hj
    obtain ⟨-, counters, mark⟩ := deliverSensed_keeps pl (s.exchangeOver c)
    refine ⟨t, ends, goes, ?_, ?_, fun faulted => ?_⟩
    · rw [over'.counters, counters, ← corrected]
      rfl
    · rw [over'.counters, counters, ← missing]
      rfl
    · have gone : deliverSensed pl (s.exchangeOver c) = faultedSample s.link.roundStart (s.exchangeOver c) :=
        deliverSensed_faulted (s := s.exchangeOver c) faulted
      rw [over'.lens, over'.focus, show t.link.failSensing = _ from over'.fails .sensing, over'.mark, over'.steady, mark, gone]
      exact ⟨rfl, rfl, rfl, faulted, rfl⟩
  · obtain ⟨c, t, ends, -, over', -, -⟩ := sensed_ends out hx ht hr hs hj
    obtain ⟨a, ha⟩ : ∃ a, setFails .sensing 0 (s.exchangeOver c) = a := ⟨_, rfl⟩
    obtain ⟨r, hr⟩ : ∃ r, supplyReading v i s.link.period a = r := ⟨_, rfl⟩
    have delivered : deliverSensed pl (s.exchangeOver c) =
        acceptedSample s.link.roundStart (signedOf 16 (readBe16 pl 0)) (signedOf 16 (readBe16 pl 2)) r := by
      rw [deliverSensed_sound (s := s.exchangeOver c) sound, ← hr, ← ha, hv, hi]
      rfl
    have lensA : a.lens = s.lens := by rw [← ha]; rfl
    have focusA : a.focus = s.focus := by rw [← ha]; rfl
    obtain ⟨b, d, ruled, lensB, focusB, current, lensR, focusR, low, latched⟩ := supplyReading_chain v i s.link.period a
    rw [hr] at current lensR focusR low latched
    rw [lensA] at lensB current
    rw [focusA] at focusB
    have only := supplyReading_only a v i s.link.period
    rw [hr] at only
    rw [delivered] at over'
    have lensT : t.lens = r.lens := over'.lens
    have focusT : t.focus = r.focus := over'.focus
    have latchedT : t.status.latched = r.status.latched := over'.latched
    have supplyD := ruled.supply
    rw [lensB] at supplyD
    have read : SupplyRead s t v i p s.link.period := by
      refine supplyRead_of (n := d.lens.supply.stallCount) hp ?_
      rw [lensT, lensR, supplyD]
      rfl
    obtain ⟨⟨lastV, lastI, lastP⟩, energy, rollover, samples, ⟨peakI, peakP⟩, high, lensLow⟩ := read
    have motorsB : ∀ id, b.motor id = s.motor id := fun id => by cases id <;> simp only [State.motor, lensB]
    have motorsT : ∀ id, t.motor id = d.motor id := fun id => by
      cases id <;> simp only [State.motor, lensT, lensR]
    have countT : t.lens.supply.stallCount = d.lens.supply.stallCount := by rw [lensT, lensR]
    have countB : b.lens.supply.stallCount = s.lens.supply.stallCount := by rw [lensB]; rfl
    have readB : b.highReading i ↔ s.lens.supply.iStall < i ∧
        ∃ id, (s.motor id).state = .moving ∨ (s.motor id).state = .homing := by
      simp only [State.highReading, motorsB, lensB]
      rfl
    have units : r.steady = s.steady ∧ r.exposure = s.exposure ∧ r.stats = s.stats ∧ r.orders = s.orders ∧
        r.hostOut = s.hostOut ∧ r.link.failSensing = 0 := by
      rw [show r = _ from only, ← ha]
      exact ⟨rfl, rfl, rfl, rfl, rfl, rfl⟩
    obtain ⟨steady, exposure, stats, orders, hostOut, fails⟩ := units
    refine ⟨t, ends, lastV, lastI, lastP, energy, rollover, samples, peakI, peakP, high, fun h1 h2 => ?_, lensLow,
      fun h1 h2 => ?_, fun hi' hhi => ?_, ?_, ?_, ?_, ?_, ?_, ?_, ?_⟩
    · rw [latchedT]
      exact current h1 h2
    · have lowD : d.lens.supply.lensLow = s.lens.supply.lensLow ∧ d.lens.supply.vLow = s.lens.supply.vLow := by
        rw [supplyD]
        exact ⟨rfl, rfl⟩
      rw [latchedT]
      exact low (lowD.1.trans h1) (by rw [lowD.2]; exact h2)
    · rw [← readB] at hhi
      rw [countT, hhi, ← countB, latchedT]
      refine ⟨ruled.quiet, ruled.counts, fun h => ?_, fun h1 h2 => ?_⟩
      · obtain ⟨zoom, focus, unit⟩ := ruled.alone h
        rw [lensT, lensR, focusT, focusR]
        exact ⟨by rw [zoom, lensB], by rw [focus, lensB], unit.trans focusB⟩
      · obtain ⟨zero, w, zoomW, focusW, unitW, -, bit, driven, fault, alone, search⟩ := ruled.third h1 h2
        have motorsW : ∀ id, w.motor id = s.motor id := fun id => by
          rw [← motorsB]
          cases id
          · exact zoomW
          · exact focusW
        simp only [motorsW] at driven fault alone
        rw [focusW, unitW, lensB, focusB] at search
        refine ⟨zero, latched _ bit, fun id m hm => ⟨fun moving => ?_, fun homing => ?_, fun still none => ?_⟩, fun h3 h4 => ?_⟩
        · rw [motorsT, driven id (.inl (hm ▸ moving)), ← hm, Motor.stalledBy, moving]
          rfl
        · rw [motorsT, driven id (.inr (hm ▸ homing)), ← hm, Motor.stalledBy, homing]
          exact ⟨rfl, latched _ (fault id (hm ▸ homing))⟩
        · rw [motorsT, alone none id, ← hm, Motor.stalledBy]
          have home : m.state ≠ .homing := hm ▸ none id
          split
          · next e => exact absurd e still
          · next e => exact absurd e home
          · rfl
        · rw [focusT, focusR]
          exact search h3 h4
    · rw [show t.link.failSensing = _ from over'.fails .sensing]
      exact fails
    · rw [over'.steady, ← steady]
      rfl
    · rw [over'.steady, ← steady]
      rfl
    · rw [over'.exposure, ← exposure]
      rfl
    · rw [over'.stats, ← stats]
      rfl
    · rw [over'.queue, ← orders]
      rfl
    · rw [over'.hostOut, ← hostOut]
      rfl

end Sys2Proof.Machine
end

section
/-! PROOFS. The queues and tables of the Order unit and the Store keep their sizes (the first part of O57). -/

namespace Sys2Proof.Machine
set_option Elab.async false

/-- The sizes of the lists of the Order unit and the Store (R155, R156, R178, R180, R184, R186). -/
structure ListsHold (s : State) : Prop where
  queue   : s.orders.queue.length ≤ 16
  hold    : s.orders.hold.length ≤ 8
  shadow  : s.orders.shadow.length = 1024
  image   : s.orders.image.length = 16
  dirty   : s.orders.dirty.length = 16
  carried : ∀ marks, s.orders.carried = some marks → marks.length = 16
  recent  : s.store.recent.length ≤ 7
  shots   : s.store.shots.length = 4
  shotDirty : s.store.shotDirty.length = 4
  slotDirty : s.store.slotDirty.length = 64

variable {s t : State}

theorem lists_depends : Depends [.orders, .store] ListsHold := by
  intro s t same h
  have ho : t.orders = s.orders := same .orders (by decide)
  have hs : t.store = s.store := same .store (by decide)
  constructor <;> simp only [ho, hs]
  exacts [h.queue, h.hold, h.shadow, h.image, h.dirty, h.carried, h.recent, h.shots, h.shotDirty, h.slotDirty]

namespace ListsHold

/-- What changes other parts alone. -/
theorem off {qs : List Part} (h : ListsHold s) (k : Changes qs s t) (hq : apart [.orders, .store] qs = true := by rfl) :
    ListsHold t := lists_depends.of_changes k hq h

theorem foldl {α : Type} {f : State → α → State} (step : ∀ s a, ListsHold s → ListsHold (f s a)) (l : List α) (s : State)
    (h : ListsHold s) : ListsHold (l.foldl f s) := by
  induction l generalizing s with
  | nil => exact h
  | cons a l ih => exact ih _ (step s a h)

/-! ### The Order unit -/

theorem makeReply (h : ListsHold s) (p : Posted) (a : Answer) (i d : Bool) : ListsHold (makeReply p a i d s) :=
  { h with
    image := List.length_set.trans h.image
    dirty := List.length_set.trans h.dirty }

/-- A hold list no longer than the one before. -/
theorem shorter (h : ListsHold s) (l : List Held) (hl : l.length ≤ s.orders.hold.length) :
    ListsHold (setOrders { s.orders with hold := l } s) := { h with hold := hl.trans h.hold }

/-- A list with fewer than 8 entries takes one more. -/
theorem held (h : ListsHold s) (x : Held) (hl : s.orders.hold.length < 8) :
    ListsHold (setOrders { s.orders with hold := s.orders.hold ++ [x] } s) :=
  { h with hold := by rw [setOrders_orders, List.length_append]; exact hl }

theorem endShoot (h : ListsHold s) (a : Answer) : ListsHold (endShoot a s) := by
  have ended : ListsHold { s with store := { s.store with inflight := none } } := { h with }
  unfold Machine.endShoot
  dsimp only
  split
  · exact ended
  · exact (ended.shorter _ (List.length_filter_le _ _)).makeReply _ _ _ _

theorem holdOr {apply : Posted → State → State × Answer} {p : Posted} (h : ListsHold s)
    (applied : ListsHold (apply p s).1) : ListsHold (holdOr apply p s) := by
  unfold Machine.holdOr
  split
  · split
    · next room => exact h.held _ room
    · exact h.makeReply _ _ _ _
  · exact applied.makeReply _ _ _ _

theorem postSlot (h : ListsHold s) (i : Nat) : ListsHold (postSlot s i) := by
  unfold Machine.postSlot
  dsimp only
  split
  · next room => exact { h with queue := by rw [setOrders_orders, List.length_append]; exact room }
  · exact (h.makeReply _ _ _ _).off ((latch_changes _ _).trans (setCounters_changes _ _))

theorem showOrderWrite (h : ListsHold s) (off : Nat) (t : HostTransaction) : ListsHold (showOrderWrite off t s) :=
  foldl (fun _ i k => k.postSlot i) _ _ { h with shadow := (writeBytes_length _ _ _ _).trans h.shadow }

theorem applyHoldable (h : ListsHold s) (o : Order) (p : Posted) : ListsHold (applyHoldable o p s).1 := by
  have changed := applyHoldable_changes s o p
  cases o
  case focusSet => exact h.off (applyFocusSet_changes s p)
  case zoomTo => exact h.off (applyZoomTo_changes s p)
  all_goals exact { h with }

theorem applyHeld (h : ListsHold s) (number : Nat) : ListsHold (applyHeld number s) := by
  refine foldl (fun u x k => ?_) _ _ (h.shorter _ (List.length_filter_le _ _))
  unfold applyEntry
  split
  · exact (k.applyHoldable _ _).makeReply _ _ _ _
  · exact k

theorem cancelHeld (h : ListsHold s) : ListsHold (cancelHeld s) :=
  foldl (fun _ _ k => k.makeReply _ _ _ _) _ _ (h.shorter _ (List.length_filter_le _ _))

/-! ### The Store -/

theorem setSlot (h : ListsHold s) (j : Nat) (x : Slot) : ListsHold (setSlot j x s) :=
  { h with slotDirty := List.length_set.trans h.slotDirty }

theorem setShot (h : ListsHold s) (e : Nat) (x : Option Shot) : ListsHold (setShot e x s) :=
  { h with
    shots := List.length_set.trans h.shots
    shotDirty := List.length_set.trans h.shotDirty }

theorem pinned (h : ListsHold s) {b n : Nat} (hp : pin b n s = some t) : ListsHold t := by
  obtain ⟨-, -, -, -, rfl⟩ := pin_some _ hp
  exact h.off (changes_frames s _)

/-- What the SHOOT in flight knows has no size. -/
theorem inflight (h : ListsHold s) (x : Option Inflight) : ListsHold (setStore { s.store with inflight := x } s) :=
  { h with }

theorem choose (h : ListsHold s) (x : Inflight) (n b : Nat) : ListsHold (choose x n b s) := by
  unfold Machine.choose
  dsimp only
  split
  · next t j e ht _ _ =>
    have reserved : ∀ sh, ListsHold (reserve e j sh t) := fun sh =>
      { ((h.pinned ht).setSlot j { Slot.freed with state := .reserved, shotId := some sh.id }).setShot e (some sh) with }
    exact ((reserved _).endShoot _).off ((latchIf_changes _ _ _).trans (latch_changes _ _))
  · exact h.endShoot _

theorem testFrame (h : ListsHold s) (n b : Nat) : ListsHold (testFrame s n b) := by
  unfold Machine.testFrame
  split
  · exact h
  · dsimp only
    split
    · split
      · exact h.choose _ _ _
      · exact { h with }
    · exact h

theorem decideIfOver (h : ListsHold s) : ListsHold (decideIfOver s) := by
  unfold Machine.decideIfOver decideShoot
  split
  · split
    · split
      · split
        · exact h.choose _ _ _
        · exact h.endShoot _
      · exact h.endShoot _
    · exact h
  · exact h

theorem reportCompletion (h : ListsHold s) (n b : Nat) : ListsHold (reportCompletion n b s) := by
  have listed : ListsHold (setStore { s.store with recent := ({ number := n, buffer := b } :: s.store.recent).take 7 } s) :=
    { h with recent := List.length_take_le _ _ }
  unfold Machine.reportCompletion lookAhead
  split
  · exact listed
  · exact ((listed.inflight _).testFrame n b).decideIfOver

theorem reportReplaced (h : ListsHold s) (n b : Nat) : ListsHold (reportReplaced n b s) := by
  unfold Machine.reportReplaced
  split
  · exact h
  · exact { h with }

theorem takeShoot (h : ListsHold s) (p : Posted) : ListsHold (takeShoot p s) := by
  unfold Machine.takeShoot
  split
  · exact h.makeReply _ _ _ _
  · next accepted =>
    have room : s.orders.hold.length < 8 := by
      by_contra full
      rw [shootRefusal, if_pos (Nat.le_of_not_lt full)] at accepted
      cases accepted
    exact (foldl (fun _ r k => k.testFrame _ _) _ _ ((h.held _ room).inflight _)).decideIfOver

theorem endShot (h : ListsHold s) (e : Nat) (sh : Shot) : ListsHold (endShot e sh s) :=
  (h.off (release_changes s sh.buffer)).setShot e none

theorem stopStore (h : ListsHold s) : ListsHold (stopStore s) := by
  unfold Machine.stopStore
  refine foldl (fun u e k => ?_) _ _ ?_
  · unfold cancelShot
    split
    · exact (k.endShot _ _).setSlot _ _
    · exact k
  · split
    · exact h.endShoot _
    · exact h

theorem applyReleaseShot (h : ListsHold s) (p : Posted) : ListsHold (applyReleaseShot p s).1 := by
  unfold Machine.applyReleaseShot
  split
  · exact (h.endShot _ _).setSlot _ _
  · exact h

theorem closeSlot (h : ListsHold s) (j : Nat) (x : Slot) (n e : Nat) (sh : Shot) : ListsHold (closeSlot j x n e sh s) :=
  { (h.endShot e sh).setSlot j { x with length := n, checkValid := false, state := .closing } with }

theorem applyCloseSlot (h : ListsHold s) (p : Posted) : ListsHold (applyCloseSlot p s).1 := by
  unfold Machine.applyCloseSlot
  dsimp only
  split
  · exact h
  · split
    · exact h
    · split
      · exact h
      · split
        · exact h
        · split
          · exact h
          · exact h.closeSlot _ _ _ _ _

theorem applyFreeSlot (h : ListsHold s) (p : Posted) : ListsHold (applyFreeSlot p s).1 := by
  have freed := h.setSlot (p.field 0 1) Slot.freed
  unfold Machine.applyFreeSlot
  dsimp only
  split
  · exact h
  · split
    case h_2 | h_3 => split <;> assumption
    all_goals assumption

theorem applySetupStore (h : ListsHold s) (p : Posted) : ListsHold (applySetupStore p s).1 := by
  unfold Machine.applySetupStore
  dsimp only
  split
  · exact h
  · split
    · exact off (s := { s with
          windows := { s.windows with picture := some p.picture }
          store := { s.store with
            slots := List.replicate p.picture.slots Slot.freed, lowWater := clampNat 0 p.picture.slots (p.field 9 1)
            slotDirty := List.replicate 64 true } })
        { h with slotDirty := List.length_replicate } (latchIf_changes _ _ _)
    · exact h

theorem clearStoreRequest (h : ListsHold s) : ListsHold (clearStoreRequest s) := { h with }

theorem endClose (h : ListsHold s) (j : Nat) (rest : List CloseWork) (f : Slot → Slot) : ListsHold (endClose j rest f s) := by
  have left : ListsHold (setCloseQueue rest s) := { h with }
  unfold Machine.endClose
  dsimp only
  split
  · exact left.setSlot _ _
  · exact left

theorem pieceDone (h : ListsHold s) (data : List Byte) : ListsHold (pieceDone data s) := by
  unfold Machine.pieceDone
  split
  · exact { h with }
  · exact h.clearStoreRequest

theorem trailerDone (h : ListsHold s) (n : Nat) : ListsHold (trailerDone n s) := by
  unfold Machine.trailerDone
  split
  · dsimp only
    split
    · exact { h with }
    · exact h.clearStoreRequest.endClose _ _ _
  · exact h.clearStoreRequest

theorem storeFailed (h : ListsHold s) : ListsHold (storeFailed s) := by
  have close : ListsHold (closeFailed s) := by
    unfold closeFailed
    split
    · exact (h.clearStoreRequest.endClose _ _ _).off (latch_changes _ _)
    · exact h.clearStoreRequest
  unfold Machine.storeFailed
  split
  · exact h
  · exact { h with shotDirty := List.length_set.trans h.shotDirty }
  · exact { h with slotDirty := List.length_set.trans h.slotDirty }
  · exact close
  · exact close

theorem slotWrite (h : ListsHold s) (j e : Nat) : ListsHold (slotWrite j e s).1 := by
  have dropped : ListsHold
      (setCounters (fun c => { c with protectedWrite := countUp c.protectedWrite }) (latch .protect s)) :=
    h.off ((latch_changes s _).trans (setCounters_changes _ _))
  unfold Machine.slotWrite
  dsimp only
  split
  · exact dropped
  · split
    · exact h.setSlot _ _
    · dsimp only
      split
      · exact h.setSlot _ _
      · exact h
    · exact dropped

theorem reportRead (h : ListsHold s) (j o n : Nat) (data : Option (List Byte)) : ListsHold (reportRead j o n data s) := by
  have drained : ∀ y m, ListsHold (setDrained j y m s) := by
    intro y m
    unfold setDrained
    split
    · exact h.setSlot _ _
    · exact { h with }
  unfold Machine.reportRead
  split
  · exact h
  · dsimp only
    generalize (Slot.reported _ o n data).bit = bit
    cases bit with
    | none => exact drained _ _
    | some b => exact (drained _ _).off (latch_changes _ _)

/-! ### Requests, ends and orders -/

theorem requestAll (h : ListsHold s) : ListsHold (requestAll s) := by
  have reply : ∀ u, ListsHold u → ListsHold (requestReply u) := by
    intro u h
    rcases requestReply_cases u with e | ⟨a, n, bs, ms, e⟩ <;> rw [e]
    · exact h
    · exact { h with
              dirty := List.length_replicate
              carried := fun marks k => Option.some.inj k ▸ h.dirty }
  have store : ∀ u, ListsHold u → ListsHold (requestStore u) := by
    intro u h
    unfold requestStore
    split
    · exact h
    · split
      · exact { h with shotDirty := List.length_set.trans h.shotDirty }
      · exact { h with slotDirty := List.length_set.trans h.slotDirty }
      · split
        · unfold requestCloseWork
          dsimp only
          split <;> exact { h with }
        · exact h
  refine store _ (reply _ ?_)
  rcases requestStatus_cases s with e | ⟨c, -, e⟩ <;> rw [e]
  · exact h
  · exact { h with }

theorem ownerFailed (h : ListsHold s) (o : Owner) : ListsHold (ownerFailed o s) := by
  cases o with
  | store => exact h.storeFailed
  | status => exact { h with }
  | statistics => exact h.off (ownerFailed_parts s .statistics)
  | orderUnit =>
    show ListsHold (replyFailed s)
    unfold replyFailed
    split
    · exact h
    · next marks hm =>
      exact { h with
              dirty := by
                show (List.zipWith or s.orders.dirty marks).length = 16
                rw [List.length_zipWith, h.dirty, h.carried marks hm]; rfl
              carried := nofun }

theorem endFlight (h : ListsHold s) (x : Flight) (st : Status) (data : List Byte) : ListsHold (endFlight x st data s) := by
  have idle := h.off (changes_port s { s.port with flight := none })
  unfold Machine.endFlight
  dsimp only
  cases x.kind with
  | host picture =>
    refine off (s := reportPicture x picture st data (setPort { s.port with flight := none } s)) ?_ (completeHead_changes _ _ _)
    unfold reportPicture
    split
    · exact idle.reportRead _ _ _ _
    · exact idle
  | piece => exact idle.off (endPiece_changes _ _ _)
  | own o =>
    simp only [endOwn]
    split
    · exact idle.off (changes_port _ _)
    · exact idle.ownerFailed o

theorem whenTold (h : ListsHold s) {o : Owner} {f : List Byte → State → State}
    (told : ∀ data u, ListsHold u → ListsHold (f data u)) : ListsHold (whenTold o f s) :=
  lists_depends.whenTold rfl told h

theorem setupFrames (h : ListsHold s) (p : Posted) : ListsHold (applySetupFrames p s).1 := by
  unfold applySetupFrames Machine.setupFrames
  dsimp only
  split
  · exact h
  · split
    · exact h
    · exact { h with recent := Nat.zero_le _ }

theorem start (h : ListsHold s) : ListsHold (start s) := by
  have pools : ListsHold (startPools s) :=
    { h.off (startFrames_changes s) with recent := Nat.zero_le _ }
  have blocks : ListsHold (startBlocks s) := { pools with }
  rw [start_eq]
  exact blocks.off ((changes_lens _ _).trans (startLink_changes _))

theorem stop (h : ListsHold s) : ListsHold (stop s) := by
  have cut := (cancelHeld (s := { s with partState := .parking }) { h with }).off (cutFilling_changes _)
  exact cut.stopStore.off (((stopFocus_changes _).trans (parkLens_only _).changes).trans (checkParked_changes _))

end ListsHold

end Sys2Proof.Machine
end

section
/-! PROOFS. The lists of the Order unit and the Store, and the inbound queue, keep their sizes at every step (O57). -/

namespace Sys2Proof.Machine
set_option Elab.async false

variable {s t : State}

/-! ### The Order unit and the Store, at every step -/

theorem ListsHold.dequeued (h : ListsHold s) {p : Posted} {rest : List Posted} (hq : s.orders.queue = p :: rest) :
    ListsHold (s.dequeued rest) := by
  have queue := h.queue
  rw [hq] at queue
  exact { h with queue := Nat.le_of_succ_le queue }

/-- The events that change the Order unit or the Store, but for the orders. -/
theorem lists_event {c : Instr} {f : State → State} (ho : orderRow c = none) (hf : eventOf c = some f)
    (h : ListsHold s) : ListsHold (f s) := by
  cases ha : apart [.orders, .store] (eventParts c) with
  | true => exact h.off (eventOf_changes s hf) ha
  | false =>
    have told : ListsHold (pieceRead s) := by
      unfold pieceRead
      split
      · exact h.whenTold fun data u k => k.pieceDone data
      · exact h
    have trailer : ListsHold (trailerWritten s) := by
      unfold trailerWritten
      split
      · exact h.whenTold fun _ u k => k.trailerDone _
      · exact h
    have mirror : ListsHold (mirrorWritten s) := by
      have cleared : ListsHold (whenTold .store (fun _ => clearStoreRequest) s) :=
        h.whenTold fun _ u k => k.clearStoreRequest
      unfold mirrorWritten
      split
      · exact cleared
      · exact cleared
      · exact h
    cases c
    case replyWriteDone => cases hf; exact h.whenTold fun _ u k => { k with carried := nofun }
    case readBackPieceDone => cases hf; exact told
    case trailerWriteDone => cases hf; exact trailer
    case mirrorWriteDone => cases hf; exact mirror
    case unknownOrder =>
      cases hf
      rcases takeHead_cases s Option.isNone (fun p => refuse p .unknown) with e | ⟨p, rest, hq, e⟩ <;> rw [e]
      · exact h
      · exact (h.dequeued hq).makeReply _ _ _ _
    all_goals first | cases (show true = false from ha) | cases ho

/-- What the take of an order does beside its reply. -/
theorem lists_take (o : Order) (p : Posted) (h : ListsHold s) : ListsHold (o.take p s) := by
  have answered : ∀ {apply : Posted → State → State × Answer}, ListsHold (apply p s).1 → ListsHold (answered apply p s) :=
    fun k => k.makeReply _ _ _ _
  cases o
  case setupFrames => exact answered (h.setupFrames p)
  case start => exact answered (apply := applyStart) (by rw [applyStart_fst]; exact h.start)
  case stop => exact answered (apply := applyStop) (by rw [applyStop_fst]; exact h.stop)
  case setupStore => exact answered (h.applySetupStore p)
  case shoot => exact h.takeShoot p
  case releaseShot => exact answered (h.applyReleaseShot p)
  case closeSlot => exact answered (h.applyCloseSlot p)
  case freeSlot => exact answered (h.applyFreeSlot p)
  case loadWeights => exact ListsHold.holdOr (apply := applyLoadWeights) h { h with }
  case meterMode => exact ListsHold.holdOr (apply := applyMeterMode) h { h with }
  case exposureLock => exact ListsHold.holdOr (apply := applyExposureLock) h { h with }
  case focusArea => exact ListsHold.holdOr (apply := applyFocusArea) h { h with }
  case steadyMode => exact ListsHold.holdOr (apply := applySteadyMode) h { h with }
  case focusSet => exact ListsHold.holdOr h (h.off (applyFocusSet_changes s p))
  case zoomTo => exact ListsHold.holdOr h (h.off (applyZoomTo_changes s p))
  case nop => exact answered (apply := applyNop) h
  case setupLens => exact answered (h.off (applySetupLens_changes s p))
  case loadTracking => exact answered (h.off (applyLoadTracking_changes s p))
  case supplyLimits => exact answered (apply := applySupplyLimits) { h with }
  case clearSupply => exact answered (apply := applyClearSupply) { h with }
  case clearStatus => exact answered (h.off (applyClearStatus_changes s p))
  case alertMask => exact answered (h.off (applyAlertMask_changes s p))
  case focusStart => exact answered (h.off (applyFocusStart_changes s p))
  case focusCancel => exact answered (h.off (applyFocusCancel_changes s p))
  case zoomStop => exact answered (h.off (applyZoomStop_changes s p))
  case lensRestart => exact answered (h.off (applyLensRestart_changes s p))

theorem lists_takeOrder (o : Order) (h : ListsHold s) : ListsHold (takeOrder o o.take s) := by
  rcases takeHead_cases s (· == some o) (whenAllowed o o.take) with e | ⟨p, rest, hq, e⟩ <;> rw [takeOrder, e]
  · exact h
  · have taken := h.dequeued hq
    unfold whenAllowed
    split
    · exact lists_take o p taken
    · exact taken.makeReply _ _ _ _

theorem lists_arrival : ArrivalKept ListsHold where
  counted s f b h := h.off (latchCount_changes s f b)
  held s n h := h.applyHeld n
  cut s h := h.off (cutFilling_changes s)
  replaced s n b h := h.reportReplaced n b
  claim s g b h := h.off (claimBank_changes s g b)
  give s g o t id h := h.off (giveToBank_changes s g o t id)
  crop s k b g f h := h.off (applyCrop_changes s k b _)
  handOn s k b h := h.off (handOnBank_changes s k b)
  reported s n b h := h.reportCompletion n b
  shown s off t h := h.showOrderWrite off t
  slot s j e h := h.slotWrite j e

theorem lists_kept : Kept ListsHold where
  pending s l h := { h with }
  time s t h := { h with }
  request s h := h.requestAll
  dirty s h := { h with }
  assert s h :=
    { h with
      queue := Nat.zero_le _
      hold := Nat.zero_le _
      dirty := List.length_replicate
      carried := nofun }
  rise s a h :=
    { queue := Nat.zero_le _, hold := Nat.zero_le _, shadow := List.length_replicate, image := List.length_replicate
      dirty := List.length_replicate, carried := nofun, recent := Nat.zero_le _, shots := List.length_replicate
      shotDirty := List.length_replicate, slotDirty := List.length_replicate }
  event s c f hf _ h := by
    cases ho : orderRow c with
    | none => exact lists_event ho hf h
    | some o =>
      simp only [eventOf, ho, Option.some.injEq] at hf
      rw [← hf]
      exact lists_takeOrder o h
  header s x r h := h.off (headerComesIn_changes s x r)
  arrive s t _ h := lists_depends.arrival rfl lists_arrival t h
  carry s t hd _ h := h.off (carryOut_changes s t hd)
  own s x rest _ _ h := h.off ((changes_port s _).andThen (changes_port _ _))
  piece s v p ps _ h := h.off ((changes_port s _).andThen (changes_port _ _))
  ended s x st data _ _ h := h.endFlight x st data
  late s h := h.off (changes_status s _)

/-! ### The inbound queue -/

theorem splitMalformed_length (l : List HostTransaction) : (splitMalformed l).2.length ≤ l.length := by
  induction l with
  | nil => exact Nat.le_refl _
  | cons t l ih =>
    unfold splitMalformed
    split
    · exact Nat.le_succ_of_le ih
    · exact Nat.le_refl _

/-- The inbound queue holds at most 8 transactions (R1). -/
def InboundHolds (s : State) : Prop := s.port.inbound.length ≤ 8

theorem inbound_depends : Depends [.port] InboundHolds := fun s t same h => by
  have e : t.port = s.port := same .port (by decide)
  unfold InboundHolds
  rw [e]
  exact h

namespace InboundHolds

theorem of_eq (h : InboundHolds s) (e : t.port.inbound = s.port.inbound) : InboundHolds t := by
  unfold InboundHolds
  rw [e]
  exact h

theorem flushMalformed (h : InboundHolds s) : InboundHolds (flushMalformed s) :=
  Nat.le_trans (splitMalformed_length s.port.inbound) h

theorem completeHead (h : InboundHolds s) (st : Status) (data : List Byte) : InboundHolds (completeHead st data s) := by
  unfold Machine.completeHead
  split
  · next x rest hq =>
    refine flushMalformed ?_
    have := h
    unfold InboundHolds at this
    rw [hq] at this
    exact Nat.le_of_succ_le this
  · exact h

theorem endFlight (h : InboundHolds s) (x : Flight) (st : Status) (data : List Byte) : InboundHolds (endFlight x st data s) := by
  have idle : InboundHolds (setPort { s.port with flight := none } s) := h
  unfold Machine.endFlight
  dsimp only
  cases x.kind with
  | host picture =>
    refine completeHead (s := reportPicture x picture st data (setPort { s.port with flight := none } s)) ?_ _ _
    exact inbound_depends.of_changes (reportPicture_changes _ x picture st data) rfl idle
  | piece =>
    show InboundHolds (endPiece st data (setPort { s.port with flight := none } s))
    unfold endPiece
    split
    · exact idle
    · dsimp only
      split
      · exact idle.completeHead _ _
      · split
        · exact idle.completeHead _ _
        · exact idle
  | own o =>
    simp only [endOwn]
    split
    · exact idle
    · exact inbound_depends.of_changes (ownerFailed_changes _ o) rfl idle

end InboundHolds

theorem requestStatus_inbound (s : State) : (requestStatus s).port.inbound = s.port.inbound := by
  rcases requestStatus_cases s with e | ⟨c, -, e⟩ <;> rw [e]
  rfl

theorem requestReply_inbound (s : State) : (requestReply s).port.inbound = s.port.inbound := by
  rcases requestReply_cases s with e | ⟨a, n, bs, ms, e⟩ <;> rw [e]
  rfl

theorem requestStore_inbound (s : State) : (requestStore s).port.inbound = s.port.inbound := by
  rcases requestStore_cases s with e | ⟨a, d, n, bs, ms, fc, r, sd, ld, e⟩ <;> rw [e]
  rfl

/-- An evaluation ends with the request of the record's first half (R55). -/
theorem evaluate_begins (id : BankId) (b : Bank) (copy : RecordCopy) (s : State) :
    ∃ v bytes, Changes [.exposure, .status, .lens, .focus, .status, .stats, .frames] s v ∧
      evaluate id b copy s = beginResult id bytes v :=
  ⟨_, _, (((exposureEvaluate_changes s b copy.record).trans (focusEvaluate_only _ _ _ _ _).changes).trans
    (setBank_changes _ _ _)).trans (dropBankField_changes _ _ _), rfl⟩

theorem InboundHolds.evaluationDone (h : InboundHolds s) : InboundHolds (evaluationDone s) := by
  unfold Machine.evaluationDone
  split
  · exact h
  · next id _ =>
    split
    · obtain ⟨v, bytes, c, e⟩ := evaluate_begins id (s.bank id) _ s
      rw [e]
      exact (inbound_depends.of_changes c rfl h).of_eq rfl
    · exact h

theorem InboundHolds.whenTold (h : InboundHolds s) {o : Owner} {f : List Byte → State → State}
    (told : ∀ data u, InboundHolds u → InboundHolds (f data u)) : InboundHolds (whenTold o f s) := by
  unfold Machine.whenTold
  split
  · next data t ht =>
    obtain ⟨l, rfl⟩ := takeTold_cases s ht
    exact told _ _ h
  · exact h

theorem InboundHolds.resultWritten (h : InboundHolds s) : InboundHolds (resultWritten s) := by
  unfold Machine.resultWritten
  split
  · exact h
  · split
    · exact inbound_depends.of_changes (((changes_stats s _).trans (endResult_changes _ _)).trans (latch_changes _ _)) rfl h
    · exact h

/-- Only the acceptance of a host transaction lengthens the inbound queue. -/
theorem inbound_event {c : Instr} {f : State → State} (hf : eventOf c = some f) (h : InboundHolds s) :
    InboundHolds (f s) := by
  have store : ∀ {g : List Byte → State → State}, (∀ data u, Changes [.store, .request] u (g data u)) →
      InboundHolds (Machine.whenTold .store g s) := fun k => h.whenTold fun data u hu =>
    inbound_depends.of_changes (k data u) rfl hu
  cases c
  case hostTransactionAccept t =>
    cases hf
    unfold acceptHost
    split
    · next room =>
      refine InboundHolds.flushMalformed ?_
      show (s.port.inbound ++ [t]).length ≤ 8
      rw [List.length_append]
      exact room
    · exact h
  case evaluationDone => cases hf; exact h.evaluationDone
  case resultWriteDone => cases hf; exact h.whenTold fun _ u hu => hu.resultWritten
  case replyWriteDone => cases hf; exact h.whenTold fun _ u hu => hu
  case statusRewriteDone => cases hf; exact h.whenTold fun _ u hu => hu
  case readBackPieceDone =>
    cases hf
    unfold pieceRead
    split
    · exact store fun data u => pieceDone_changes u data
    · exact h
  case trailerWriteDone =>
    cases hf
    unfold trailerWritten
    split
    · exact store fun _ u => trailerDone_changes u _
    · exact h
  case mirrorWriteDone =>
    cases hf
    unfold mirrorWritten
    split
    · exact store fun _ u => changes_store_request u _
    · exact store fun _ u => changes_store_request u _
    · exact h
  case arbiterTurn => cases hf
  case memoryCompletion => cases hf
  case memoryTimeout => cases hf
  case resetNAssert => cases hf
  case resetNRise => cases hf
  all_goals exact inbound_depends.of_changes (eventOf_changes s hf) rfl h

theorem inbound_kept : Kept InboundHolds where
  pending s l h := h
  time s t h := h
  request s h := by
    refine h.of_eq ?_
    unfold requestAll
    rw [requestStore_inbound, requestReply_inbound, requestStatus_inbound]
  dirty s h := h
  assert s h := Nat.zero_le _
  rise s a h := Nat.zero_le _
  event s c f hf _ h := inbound_event hf h
  header s x r h := inbound_depends.of_changes (headerComesIn_changes s x r) rfl h
  arrive s t _ h := inbound_depends.of_changes (arrive_changes s t) rfl h
  carry s t hd _ h := by
    unfold carryOut
    split
    · exact h
    · exact h.completeHead _ _
    · exact h
    · exact h.completeHead _ _
  own s x rest _ _ h := h
  piece s v p ps _ h := h
  ended s x st data _ _ h := h.endFlight x st data
  late s h := h

end Sys2Proof.Machine
end

section
/-! PROOFS. The history of the Steadying unit, the trail, the tracking table and the weights keep their sizes; and with
them all of the sizes (the first part of O57). -/

namespace Sys2Proof.Machine
set_option Elab.async false

variable {s t : State}

/-! ### The history, the trail, the tracking table and the weights -/

/-- The sizes of the lists of the other units (R88, R146; 4.2, 6.2). -/
structure UnitsHold (s : State) : Prop where
  history : s.steady.history.length ≤ 128
  trail   : s.focus.trail.length ≤ 8
  knots   : s.lens.knots.length = 33
  weights : s.exposure.weights.length = 64

theorem units_depends : Depends [.steady, .focus, .lens, .exposure] UnitsHold := by
  intro s t same h
  have hs : t.steady = s.steady := same .steady (by decide)
  have hf : t.focus = s.focus := same .focus (by decide)
  have hl : t.lens = s.lens := same .lens (by decide)
  have he : t.exposure = s.exposure := same .exposure (by decide)
  constructor <;> simp only [hs, hf, hl, he]
  exacts [h.history, h.trail, h.knots, h.weights]

theorem appendHistory_length (l : List GyroEntry) (e : GyroEntry) : (appendHistory l e).length ≤ 128 := by
  rw [appendHistory_eq, List.length_append, List.length_drop, List.length_singleton]
  omega

namespace UnitsHold

theorem off {qs : List Part} (h : UnitsHold s) (k : Changes qs s t)
    (hq : apart [.steady, .focus, .lens, .exposure] qs = true := by rfl) : UnitsHold t :=
  units_depends.of_changes k hq h

/-- What the lens and the focus do. -/
theorem steered (h : UnitsHold s) (k : Steers s t) (c : Changes (.partState :: lensParts) s t) : UnitsHold t where
  history := by rw [c.steady_eq]; exact h.history
  trail := k.trail h.trail
  knots := by rw [k.knots]; exact h.knots
  weights := by rw [c.exposure_eq]; exact h.weights

theorem steeredLens (h : UnitsHold s) (k : Steers s t) (c : Changes lensParts s t) : UnitsHold t :=
  h.steered k (c.mono (by decide))

/-! ### Samples and exchanges -/

theorem faultedSample (h : UnitsHold s) (time : Time) : UnitsHold (faultedSample time s) :=
  { h with history := appendHistory_length _ _ }

theorem missingSample (h : UnitsHold s) (time : Time) : UnitsHold (missingSample time s) :=
  { h with history := appendHistory_length _ _ }

theorem acceptedSample (h : UnitsHold s) (time : Time) (x y : Int) : UnitsHold (acceptedSample time x y s) :=
  { h with history := appendHistory_length _ _ }

theorem sensingFaulted (h : UnitsHold s) : UnitsHold (sensingFaulted s) := by
  unfold Machine.sensingFaulted
  split
  · exact h
  · exact { h with }

theorem clearLinkFailures (h : UnitsHold s) : UnitsHold (clearLinkFailures s) := by
  unfold Machine.clearLinkFailures sensingCleared
  split
  · exact { h with }
  · exact { h with }

theorem deliverMissing (h : UnitsHold s) (x : Exchange) : UnitsHold (deliverMissing x s) := by
  unfold Machine.deliverMissing
  split
  · have counted := fun n => h.off (setFails_changes s .sensing n)
    unfold sensingMissing
    dsimp only
    split
    · exact h.faultedSample _
    · split
      · exact (sensingFaulted (s := setLink _ _) ((counted _).off (changes_link _ _))).faultedSample _
      · exact (counted _).missingSample _
  · next id _ =>
    have missed : ∀ n, UnitsHold (motorMissing id x.request (setFails x.target n s)) := fun n =>
      (h.off (setFails_changes s x.target n)).steeredLens (.motorMissing _ _ _) (motorMissing_only _ _ _).changes
    unfold motorExchangeMissing
    dsimp only
    split
    · exact (missed _).steered (.faultMotor _ _ _ _) (faultMotor_only _ _ _ _).changes
    · exact missed _

theorem deliverAccepted (h : UnitsHold s) (x : Exchange) (pl : List Byte) : UnitsHold (deliverAccepted x pl s) := by
  have counted := fun t => h.off (setFails_changes s t 0)
  unfold Machine.deliverAccepted
  split
  · unfold deliverSensed
    dsimp only
    split
    · exact h.faultedSample _
    · exact ((counted _).steered (.supplyReading _ _ _ _) (supplyReading_only _ _ _ _).changes).acceptedSample _ _ _
  · dsimp only
    split
    · exact (counted _).steered (.homedReply _ _) (homedReply_only _ _).changes
    · exact (counted _).steered (.movedReply _ _ _ _ _) (movedReply_only _ _ _ _ _).changes

theorem endMissing (h : UnitsHold s) (x : Exchange) : UnitsHold (endMissing x s) :=
  ((h.off ((closeExchange_changes s).trans (setCounters_changes _ _))).deliverMissing x).off (checkParked_changes _)

theorem endAccepted (h : UnitsHold s) (x : Exchange) (pl : List Byte) : UnitsHold (endAccepted x pl s) :=
  ((h.off (closeExchange_changes s)).deliverAccepted x pl).off (checkParked_changes _)

theorem replyDiscarded (h : UnitsHold s) (line : List Byte) : UnitsHold (replyDiscarded line s) := by
  unfold Machine.replyDiscarded
  split
  · split
    · exact ((h.off ((countHeader_changes s _ _).trans (setCounters_changes _ _))).endMissing _).off (nextTurn_changes _)
    · exact h
  · exact h

theorem replyAccepted (h : UnitsHold s) (sort : Request → Bool) (line : List Byte) :
    UnitsHold (replyAccepted sort line s) := by
  unfold Machine.replyAccepted
  split
  · split
    · split
      · exact ((h.off (countHeader_changes s _ _)).endAccepted _ _).off (nextTurn_changes _)
      · exact h
    · exact h
  · exact h

theorem roundExpired (h : UnitsHold s) : UnitsHold (roundExpired s) := by
  have ended : UnitsHold (match s.link.exchange with | some x => Machine.endMissing x s | none => s) := by
    split
    · exact h.endMissing _
    · exact h
  unfold Machine.roundExpired
  split
  · exact if c : _ then by rw [if_pos c]; exact ended else by rw [if_neg c]; exact ended.off (beginRound_changes _)
  · exact h

theorem settleExpired (h : UnitsHold s) (id : MotorId) : UnitsHold (settleExpired id s) := by
  have idle := h.steeredLens (.becomeIdle id s) (becomeIdle_only s id).changes
  unfold Machine.settleExpired
  dsimp only
  split
  · refine off ?_ (checkParked_changes _)
    split
    · exact idle.steeredLens (.focusArrived _) (focusArrived_only _).changes
    · exact idle
  · exact h

/-! ### The evaluation and the orders -/

theorem exposureEvaluate (h : UnitsHold s) (b : Bank) (f : FrameRecord) : UnitsHold (exposureEvaluate b f s).1 := by
  have weights : (Machine.exposureEvaluate b f s).1.exposure.weights = s.exposure.weights := by
    unfold Machine.exposureEvaluate
    dsimp only
    split
    · rfl
    · have converged : ∀ a b, (setConverged a b s).exposure.weights = s.exposure.weights := by
        intro a b
        unfold setConverged
        split <;> rfl
      split
      · exact converged _ _
      · unfold publishPlan
        rw [(latchIf_changes _ _ _).exposure_eq, (latchIf_changes _ _ _).exposure_eq]
        exact converged _ _
  have c := exposureEvaluate_changes s b f
  exact { history := by rw [c.steady_eq]; exact h.history
          trail := by rw [c.focus_eq]; exact h.trail
          knots := by rw [c.lens_eq]; exact h.knots
          weights := by rw [weights]; exact h.weights }

theorem evaluationDone (h : UnitsHold s) : UnitsHold (evaluationDone s) := by
  unfold Machine.evaluationDone
  split
  · exact h
  · split
    · unfold evaluate
      exact ((h.exposureEvaluate _ _).steeredLens (.focusEvaluate _ _ _ _ _)
        (focusEvaluate_only _ _ _ _ _).changes).off
          (((setBank_changes _ _ _).trans (dropBankField_changes _ _ _)).trans (beginResult_changes _ _ _))
    · exact h

theorem applyFocusSet (h : UnitsHold s) (p : Posted) : UnitsHold (applyFocusSet p s).1 := by
  have taken : ∀ d, UnitsHold { s with focus := { s.focus with d := d, state := .locked } } := fun d => { h with }
  unfold Machine.applyFocusSet
  split
  · exact h
  · exact (taken _).steeredLens (.giveFocus _ _ _) (giveFocus_only _ _ _).changes

theorem applyZoomTo (h : UnitsHold s) (p : Posted) : UnitsHold (applyZoomTo p s).1 := by
  unfold Machine.applyZoomTo
  dsimp only
  split
  · exact h
  · exact h
  · exact h
  · exact h.steeredLens (.zoomTo _ _ _) (zoomTo_only _ _ _).changes

theorem weights_length (p : Posted) : p.weights.length = 64 := by
  unfold Posted.weights
  rfl

theorem steady_withSettings_history (u : Steady) (v : SteadySettings) : (u.withSettings v).history = u.history := by
  unfold Steady.withSettings
  split <;> (try split) <;> rfl

theorem applySteadyMode (h : UnitsHold s) (p : Posted) : UnitsHold (applySteadyMode p s).1 :=
  { h with history := (congrArg List.length (steady_withSettings_history s.steady _)).trans_le h.history }

theorem applyHoldable (h : UnitsHold s) (o : Order) (p : Posted) : UnitsHold (applyHoldable o p s).1 := by
  cases o
  case loadWeights => exact { h with weights := weights_length p }
  case steadyMode => exact h.applySteadyMode p
  case focusSet => exact h.applyFocusSet p
  case zoomTo => exact h.applyZoomTo p
  all_goals exact { h with }

theorem unhomeMotors (h : UnitsHold s) : UnitsHold (unhomeMotors s) :=
  steeredLens (s := setLens { s.lens with zoom := Motor.unhomed, focus := Motor.unhomed, zoomHomed := false } s)
    { h with } (.zoomMoved _ _ _) (zoomMoved_only _ _ _).changes

theorem applyLoadTracking (h : UnitsHold s) (p : Posted) : UnitsHold (applyLoadTracking p s).1 := by
  unfold Machine.applyLoadTracking
  dsimp only
  split
  · exact h
  · refine unhomeMotors { h with knots := ?_ }
    show (writeKnots _ _ _).length = 33
    rw [writeKnots, List.length_mapIdx]
    exact h.knots

theorem applyFocusStart (h : UnitsHold s) (p : Posted) : UnitsHold (applyFocusStart p s).1 := by
  have begun : ∀ m r, UnitsHold
      { s with focus := { s.focus with mode := m, trail := [], search := some r, state := .searching .travel } } :=
    fun m r => { h with trail := Nat.zero_le _ }
  unfold Machine.applyFocusStart
  dsimp only
  split
  · exact h
  · split
    · exact h
    · exact (begun _ _).steeredLens (.giveFocus _ _ _) (giveFocus_only _ _ _).changes

theorem applyFocusCancel (h : UnitsHold s) (p : Posted) : UnitsHold (applyFocusCancel p s).1 :=
  h.steeredLens ((Steers.setFocusState _ s).trans (.giveFocus _ _ _)) (applyFocusCancel_changes s p)

theorem applyZoomStop (h : UnitsHold s) (p : Posted) : UnitsHold (applyZoomStop p s).1 := by
  unfold Machine.applyZoomStop
  dsimp only
  split
  · exact h
  · exact h
  · exact h
  · exact h.steeredLens ((Steers.setMotor _ _ s).trans (.giveTarget _ _ _ _))
      ((setMotor_only s .zoom _).trans (giveTarget_only _ _ _ _)).changes

theorem applyLensRestart (h : UnitsHold s) (p : Posted) : UnitsHold (applyLensRestart p s).1 := by
  unfold Machine.applyLensRestart
  dsimp only
  split
  · exact { h.clearLinkFailures with }
  · exact h.clearLinkFailures

theorem applyCrop (h : UnitsHold s) (k b : Nat) (c : CropResult) : UnitsHold (applyCrop k b c s) := by
  unfold Machine.applyCrop
  refine off ?_ (latchIf_changes _ _ _)
  exact { h with }

theorem start (h : UnitsHold s) : UnitsHold (start s) := by
  have blocks : UnitsHold (startBlocks s) := { h.off (startPools_changes s) with }
  have lens : UnitsHold (startLens (startBlocks s)) := { blocks with }
  rw [start_eq]
  exact lens.clearLinkFailures.off (beginRound_changes _)

theorem stop (h : UnitsHold s) : UnitsHold (stop s) := by
  have held := h.off ((changes_partState s .parking).trans (cancelHeld_changes { s with partState := .parking }))
  have stopped := (held.off (cutFilling_changes _)).off (stopStore_changes _)
  have focus := stopped.steeredLens (.ite (.failSearch .cancelled _) (.refl _)) (stopFocus_changes _)
  exact (focus.steeredLens (.parkLens _) (parkLens_only _).changes).off (checkParked_changes _)

end UnitsHold

theorem units_kept : BlocksKept [.steady, .focus, .lens, .exposure] UnitsHold where
  blocks := by decide
  depends := units_depends
  assert s h := { h with }
  rise s a := ⟨Nat.zero_le _, Nat.zero_le _, List.length_replicate, List.length_replicate⟩
  event s c f hp ho hf h := by
    cases c
    case evaluationDone => cases hf; exact h.evaluationDone
    case roundStart => cases hf; exact h.roundExpired
    case replyDiscarded line => cases hf; exact h.replyDiscarded line
    case sensed line => cases hf; exact h.replyAccepted _ line
    case moved line => cases hf; exact h.replyAccepted _ line
    case homed line => cases hf; exact h.replyAccepted _ line
    case settleTimeout id => cases hf; exact h.settleExpired id
    all_goals first | cases (show true = false from hp) | cases ho
  take s o p hp _ h := by
    have answered : ∀ {apply : Posted → State → State × Answer}, UnitsHold (apply p s).1 → UnitsHold (answered apply p s) :=
      fun k => units_depends.answered rfl k
    have held : ∀ {apply : Posted → State → State × Answer}, UnitsHold (apply p s).1 → UnitsHold (holdOr apply p s) :=
      fun k => units_depends.holdOr rfl h k
    cases o
    case setupLens => exact answered (apply := applySetupLens) (UnitsHold.unhomeMotors (s := setLens _ s) { h with })
    case loadTracking => exact answered (h.applyLoadTracking p)
    case start => exact answered (apply := applyStart) (by rw [applyStart_fst]; exact h.start)
    case stop => exact answered (apply := applyStop) (by rw [applyStop_fst]; exact h.stop)
    case loadWeights => exact held (apply := applyLoadWeights) (h.applyHoldable .loadWeights p)
    case meterMode => exact held (apply := applyMeterMode) (h.applyHoldable .meterMode p)
    case exposureLock => exact held (apply := applyExposureLock) (h.applyHoldable .exposureLock p)
    case focusArea => exact held (apply := applyFocusArea) (h.applyHoldable .focusArea p)
    case steadyMode => exact held (h.applySteadyMode p)
    case supplyLimits => exact answered (apply := applySupplyLimits) { h with }
    case clearSupply => exact answered (apply := applyClearSupply) { h with }
    case focusStart => exact answered (h.applyFocusStart p)
    case focusCancel => exact answered (h.applyFocusCancel p)
    case focusSet => exact held (h.applyFocusSet p)
    case zoomTo => exact held (h.applyZoomTo p)
    case zoomStop => exact answered (h.applyZoomStop p)
    case lensRestart => exact answered (h.applyLensRestart p)
    all_goals cases (show true = false from hp)
  arrive s t h :=
    units_depends.arrive rfl (fun s o p h => h.applyHoldable o p) (fun s h => h.off (cutFilling_changes s))
      (fun s g b h => h.off (claimBank_changes s g b)) (fun s g o t id h => h.off (giveToBank_changes s g o t id))
      (fun s k b g f h => h.applyCrop k b _)
      (fun s k b h => by
        unfold handOnBank
        dsimp only
        split
        · exact h.off (handOver_changes s _ _)
        · exact h.steeredLens (.resolveUnmetered s) (resolveUnmetered_only s).changes) t h
  failed s o h := h.off (ownerFailed_changes s o)

/-- The sizes are those of the four groups of lists. -/
theorem sizesHold_iff (s : State) : SizesHold s ↔ ListsHold s ∧ InboundHolds s ∧ UnitsHold s :=
  ⟨fun h => ⟨{ h with }, h.inbound, { h with }⟩, fun ⟨lists, inbound, units⟩ => { lists, units with inbound := inbound }⟩

/-- Every step keeps the sizes. -/
theorem step_keeps_sizes (h : SizesHold s) (hs : step s = .next t) : SizesHold t := by
  obtain ⟨lists, inbound, units⟩ := (sizesHold_iff s).mp h
  exact (sizesHold_iff t).mpr ⟨lists_kept.step lists hs, inbound_kept.step inbound hs, units_kept.kept.step units hs⟩

end Sys2Proof.Machine
end

section
/-! PROOFS. The banks, the FILLING record and the result writer: the writer writes from a WRITING bank, at most one record
is FILLING, and it feeds an ACCUMULATING bank (for the second part of O57). -/

namespace Sys2Proof.Machine
set_option Elab.async false

variable {s t : State}

/-- The banks take turns, the result writer writes from a WRITING bank, and the one FILLING frame feeds an ACCUMULATING
bank (R27, R30, R55, R57). -/
structure Feeding (s : State) : Prop where
  turns   : BanksTakeTurns s
  writer  : ∀ w, s.stats.writer = some w → (s.bank w.bank).state = .writing
  single  : ∀ b c, (s.record b).state = .filling → (s.record c).state = .filling → b = c
  filling : ∀ b id, (s.record b).state = .filling → (s.record b).bank = some id → (s.bank id).state = .accumulating

theorem BankId.eq_or_other (id j : BankId) : j = id ∨ j = id.other := by cases id <;> cases j <;> simp [BankId.other]

theorem record_congr (h : t.frames = s.frames) (b : Nat) : t.record b = s.record b := by unfold State.record; rw [h]

theorem bank_congr (h : t.stats = s.stats) (id : BankId) : t.bank id = s.bank id := by
  cases id <;> simp only [State.bank, h]

/-- A record after one is replaced: the new one, or as before. -/
theorem record_setRecord_or (b c : Nat) (f : FrameRecord) (s : State) :
    (setRecord b f s).record c = s.record c ∨ c = b ∧ b < s.frames.table.length ∧ (setRecord b f s).record c = f := by
  by_cases hc : c = b
  · subst hc
    by_cases hb : c < s.frames.table.length
    · exact .inr ⟨rfl, hb, record_setRecord s hb f⟩
    · refine .inl ?_
      unfold State.record setRecord
      rw [List.set_eq_of_length_le (Nat.not_lt.mp hb)]
  · exact .inl (record_setRecord_of_ne s hc f)

theorem feeding_depends : Depends [.stats, .frames] Feeding := by
  intro s t same h
  have hs : t.stats = s.stats := same .stats (by decide)
  have hf : t.frames = s.frames := same .frames (by decide)
  constructor
  · unfold BanksTakeTurns
    rw [hs]
    exact h.turns
  · rw [hs]
    simpa only [bank_congr hs] using h.writer
  · simpa only [record_congr hf] using h.single
  · simpa only [record_congr hf, bank_congr hs] using h.filling

namespace Feeding

theorem off {qs : List Part} (h : Feeding s) (k : Changes qs s t) (hq : apart [.stats, .frames] qs = true := by rfl) :
    Feeding t := feeding_depends.of_changes k hq h

/-! ### Records -/

/-- The banks as before, and no record FILLING that was not, with the bank it had or none. -/
theorem fewer (h : Feeding s) (hs : t.stats = s.stats) (records : ∀ c, (t.record c).state = .filling →
    (s.record c).state = .filling ∧ ((t.record c).bank = (s.record c).bank ∨ (t.record c).bank = none)) : Feeding t where
  turns := by
    unfold BanksTakeTurns
    rw [hs]
    exact h.turns
  writer := by
    rw [hs]
    simpa only [bank_congr hs] using h.writer
  single b c hb hc := h.single b c (records b hb).1 (records c hc).1
  filling b id hb hid := by
    obtain ⟨before, same | none⟩ := records b hb
    · rw [bank_congr hs]
      exact h.filling b id before (same ▸ hid)
    · rw [none] at hid
      cases hid

/-- A record that is not FILLING takes the place of another. -/
theorem setIdle (h : Feeding s) (b : Nat) {f : FrameRecord} (hf : f.state ≠ .filling) : Feeding (setRecord b f s) :=
  h.fewer rfl fun c hc => by
    rcases record_setRecord_or b c f s with e | ⟨-, -, e⟩ <;> rw [e] at hc ⊢
    · exact ⟨hc, .inl rfl⟩
    · exact absurd hc hf

/-- A record with the state and the bank it had, or none. -/
theorem setSame (h : Feeding s) (b : Nat) {f : FrameRecord} (hs : f.state = (s.record b).state)
    (hb : f.bank = (s.record b).bank ∨ f.bank = none) : Feeding (setRecord b f s) :=
  h.fewer rfl fun c hc => by
    rcases record_setRecord_or b c f s with e | ⟨rfl, -, e⟩ <;> rw [e] at hc ⊢
    · exact ⟨hc, .inl rfl⟩
    · exact ⟨hs ▸ hc, hb⟩

/-! ### Banks -/

/-- The banks' states and the writer's bank as before. -/
theorem sameBanks (h : Feeding s) (hf : t.frames = s.frames) (banks : ∀ id, (t.bank id).state = (s.bank id).state)
    (hw : ∀ w, t.stats.writer = some w → ∃ v, s.stats.writer = some v ∧ v.bank = w.bank) : Feeding t where
  turns := turns_of_states h.turns banks
  writer w k := by
    obtain ⟨v, hv, e⟩ := hw w k
    rw [banks, ← e]
    exact h.writer v hv
  single := by simpa only [record_congr hf] using h.single
  filling b id := by
    rw [record_congr hf, banks]
    exact h.filling b id

/-- The bank a FILLING frame feeds is not the writer's. -/
theorem writer_ne (h : Feeding s) {id : BankId} (ha : (s.bank id).state ≠ .writing) {w : ResultWriter}
    (hw : s.stats.writer = some w) : w.bank ≠ id := fun e => ha (e ▸ h.writer w hw)

/-- A bank neither of the writer nor of a FILLING frame is freed. -/
theorem freeBank (h : Feeding s) {id : BankId} (hw : ∀ w, s.stats.writer = some w → w.bank ≠ id)
    (hf : ∀ b, (s.record b).state = .filling → (s.record b).bank ≠ some id) : Feeding (freeBank id s) := by
  have c := freeBank_changes s id
  have frames : (Machine.freeBank id s).frames = s.frames := c.frames_eq
  have writer : (Machine.freeBank id s).stats.writer = s.stats.writer := c.writer_eq
  have other : ∀ j, j ≠ id → (s.bank j).state ≠ .waiting → (Machine.freeBank id s).bank j = s.bank j := by
    intro j hj hs
    obtain rfl := (BankId.eq_or_other id j).resolve_left hj
    rw [(freeBank_banks s id).2, if_neg hs]
  refine ⟨turns_freeBank id s, fun w k => ?_, ?_, fun b j hb hj => ?_⟩
  · rw [writer] at k
    rw [other _ (hw w k) (by rw [h.writer w k]; nofun)]
    exact h.writer w k
  · simpa only [record_congr frames] using h.single
  · rw [record_congr frames] at hb hj
    have acc := h.filling b j hb hj
    rw [other j (fun e => hf b hb (e ▸ hj)) (by rw [acc]; nofun)]
    exact acc

/-- A bank no FILLING frame feeds any more is handed over (R35). -/
theorem handOver (h : Feeding s) {id : BankId} (copy : RecordCopy) (ha : (s.bank id).state = .accumulating)
    (hf : ∀ b, (s.record b).state ≠ .filling) : Feeding (handOver id copy s) := by
  have c := handOver_changes s id copy
  have frames : (Machine.handOver id copy s).frames = s.frames := c.frames_eq
  refine ⟨turns_handOver id copy h.turns, fun w k => ?_, fun b _ hb => ?_, fun b _ hb => ?_⟩
  · rw [c.writer_eq] at k
    have ne := h.writer_ne (id := id) (by rw [ha]; nofun) k
    rw [(BankId.eq_or_other id w.bank).resolve_left ne, (handOver_banks s id copy).2,
      ← (BankId.eq_or_other id w.bank).resolve_left ne]
    exact h.writer w k
  · rw [record_congr frames] at hb
    exact absurd hb (hf b)
  · rw [record_congr frames] at hb
    exact absurd hb (hf b)

theorem freeBank?_state {id : BankId} (h : s.freeBank? = some id) : (s.bank id).state = .free := by
  unfold State.freeBank? at h
  split at h
  · next h0 => cases h; exact h0
  · split at h
    · next h1 => cases h; exact h1
    · cases h

/-- A FREE bank is claimed for a record (R30). -/
theorem claimBank (h : Feeding s) (g : Geometry) (b : Nat) : Feeding (claimBank g b s) := by
  have turns := turns_claimBank g b h.turns
  unfold Machine.claimBank at turns ⊢
  dsimp only at turns ⊢
  split
  · next id hid =>
    rw [hid] at turns
    have free := freeBank?_state hid
    refine ⟨turns, fun w k => ?_, fun c d hc hd => ?_, fun c j hc hj => ?_⟩
    · have k : s.stats.writer = some w := by
        rw [← k]
        exact (setBank_changes (setRecord b { s.record b with bank := some id } s) _ _).writer_eq.symm
      have ne := h.writer_ne (id := id) (by rw [free]; nofun) k
      rw [(BankId.eq_or_other id w.bank).resolve_left ne, bank_setBank_other]
      have writing := h.writer w k
      rw [(BankId.eq_or_other id w.bank).resolve_left ne] at writing
      exact writing
    · have opened : ∀ c, ((setRecord b { s.record b with bank := some id } s).record c).state = .filling →
          (s.record c).state = .filling := by
        intro c hc
        rcases record_setRecord_or b c { s.record b with bank := some id } s with e | ⟨rfl, -, e⟩ <;> rw [e] at hc <;> exact hc
      exact h.single c d (opened c ((congrArg FrameRecord.state (record_congr (setBank_changes _ _ _).frames_eq c)).symm.trans hc))
        (opened d ((congrArg FrameRecord.state (record_congr (setBank_changes _ _ _).frames_eq d)).symm.trans hd))
    · rw [record_congr (setBank_changes _ _ _).frames_eq] at hc hj
      rcases BankId.eq_or_other id j with rfl | rfl
      · rw [bank_setBank]
        rfl
      · rw [bank_setBank_other]
        rcases record_setRecord_or b c { s.record b with bank := some id } s with e | ⟨-, -, e⟩ <;> rw [e] at hc hj
        · exact h.filling c _ hc hj
        · exact absurd (Option.some.inj hj) (by cases id <;> decide)
  · exact (h.setSame b (f := { s.record b with notMetered := true }) rfl (.inl rfl)).off
      ((latch_changes _ _).trans (setCounters_changes _ _))

theorem giveToBank (h : Feeding s) (g : Geometry) (o : Nat) (t : HostTransaction) (id : Option BankId) :
    Feeding (giveToBank g o t id s) := by
  unfold Machine.giveToBank
  split
  · next id =>
    refine h.sameBanks (setBank_changes s _ _).frames_eq (fun j => ?_) fun w k =>
      ⟨w, by rw [← k]; exact (setBank_changes s _ _).writer_eq.symm, rfl⟩
    rcases BankId.eq_or_other id j with rfl | rfl
    · rw [bank_setBank, accumulate_only]
    · rw [bank_setBank_other]
  · exact h

/-- WAITING banks become FREE; every other state stays (R59). -/
theorem dropWaitingBanks (h : Feeding s) : Feeding (dropWaitingBanks s) := by
  have states : ∀ id, (s.bank id).state ≠ .waiting → ((Machine.dropWaitingBanks s).bank id).state = (s.bank id).state := by
    intro id hs
    cases id <;> exact congrArg Bank.state (if_neg hs)
  refine ⟨turns_dropWaitingBanks h.turns, fun w k => ?_, h.single, fun b id hb hid => ?_⟩
  · have writing := h.writer w k
    rw [states _ (by rw [writing]; nofun)]
    exact writing
  · have acc := h.filling b id hb hid
    rw [states _ (by rw [acc]; nofun)]
    exact acc

end Feeding

end Sys2Proof.Machine
end

section
/-! PROOFS. What the banks, the FILLING record and the result writer keep, at every event while RESET_N is high (for the
second part of O57). -/

namespace Sys2Proof.Machine
set_option Elab.async false

variable {s t : State}

namespace Feeding

/-! ### Pins, releases and the parked lens -/

theorem pins : PinsKept [.stats, .frames] Feeding where
  depends := feeding_depends
  off := by decide
  pin s t b n hp h := by
    obtain ⟨-, -, -, -, rfl⟩ := pin_some _ hp
    exact (h.setIdle b (f := { s.record b with state := .pinned }) nofun).fewer rfl fun c hc => ⟨hc, .inl rfl⟩
  release s b h := by
    have complete := h.setIdle b (f := { s.record b with state := .complete }) nofun
    unfold release
    split
    · dsimp only
      split
      · exact complete
      · exact complete.fewer rfl fun c hc => ⟨hc, .inl rfl⟩
    · exact h

theorem rebuilt (h : Feeding s) (hs : t.stats = s.stats) (hf : t.frames = s.frames.rebuilt) : Feeding t := by
  have records : ∀ c, t.record c = s.record c := by
    intro c
    unfold State.record
    rw [hf]
    unfold Frames.rebuilt
    split <;> rfl
  exact h.fewer hs fun c hc => ⟨records c ▸ hc, .inl (by rw [records c])⟩

theorem replies : RepliesKept [.stats, .frames] Feeding where
  depends := feeding_depends
  aside := by decide
  goesOn s _ h := h.off (changes_partState s _)
  park s h := by
    unfold checkParked
    split
    · exact h.rebuilt rfl rfl
    · exact h

/-! ### Evaluation and the result writer -/

/-- At most one bank is EVALUATING or WRITING, so no result is being written while one is EVALUATING. -/
theorem no_writer (h : Feeding s) {id : BankId} (he : s.evaluating? = some id) : s.stats.writer = none := by
  by_contra some
  obtain ⟨w, hw⟩ := Option.ne_none_iff_exists'.mp some
  have evaluating := evaluating?_state he
  have writing := h.writer w hw
  have ne := h.writer_ne (id := id) (by rw [evaluating]; nofun) hw
  rw [(BankId.eq_or_other id w.bank).resolve_left ne] at writing
  exact ((turns_iff id).mp h.turns).one ⟨.inl evaluating, .inr writing⟩

/-- What an evaluation makes of the records: a bank field that names the evaluated bank may go. -/
theorem evaluate_records (id : BankId) (b : Bank) (copy : RecordCopy) (s : State) (c : Nat) :
    ((evaluate id b copy s).record c).state = (s.record c).state ∧
      (((evaluate id b copy s).record c).bank = (s.record c).bank ∨ ((evaluate id b copy s).record c).bank = none) := by
  have dropped : ∀ u : State, u.frames = s.frames → ∀ v : State, v.frames = (dropBankField b.buffer id u).frames →
      (v.record c).state = (s.record c).state ∧ ((v.record c).bank = (s.record c).bank ∨ (v.record c).bank = none) := by
    intro u hu v hv
    rw [record_congr hv, ← record_congr hu c]
    unfold dropBankField
    split
    · rcases record_setRecord_or b.buffer c { u.record b.buffer with bank := none } u with e | ⟨rfl, -, e⟩ <;> rw [e]
      · exact ⟨rfl, .inl rfl⟩
      · exact ⟨rfl, .inr rfl⟩
    · exact ⟨rfl, .inl rfl⟩
  unfold evaluate
  exact dropped _ (((exposureEvaluate_changes s b copy.record).trans
    (focusEvaluate_only _ _ _ _ _).changes).trans (setBank_changes _ _ _)).frames_eq _ rfl

theorem evaluationDone (h : Feeding s) : Feeding (evaluationDone s) := by
  have turns := turns_evaluationDone h.turns
  unfold Machine.evaluationDone at turns ⊢
  split
  · exact h
  · next id hid =>
    rw [hid] at turns
    dsimp only at turns
    split
    · next copy hc =>
      rw [hc] at turns
      have records := evaluate_records id (s.bank id) copy s
      have bank := fun j => evaluate_bank id j (s.bank id) copy s
      have writer : ∀ w, (evaluate id (s.bank id) copy s).stats.writer = some w → w.bank = id := by
        obtain ⟨v, bytes, -, e⟩ := evaluate_begins id (s.bank id) copy s
        rw [e]
        intro w hw
        cases hw
        rfl
      refine ⟨turns, fun w hw => ?_, fun b c hb hc => ?_, fun b j hb hj => ?_⟩
      · rw [writer w hw, bank, bank_setBank]
      · rw [(records _).1] at hb hc
        exact h.single b c hb hc
      · rw [(records _).1] at hb
        obtain same | none := (records b).2
        · have acc := h.filling b j hb (same ▸ hj)
          have ne : j ≠ id := fun e => by
            rw [e, evaluating?_state hid] at acc
            cases acc
          rw [bank, (BankId.eq_or_other id j).resolve_left ne, bank_setBank_other,
            ← (BankId.eq_or_other id j).resolve_left ne]
          exact acc
        · rw [none] at hj
          cases hj
    · exact h

theorem endResult (h : Feeding s) {w : ResultWriter} (hw : s.stats.writer = some w) : Feeding (endResult w s) := by
  have ended : Feeding { s with stats := { s.stats with writer := none } } :=
    h.sameBanks rfl (fun id => by cases id <;> rfl) nofun
  refine ended.freeBank nofun fun b hb hid => ?_
  have acc := h.filling b w.bank hb hid
  rw [h.writer w hw] at acc
  cases acc

theorem resultWritten (h : Feeding s) : Feeding (resultWritten s) := by
  unfold Machine.resultWritten
  split
  · exact h
  · next w hw =>
    split
    · have newest : Feeding { s with stats := { s.stats with newest := some w.entry } } :=
        h.sameBanks rfl (fun id => by cases id <;> rfl) fun v hv => ⟨v, hv, rfl⟩
      exact (newest.endResult hw).off (latch_changes _ _)
    · exact h.sameBanks rfl (fun id => by cases id <;> rfl) fun v hv => ⟨w, hw, by cases hv; rfl⟩

theorem ownerFailed (h : Feeding s) (o : Owner) : Feeding (ownerFailed o s) := by
  cases o with
  | statistics =>
    show Feeding (resultFailed s)
    unfold resultFailed
    split
    · exact h
    · next w hw => exact h.endResult hw
  | orderUnit => exact h.off (ownerFailed_parts s .orderUnit)
  | status => exact h.off (ownerFailed_parts s .status)
  | store => exact h.off (ownerFailed_parts s .store)

/-! ### Frames -/

/-- After the filling frame is cut no record is FILLING (R31, R41). -/
theorem cutFilling (h : Feeding s) :
    Feeding (cutFilling s) ∧ ∀ c, ((Machine.cutFilling s).record c).state ≠ .filling := by
  unfold Machine.cutFilling
  split
  · next b hb =>
    obtain ⟨inside, filling⟩ := filling?_state hb
    have complete := h.setIdle b (f := (s.record b).cutAt s.partTime) nofun
    have none : ∀ c, ((setRecord b ((s.record b).cutAt s.partTime) s).record c).state ≠ .filling := by
      intro c hc
      rcases record_setRecord_or b c ((s.record b).cutAt s.partTime) s with e | ⟨-, -, e⟩ <;> rw [e] at hc
      · obtain rfl := h.single c b hc filling
        have replaced := record_setRecord s inside ((s.record c).cutAt s.partTime)
        rw [← e, replaced] at hc
        cases hc
      · cases hc
    have frames := cutRecord_frames b s
    refine ⟨?_, fun c => by rw [record_congr frames]; exact none c⟩
    rw [cutRecord_eq]
    have released : Feeding (releaseBank (s.record b).bank (setRecord b ((s.record b).cutAt s.partTime) s)) := by
      unfold releaseBank
      split
      · next id hid =>
        have acc := h.filling b id filling hid
        refine complete.freeBank (fun w hw => ?_) fun c hc => absurd hc (none c)
        exact h.writer_ne (id := id) (by rw [acc]; nofun) hw
      · exact complete
    exact released.off ((latch_changes _ _).trans (setCounters_changes _ _))
  · next none =>
    refine ⟨h, fun c hc => ?_⟩
    have inside : c < s.frames.table.length := by
      by_contra out
      rw [record_state_of_ge (Nat.le_of_not_lt out)] at hc
      cases hc
    have := List.findIdx?_eq_none_iff.mp none (s.record c) (by
      unfold State.record
      rw [List.getD_eq_getElem _ _ inside]
      exact List.getElem_mem inside)
    simp [hc] at this

/-- The record a write goes to is FILLING, or the buffer has no record. -/
def Fed (b : Nat) (s : State) : Prop := (s.record b).state = .filling ∨ s.frames.table.length ≤ b

theorem record_of_ge {b : Nat} (h : s.frames.table.length ≤ b) : s.record b = FrameRecord.empty :=
  List.getD_eq_default _ _ h

/-- A record replaced by one with its state and its bank. -/
theorem setSame_records (b : Nat) {f : FrameRecord} (hs : f.state = (s.record b).state) (hb : f.bank = (s.record b).bank)
    (c : Nat) : ((setRecord b f s).record c).state = (s.record c).state ∧
      ((setRecord b f s).record c).bank = (s.record c).bank := by
  rcases record_setRecord_or b c f s with e | ⟨rfl, -, e⟩ <;> rw [e]
  · exact ⟨rfl, rfl⟩
  · exact ⟨hs, hb⟩

theorem Fed.of_frames {b : Nat} (h : Fed b s) (hf : t.frames = s.frames) : Fed b t := by
  unfold Fed
  rw [record_congr hf, hf]
  exact h

theorem Fed.setRecord {b : Nat} (h : Fed b s) {f : FrameRecord} (hs : f.state = (s.record b).state) :
    Fed b (setRecord b f s) := by
  rcases h with filling | out
  · refine .inl ?_
    rcases record_setRecord_or b b f s with e | ⟨-, -, e⟩ <;> rw [e]
    · exact filling
    · exact hs.trans filling
  · exact .inr (List.length_set.trans_le out)

/-- What is handed on: a frame's ACCUMULATING bank while no record is FILLING, or nothing (R35). -/
def Handing (b : Nat) (s : State) : Prop :=
  (s.record b).bank = none ∨
    (∀ id, (s.record b).bank = some id → (s.bank id).state = .accumulating) ∧ ∀ c, (s.record c).state ≠ .filling

theorem Handing.congr {b : Nat} (h : Handing b s) (hs : t.stats = s.stats)
    (records : ∀ c, (t.record c).state = (s.record c).state ∧ (t.record c).bank = (s.record c).bank) : Handing b t := by
  unfold Handing
  simp only [(records _).1, (records _).2, bank_congr hs]
  exact h

/-- The FILLING record becomes COMPLETE. -/
theorem complete (h : Feeding s) {b : Nat} (fed : Fed b s) {f : FrameRecord} (hs : f.state = .complete)
    (hb : f.bank = (s.record b).bank) : Feeding (setRecord b f s) ∧ Handing b (setRecord b f s) := by
  refine ⟨h.setIdle b (by rw [hs]; nofun), ?_⟩
  have bank : ((setRecord b f s).record b).bank = (s.record b).bank := by
    rcases record_setRecord_or b b f s with e | ⟨-, -, e⟩ <;> rw [e]
    exact hb
  rcases fed with filling | out
  · refine .inr ⟨fun id hid => h.filling b id filling (bank ▸ hid), fun c hc => ?_⟩
    rcases record_setRecord_or b c f s with e | ⟨-, -, e⟩ <;> rw [e] at hc
    · obtain rfl := h.single c b hc filling
      have inside : c < s.frames.table.length := by
        by_contra out
        rw [record_state_of_ge (Nat.le_of_not_lt out)] at hc
        cases hc
      rw [← e, record_setRecord s inside, hs] at hc
      cases hc
    · rw [hs] at hc
      cases hc
  · refine .inl (bank.trans ?_)
    rw [record_of_ge out]
    rfl

theorem crop (h : Feeding s) {b : Nat} (on : Handing b s) (k : Nat) (c : CropResult) :
    Feeding (applyCrop k b c s) ∧ Handing b (applyCrop k b c s) := by
  have stats := (applyCrop_changes s k b c).stats_eq
  have records : ∀ d, ((applyCrop k b c s).record d).state = (s.record d).state ∧
      ((applyCrop k b c s).record d).bank = (s.record d).bank := by
    intro d
    unfold applyCrop
    rw [record_congr (latchIf_changes _ _ _).frames_eq]
    exact setSame_records (s := s) b
      (f := { s.record b with ox := c.ox, oy := c.oy, m := c.m, motionPartial := c.partly }) rfl rfl d
  exact ⟨h.fewer stats fun d hd => ⟨(records d).1 ▸ hd, .inl (records d).2⟩, on.congr stats records⟩

theorem handOnBank (h : Feeding s) {k b : Nat} (on : Handing b s) : Feeding (handOnBank k b s) := by
  unfold Machine.handOnBank
  dsimp only
  split
  · next id hid =>
    rcases on with none | ⟨acc, free⟩
    · rw [none] at hid
      cases hid
    · exact h.handOver _ (acc id hid) free
  · exact h.off (resolveUnmetered_only s).changes

theorem completeFrame (h : Feeding s) {g : Geometry} {k b : Nat} (fed : Fed b s) : Feeding (completeFrame g k b s) := by
  have completed := fun c x => h.complete fed (f := { s.record b with state := .complete, completion := c, short := x }) rfl rfl
  have cropped := fun c x r => (completed c x).1.crop (completed c x).2 k r
  have handed : ∀ u, Feeding u ∧ Handing b u → Feeding (Machine.handOnBank k b (applyFocusAt g b u)) :=
    fun u ⟨hu, on⟩ => by
      have focused : Feeding (applyFocusAt g b u) := hu.setSame b rfl (.inl rfl)
      refine focused.handOnBank (on.congr rfl ?_)
      unfold applyFocusAt
      exact setSame_records b rfl rfl
  exact pins.reportCompletion _ _ (handed _ (cropped _ _ _))

theorem pixelWrite (h : Feeding s) {g : Geometry} {k b : Nat} (o : Nat) (t : HostTransaction) (fed : Fed b s) :
    Feeding (pixelWrite g k b o t s) := by
  have received : ∀ n, Feeding (setRecord b { s.record b with received := n } s) := fun n => h.setSame b rfl (.inl rfl)
  have given := fun n => (received n).giveToBank g o t (s.record b).bank
  have fed' := fun n => (fed.setRecord (f := { s.record b with received := n }) rfl).of_frames
    (giveToBank_changes _ g o t (s.record b).bank).frames_eq
  unfold Machine.pixelWrite
  dsimp only
  split
  · exact (given _).completeFrame (fed' _)
  · exact given _

/-- A frame start with no record FILLING opens one (R28). -/
theorem openRecord (h : Feeding s) (none : ∀ c, (s.record c).state ≠ .filling) (g : Geometry) (b : Nat) (r : RawHeader) :
    Feeding (openRecord g b r s) ∧ Fed b (openRecord g b r s) := by
  have opened : ∀ (v : State) (f : FrameRecord), Feeding v → (∀ c, (v.record c).state ≠ .filling) → f.state = .filling →
      f.bank = .none → Feeding (setRecord b f v) ∧ Fed b (setRecord b f v) := by
    intro v f hv none hs hb
    have only : ∀ c, ((setRecord b f v).record c).state = .filling → c = b ∧ ((setRecord b f v).record c).bank = .none := by
      intro c hc
      rcases record_setRecord_or b c f v with e | ⟨rfl, -, e⟩ <;> rw [e] at hc ⊢
      · exact absurd hc (none c)
      · exact ⟨rfl, hb⟩
    refine ⟨⟨hv.turns, hv.writer, fun c d hc hd => (only c hc).1.trans (only d hd).1.symm, fun c id hc hid => ?_⟩, ?_⟩
    · rw [(only c hc).2] at hid
      cases hid
    · by_cases inside : b < v.frames.table.length
      · exact .inl (by rw [record_setRecord v inside, hs])
      · exact .inr (List.length_set.trans_le (Nat.not_lt.mp inside))
  have replaced : Changes [.store] s (replaceRecord b s) := by
    unfold replaceRecord
    split
    · exact reportReplaced_changes s _ _
    · exact .refl s
  obtain ⟨f, hf⟩ : ∃ f, f = { (replaceRecord b s).openedRecord r (nextNumber (replaceRecord b s).frames.number) with
    focusStill := (replaceRecord b s).focusStood g
      ((replaceRecord b s).openedRecord r (nextNumber (replaceRecord b s).frames.number)) } := ⟨_, rfl⟩
  obtain ⟨feeding, fed⟩ := opened (replaceRecord b s) f (h.off replaced)
    (fun c => by rw [record_congr replaced.frames_eq]; exact none c) (by rw [hf]; rfl) (by rw [hf]; rfl)
  subst hf
  exact ⟨feeding.fewer rfl fun c hc => ⟨hc, .inl rfl⟩, fed⟩

theorem claimBank_fed {b : Nat} (fed : Fed b s) (g : Geometry) : Fed b (Machine.claimBank g b s) := by
  unfold Machine.claimBank
  dsimp only
  split
  · next id _ =>
    exact (fed.setRecord (f := { s.record b with bank := some id }) rfl).of_frames (setBank_changes _ _ _).frames_eq
  · exact fed.setRecord (f := { s.record b with notMetered := true }) rfl

theorem frameStart (h : Feeding s) (g : Geometry) (k : Nat) (t : HostTransaction) : Feeding (frameStart g k t s).1 := by
  unfold Machine.frameStart
  split
  · exact h
  · next u hu =>
    have target : Feeding u := h.fewer (remap_changes s hu).stats_eq fun c hc => by
      have same : u.frames.table = s.frames.table := by
        unfold remap at hu
        dsimp only at hu
        split at hu
        · split at hu <;> cases hu
          rfl
        · cases hu
          rfl
      have : u.record c = s.record c := by
        unfold State.record
        rw [same]
      exact ⟨this ▸ hc, .inl (by rw [this])⟩
    have cut := target.cutFilling
    have opened := cut.1.openRecord cut.2 g (u.phys k) (rawHeader t.data)
    have held := fun n => opened.1.off (applyHeld_changes _ n)
    have fed := fun n => opened.2.of_frames (applyHeld_changes _ n).frames_eq
    exact ((held _).claimBank g _).pixelWrite 0 t (claimBank_fed (fed _) g)

theorem arrive (h : Feeding s) (t : HostTransaction) : Feeding (arrive t s).1 := by
  refine feeding_depends.arriveRaw rfl t h fun w g _ _ => ?_
  unfold offerRawWrite
  split
  · split
    · exact h.frameStart g _ t
    · exact h.off (latchCount_changes s _ _)
  · split
    · next filling => exact h.pixelWrite _ t (.inl filling)
    · exact h.off (latchCount_changes s _ _)
    · exact h.off (latchCount_changes s _ _)
    · exact h

/-! ### Orders -/

/-- A fresh frame table has no FILLING record. -/
theorem fresh (h : Feeding s) (hs : t.stats = s.stats) {g : Geometry} (hf : t.frames = g.freshFrames) : Feeding t := by
  have empty : ∀ c, (t.record c).state = .empty := by
    intro c
    unfold State.record
    rw [hf]
    by_cases hc : c < g.l + g.s
    · simp [Geometry.freshFrames, List.getD_eq_getElem?_getD, hc, FrameRecord.empty]
    · simp [Geometry.freshFrames, List.getD_eq_getElem?_getD, hc, FrameRecord.empty]
  exact h.fewer hs fun c hc => by rw [empty] at hc; cases hc

theorem setupFrames (h : Feeding s) (p : Posted) : Feeding (applySetupFrames p s).1 := by
  unfold applySetupFrames Machine.setupFrames
  dsimp only
  split
  · exact h
  · split
    · exact h
    · exact h.dropWaitingBanks.fresh rfl rfl

theorem start (h : Feeding s) : Feeding (start s) := by
  have frames : Feeding (startFrames s) := by
    unfold startFrames
    split
    · exact h.fresh rfl rfl
    · exact h
  have banks : Feeding (startPools s) := by
    have waiting := frames.off ((changes_partState _ .homing).trans
      (changes_store _ { (startFrames s).store with recent := [] }))
    unfold startPools startBanks
    exact waiting.dropWaitingBanks.sameBanks rfl (fun id => by cases id <;> exact Bank.markStale_state _)
      fun w hw => ⟨w, hw, rfl⟩
  rw [start_eq]
  exact banks.off ((((changes_exposure _ _).trans (changes_steady _ _)).trans (changes_lens _ _)).trans (startLink_changes _))

theorem stop (h : Feeding s) : Feeding (stop s) := by
  have held := h.off ((changes_partState s .parking).trans (cancelHeld_changes { s with partState := .parking }))
  have stopped := pins.stopStore held.cutFilling.1
  exact replies.park _ (stopped.off ((stopFocus_changes _).trans (parkLens_only _).changes))

end Feeding

theorem eventOf_resetN {c : Instr} {f : State → State} (hf : eventOf c = some f) (s : State) :
    (f s).resetN = s.resetN := by
  have aside : (eventParts c).contains .resetN = false := by cases c <;> rfl
  exact (eventOf_changes s hf).resetN_eq (by simpa using aside)

theorem feeding_kept : BlocksKept [.stats, .frames, .resetN] fun s => s.resetN = true → Feeding s where
  blocks := by decide
  depends s t same h hr := by
    have e : t.resetN = s.resetN := same .resetN (by decide)
    exact feeding_depends s t (fun p hp => same p (by revert hp; cases p <;> decide)) (h (e ▸ hr))
  assert s h := nofun
  rise s a _ :=
    { turns := turns_kept.rise s a, writer := nofun
      single := fun b c hb => by cases hb
      filling := fun b id hb => by cases hb }
  event s c f hp ho hf h hr := by
    have before := h ((eventOf_resetN hf s).symm.trans hr)
    cases c
    case evaluationDone => cases hf; exact before.evaluationDone
    case resultWriteDone => cases hf; exact feeding_depends.whenTold rfl (fun _ _ k => k.resultWritten) before
    all_goals first | cases (show true = false from hp) | exact Feeding.replies.event rfl ho hf before | cases ho
  take s o p hp _ h hr := by
    have before := h ((o.take_changes s p).resetN_eq (by cases o <;> decide) ▸ hr)
    cases o
    case setupFrames => exact feeding_depends.answered rfl (before.setupFrames p)
    case start => exact feeding_depends.answered (apply := applyStart) rfl (by rw [applyStart_fst]; exact before.start)
    case stop => exact feeding_depends.answered (apply := applyStop) rfl (by rw [applyStop_fst]; exact before.stop)
    case shoot => exact Feeding.pins.takeShoot p before
    case releaseShot => exact feeding_depends.answered rfl (Feeding.pins.applyReleaseShot p before)
    case closeSlot => exact feeding_depends.answered rfl (Feeding.pins.applyCloseSlot p before)
    all_goals cases (show true = false from hp)
  arrive s t h hr := (h ((arrive_changes s t).resetN_eq ▸ hr)).arrive t
  failed s o h hr := (h ((ownerFailed_changes s o).resetN_eq ▸ hr)).ownerFailed o

end Sys2Proof.Machine
end

section
/-! PROOFS. Each owner has at most one own transaction, and none without having requested it (O57). -/

namespace Sys2Proof.Machine
set_option Elab.async false

variable {s t : State}

/-- Each owner has at most one own transaction outstanding, and none without having requested it (R3). -/
def OneEach (s : State) : Prop := ∀ o, s.port.outstanding o ≤ if s.requested o then 1 else 0

theorem requested_congr (hc : t.orders.carried = s.orders.carried) (hw : t.stats.writer = s.stats.writer)
    (hs : t.status.writing = s.status.writing) (hr : t.store.request = s.store.request) (o : Owner) :
    t.requested o = s.requested o := by
  cases o
  · exact congrArg Option.isSome hc
  · exact congrArg Option.isSome hw
  · exact congrArg Option.isSome hs
  · exact congrArg Option.isSome hr

theorem oneEach_depends : Depends [.port, .carried, .writer, .writing, .request] OneEach := fun s t same h o => by
  rw [requested_congr (same .carried (by decide)) (same .writer (by decide)) (same .writing (by decide))
    (same .request (by decide)), (same .port (by decide) : t.port = s.port)]
  exact h o

/-- An owner's part of the state beside its block: the mark of its request. -/
def Owner.mark : Owner → Part
  | .orderUnit => .carried
  | .statistics => .writer
  | .status => .writing
  | .store => .request

namespace OneEach

theorem off {qs : List Part} (h : OneEach s) (k : Changes qs s t)
    (hq : apart [.port, .carried, .writer, .writing, .request] qs = true := by rfl) : OneEach t :=
  oneEach_depends.of_changes k hq h

/-- The queues and the marks count no less than before. -/
theorem of_le (h : OneEach s) (count : ∀ o, t.port.outstanding o ≤ s.port.outstanding o)
    (marks : ∀ o, t.requested o = s.requested o) : OneEach t := fun o => by
  rw [marks]
  exact (count o).trans (h o)

/-- An owner without a transaction may change its mark. -/
theorem marked (h : OneEach s) {o : Owner} (none : s.port.outstanding o = 0) (hp : t.port = s.port)
    (others : ∀ p, p ≠ o → t.requested p = s.requested p) : OneEach t := fun p => by
  rw [hp]
  by_cases e : p = o
  · rw [e, none]
    exact Nat.zero_le _
  · rw [others p e]
    exact h p

theorem none_of_not_requested (h : OneEach s) {o : Owner} (hr : s.requested o = false) : s.port.outstanding o = 0 := by
  have := h o
  rw [hr] at this
  exact Nat.le_zero.mp this

theorem outstanding_request (o p : Owner) (a : Nat) (d : Direction) (n : Nat) (bs : List Byte) (ms : List Bool) (s : State) :
    (requestOwn o a d n bs ms s).port.outstanding p = s.port.outstanding p + if o = p then 1 else 0 := by
  unfold Port.outstanding requestOwn
  simp only [List.countP_append, List.countP_singleton, beq_iff_eq]
  omega

/-- An owner without a transaction requests one and marks it. -/
theorem requested (h : OneEach s) {o : Owner} (none : s.port.outstanding o = 0) {v : State} (hp : v.port = s.port)
    (mark : v.requested o = true) (others : ∀ p, p ≠ o → v.requested p = s.requested p) (a : Nat) (d : Direction) (n : Nat)
    (bs : List Byte) (ms : List Bool) : OneEach (requestOwn o a d n bs ms v) := fun p => by
  rw [outstanding_request, hp]
  show _ ≤ if v.requested p = true then 1 else 0
  by_cases e : p = o
  · rw [e, none, mark]
    simp
  · rw [others p e, if_neg (Ne.symm e)]
    exact h p

/-- What leaves every mark but an owner's own. -/
theorem others {ps : List Part} {o : Owner} (h : Changes ps s t)
    (hm : ∀ p : Owner, p ≠ o → p.mark ∉ ps := by intro p; cases p <;> decide) :
    ∀ p, p ≠ o → t.requested p = s.requested p := fun p hp => by
  have same := h p.mark (hm p hp)
  cases p <;> exact congrArg Option.isSome same

/-! ### Requests -/

theorem requestAll (h : OneEach s) : OneEach (requestAll s) := by
  have status : ∀ u, OneEach u → OneEach (requestStatus u) := by
    intro u h
    unfold requestStatus
    split
    · next c =>
      have idle : u.requested .status = false := Option.isSome_eq_false_iff.mpr c.1
      refine h.requested (o := .status) (h.none_of_not_requested idle) ?_ ?_ ?_ _ _ _ _ _
      exacts [rfl, rfl, others (changes_status_writing u _)]
    · exact h
  have reply : ∀ u, OneEach u → OneEach (requestReply u) := by
    intro u h
    unfold requestReply
    dsimp only
    split
    · next c _ =>
      have idle : u.requested .orderUnit = false := congrArg Option.isSome c
      refine h.requested (o := .orderUnit) (h.none_of_not_requested idle) ?_ ?_ ?_ _ _ _ _ _
      exacts [rfl, rfl, others (changes_orders_carried u _)]
    · exact h
  have store : ∀ u, OneEach u → OneEach (requestStore u) := by
    intro u h
    unfold requestStore
    split
    · exact h
    · next c =>
      have none := h.none_of_not_requested (o := .store) (Bool.not_eq_true _ ▸ c)
      have mirrored := fun f x => others (o := .store) ((changes_freeCount u f).trans (changes_store_request _ x))
      have work := fun x => others (o := .store) (changes_store_request u x)
      split
      · refine h.requested (o := .store) none ?_ ?_ ?_ _ _ _ _ _
        exacts [rfl, rfl, mirrored _ _]
      · refine h.requested (o := .store) none ?_ ?_ ?_ _ _ _ _ _
        exacts [rfl, rfl, mirrored _ _]
      · split
        · unfold requestCloseWork
          dsimp only
          split
          · refine h.requested (o := .store) none ?_ ?_ ?_ _ _ _ _ _
            exacts [rfl, rfl, work _]
          · refine h.requested (o := .store) none ?_ ?_ ?_ _ _ _ _ _
            exacts [rfl, rfl, work _]
        · exact h
  exact store _ (reply _ (status _ h))

/-! ### The inbound side of the port -/

/-- The queue of own transactions, the one in flight and the ends told are as before. -/
def SameQueues (s t : State) : Prop :=
  t.port.own = s.port.own ∧ t.port.flight = s.port.flight ∧ t.port.told = s.port.told

theorem sameQueues (h : OneEach s) (q : SameQueues s t) (c : Changes [.hostOut, .port] s t) : OneEach t := by
  obtain ⟨own, flight, told⟩ := q
  refine h.of_le (fun o => ?_) fun o =>
    requested_congr (congrArg Orders.carried c.orders_eq) (congrArg Stats.writer c.stats_eq)
      (congrArg StatusUnit.writing c.status_eq) (congrArg Store.request c.store_eq) o
  unfold Port.outstanding
  rw [own, flight, told]

theorem acceptHost_queues (t : HostTransaction) (s : State) : SameQueues s (acceptHost t s) := by
  unfold acceptHost
  split <;> exact ⟨rfl, rfl, rfl⟩

theorem completeHead_queues (st : Status) (data : List Byte) (s : State) : SameQueues s (completeHead st data s) := by
  unfold completeHead
  split <;> exact ⟨rfl, rfl, rfl⟩

theorem endPiece_queues (st : Status) (data : List Byte) (s : State) : SameQueues s (endPiece st data s) := by
  unfold endPiece
  split
  · exact ⟨rfl, rfl, rfl⟩
  · split
    · exact completeHead_queues _ _ _
    · dsimp only
      split
      · exact completeHead_queues _ _ _
      · exact ⟨rfl, rfl, rfl⟩

/-! ### Ends of the owners' transactions -/

/-- An owner that takes what it was told has no transaction outstanding any more. -/
theorem takeTold (h : OneEach s) {o : Owner} {data : List Byte} (ht : takeTold o s = some (data, t)) :
    OneEach t ∧ t.port.outstanding o = 0 := by
  unfold Machine.takeTold at ht
  split at ht
  · cases ht
  · next r hr =>
    cases ht
    have filtered : ∀ p : Owner, (s.port.told.filter fun x => x.owner != o).countP (fun x => x.owner == p) ≤
        s.port.told.countP fun x => x.owner == p := fun p => List.filter_sublist.countP_le
    refine ⟨h.of_le (fun p => Nat.add_le_add_left (filtered p) _) fun _ => rfl, ?_⟩
    have owner := List.find?_some hr
    have told : 0 < s.port.told.countP fun x => x.owner == o :=
      List.countP_pos_iff.mpr ⟨r, List.mem_of_find?_eq_some hr, owner⟩
    have none : (s.port.told.filter fun x => x.owner != o).countP (fun x => x.owner == o) = 0 := by
      rw [List.countP_eq_zero]
      intro x hx
      simpa using (List.mem_filter.mp hx).2
    have one := h o
    unfold Port.outstanding at one ⊢
    dsimp only
    rw [none]
    split at one <;> omega

theorem whenTold (h : OneEach s) {o : Owner} {f : List Byte → State → State}
    (acts : ∀ data u, OneEach u → u.port.outstanding o = 0 → OneEach (f data u)) : OneEach (whenTold o f s) := by
  unfold Machine.whenTold
  split
  · next data t ht =>
    obtain ⟨told, none⟩ := h.takeTold ht
    exact acts data t told none
  · exact h

theorem resultWritten (h : OneEach s) (none : s.port.outstanding .statistics = 0) : OneEach (resultWritten s) := by
  unfold Machine.resultWritten
  split
  · exact h
  · next w _ =>
    split
    · have c := ((changes_stats s { s.stats with newest := some w.entry }).trans (endResult_changes _ w)).trans
        (latch_changes _ .frameDone)
      exact h.marked none c.port_eq (others c)
    · refine h.requested (o := .statistics) none ?_ ?_ ?_ _ _ _ _ _
      exacts [rfl, rfl, others (changes_stats_writer s _)]

theorem mark_not_mem_parts (o p : Owner) (h : p ≠ o) : p.mark ∉ o.parts := by
  revert h
  cases o <;> cases p <;> decide

/-- A failed transaction leaves its owner without one. -/
theorem ownerFailed (h : OneEach s) {o : Owner} (none : s.port.outstanding o = 0) : OneEach (ownerFailed o s) := by
  have c := ownerFailed_parts s o
  exact h.marked none (c.port_eq (by cases o <;> decide)) (others c (mark_not_mem_parts o))

theorem evaluationDone (h : OneEach s) (feeding : Feeding s) : OneEach (evaluationDone s) := by
  unfold Machine.evaluationDone
  split
  · exact h
  · next id hid =>
    split
    · obtain ⟨v, bytes, c, e⟩ := evaluate_begins id (s.bank id) _ s
      rw [e]
      have before : OneEach v := h.off c
      have none : s.port.outstanding .statistics = 0 :=
        h.none_of_not_requested (congrArg Option.isSome (feeding.no_writer hid))
      refine before.requested (o := .statistics) (by rw [c.port_eq]; exact none) ?_ ?_ ?_ _ _ _ _ _
      exacts [rfl, rfl, others (changes_stats_writer v _)]
    · exact h

theorem event {c : Instr} {f : State → State} (hf : eventOf c = some f) (h : OneEach s) (feeding : Feeding s) :
    OneEach (f s) := by
  have cleared : ∀ {ps : List Part} {g : List Byte → State → State}, (∀ data u, Changes ps u (g data u)) →
      ps ⊆ [.store, .request] → OneEach (Machine.whenTold .store g s) := fun k hp => h.whenTold fun data u hu none =>
    have c := (k data u).mono hp
    hu.marked none c.port_eq (others c)
  cases c
  case hostTransactionAccept t =>
    cases hf
    exact h.sameQueues (acceptHost_queues t s) (acceptHost_changes s t)
  case evaluationDone => cases hf; exact h.evaluationDone feeding
  case resultWriteDone => cases hf; exact h.whenTold fun _ u hu none => hu.resultWritten none
  case replyWriteDone =>
    cases hf
    exact h.whenTold fun _ u hu none => hu.marked none (replyWritten_changes u).port_eq (others (replyWritten_changes u))
  case statusRewriteDone =>
    cases hf
    exact h.whenTold fun _ u hu none => hu.marked none (statusWritten_changes u).port_eq (others (statusWritten_changes u))
  case readBackPieceDone =>
    cases hf
    unfold pieceRead
    split
    · exact cleared (fun data u => pieceDone_changes u data) (by decide)
    · exact h
  case trailerWriteDone =>
    cases hf
    unfold trailerWritten
    split
    · exact cleared (fun _ u => trailerDone_changes u _) (by decide)
    · exact h
  case mirrorWriteDone =>
    cases hf
    unfold mirrorWritten
    split
    · exact cleared (fun _ u => changes_store_request u _) (by decide)
    · exact cleared (fun _ u => changes_store_request u _) (by decide)
    · exact h
  case arbiterTurn => cases hf
  case memoryCompletion => cases hf
  case memoryTimeout => cases hf
  case resetNAssert => cases hf
  case resetNRise => cases hf
  all_goals exact h.off (eventOf_changes s hf)

/-! ### The turns and ends of the port -/

/-- An issue that takes the place of nothing, or of the head of the own queue. -/
theorem carryOut (h : OneEach s) (t : HostTransaction) (hd : Handling) :
    OneEach (carryOut t hd s).1 := by
  have issued : ∀ {v : State}, v.port.own = s.port.own → v.port.told = s.port.told →
      (∀ x, v.port.flight = some x → ∀ o, x.kind ≠ .own o) → (∀ o, v.requested o = s.requested o) → OneEach v := by
    intro v own told host marks
    refine h.of_le (fun o => ?_) marks
    have none : v.port.flight.toList.countP (fun x => x.kind == .own o) = 0 := by
      cases hv : v.port.flight with
      | none => rfl
      | some x => simpa using host x hv o
    unfold Port.outstanding
    rw [own, told, none]
    omega
  unfold Machine.carryOut
  split
  · exact issued rfl rfl (fun x hx o => by cases hx; nofun) fun _ => rfl
  · exact h.sameQueues (completeHead_queues _ _ s) (completeHead_changes s _ _)
  · exact issued rfl rfl (fun x hx o => by cases hx; nofun) fun _ => rfl
  · exact h.sameQueues (completeHead_queues _ _ s) (completeHead_changes s _ _)

theorem issuePiece (h : OneEach s) (v : ViewRead) (p : Piece) (ps : List Piece) : OneEach (issuePiece v p ps s) := by
  refine h.of_le (fun o => ?_) fun _ => rfl
  have none : (Machine.issuePiece v p ps s).port.flight.toList.countP (fun x => x.kind == .own o) = 0 := rfl
  unfold Port.outstanding
  rw [none]
  exact Nat.add_le_add_right (Nat.le_add_right _ _) _

theorem issueOwn (h : OneEach s) {x : OwnTransaction} {rest : List OwnTransaction} (hf : s.port.flight = none)
    (hq : s.port.own = x :: rest) : OneEach (issueOwn x rest s) := by
  refine h.of_le (fun o => ?_) fun _ => rfl
  unfold Port.outstanding
  rw [hq, hf]
  by_cases e : x.owner = o
  · simp [Machine.issueOwn, issue, setPort, e]
  · simp [Machine.issueOwn, issue, setPort, e]

/-- The end of the transaction in flight (R3, R17, R18). -/
theorem endFlight (h : OneEach s) {x : Flight} (hf : s.port.flight = some x) (st : Status) (data : List Byte) :
    OneEach (endFlight x st data s) := by
  have count : ∀ p : Owner, s.port.outstanding p =
      (setPort { s.port with flight := none } s).port.outstanding p + if x.kind = .own p then 1 else 0 := by
    intro p
    unfold Port.outstanding setPort
    rw [hf]
    simp only [Option.toList_some, Option.toList_none, List.countP_singleton, List.countP_nil, beq_iff_eq]
    omega
  have idle : OneEach (setPort { s.port with flight := none } s) :=
    h.of_le (fun p => by rw [count p]; exact Nat.le_add_right _ _) fun _ => rfl
  unfold Machine.endFlight
  dsimp only
  split
  · next picture _ =>
    have reported := idle.off (reportPicture_changes (setPort { s.port with flight := none } s) x picture st data)
    exact reported.sameQueues (completeHead_queues _ _ _) (completeHead_changes _ _ _)
  · exact idle.sameQueues (endPiece_queues _ _ _) (endPiece_changes _ _ _)
  · next o hk =>
    unfold endOwn
    split
    · refine h.of_le (fun p => ?_) fun _ => rfl
      rw [count p]
      unfold Port.outstanding setPort
      simp only [List.countP_append, List.countP_singleton, hk, beq_iff_eq, FlightKind.own.injEq]
      omega
    · refine idle.ownerFailed ?_
      have one := h o
      rw [count o, hk, if_pos rfl] at one
      split at one <;> omega

end OneEach

/-! ### Together -/

/-- What the banks and records keep beside the requests, whether RESET_N is high or low. -/
structure BanksWait (s : State) : Prop where
  writer  : ∀ w, s.stats.writer = some w → (s.bank w.bank).state = .writing
  turns   : BanksTakeTurns s
  single  : ∀ b c, (s.record b).state = .filling → (s.record c).state = .filling → b = c
  filling : s.resetN = true → ∀ b id, (s.record b).state = .filling → (s.record b).bank = some id →
    (s.bank id).state = .accumulating

theorem ownersWait_iff (s : State) : OwnersWait s ↔ OneEach s ∧ BanksWait s :=
  ⟨fun h => ⟨h.one, { h with }⟩, fun ⟨one, banks⟩ => { banks with one := one }⟩

theorem BanksWait.feeding (h : BanksWait s) (hr : s.resetN = true) : Feeding s := { h with filling := h.filling hr }

theorem Feeding.banksWait (h : Feeding s) : BanksWait s := { h with filling := fun _ => h.filling }

theorem BanksWait.off {qs : List Part} (h : BanksWait s) (k : Changes qs s t)
    (hq : apart [.stats, .frames, .resetN] qs = true := by rfl) : BanksWait t := by
  have same : ∀ p ∈ [Part.stats, .frames, .resetN], SamePart s t p := fun p hp =>
    k p (by simpa using List.all_eq_true.mp hq p hp)
  have hs : t.stats = s.stats := same .stats (by decide)
  have hf : t.frames = s.frames := same .frames (by decide)
  have hr : t.resetN = s.resetN := same .resetN (by decide)
  constructor
  · rw [hs]
    simpa only [bank_congr hs] using h.writer
  · exact turns_of_states h.turns fun id => congrArg Bank.state (bank_congr hs id)
  · simpa only [record_congr hf] using h.single
  · rw [hr]
    simpa only [record_congr hf, bank_congr hs] using h.filling

theorem owners_turns : TurnKept OwnersWait where
  request s h := by
    obtain ⟨one, banks⟩ := (ownersWait_iff s).mp h
    exact (ownersWait_iff _).mpr ⟨one.requestAll, banks.off (requestAll_changes s)⟩
  dirty s h := by
    obtain ⟨one, banks⟩ := (ownersWait_iff s).mp h
    exact (ownersWait_iff _).mpr ⟨one.off (changes_status s _), banks.off (changes_status s _)⟩
  arrive s t hr h := by
    obtain ⟨one, banks⟩ := (ownersWait_iff s).mp h
    exact (ownersWait_iff _).mpr ⟨one.off (arrive_changes s t), ((banks.feeding hr).arrive t).banksWait⟩
  carry s t hd _ h := by
    obtain ⟨one, banks⟩ := (ownersWait_iff s).mp h
    exact (ownersWait_iff _).mpr ⟨one.carryOut t hd, banks.off (carryOut_changes s t hd)⟩
  own s x rest hf hq h := by
    obtain ⟨one, banks⟩ := (ownersWait_iff s).mp h
    exact (ownersWait_iff _).mpr ⟨one.issueOwn hf hq, banks.off ((changes_port s _).andThen (changes_port _ _))⟩
  piece s v p ps hf h := by
    obtain ⟨one, banks⟩ := (ownersWait_iff s).mp h
    exact (ownersWait_iff _).mpr ⟨one.issuePiece v p ps, banks.off ((changes_port s _).andThen (changes_port _ _))⟩

theorem owners_kept : Kept OwnersWait where
  toTurnKept := owners_turns
  pending s l h := { h with }
  time s t h := { h with }
  assert s h := by
    refine { one := fun o => ?_, writer := nofun, turns := turns_kept.assert s h.turns, single := h.single, filling := nofun }
    cases o <;> exact Nat.le_refl 0
  rise s a h := by
    refine { one := fun o => ?_, writer := nofun, turns := turns_kept.rise s a, single := fun b c hb => by cases hb
             filling := fun _ b id hb => by cases hb }
    cases o <;> exact Nat.zero_le _
  event s c f hf hr h := by
    obtain ⟨one, banks⟩ := (ownersWait_iff s).mp h
    have feeding := banks.feeding hr
    have after := feeding_kept.kept.event s c f hf hr fun _ => feeding
    exact (ownersWait_iff _).mpr ⟨one.event hf feeding, (after ((eventOf_resetN hf s).trans hr)).banksWait⟩
  header s x r h := by
    obtain ⟨one, banks⟩ := (ownersWait_iff s).mp h
    exact (ownersWait_iff _).mpr ⟨one.off (headerComesIn_changes s x r), banks.off (headerComesIn_changes s x r)⟩
  ended s x st data hf hr h := by
    obtain ⟨one, banks⟩ := (ownersWait_iff s).mp h
    have after := feeding_kept.kept.ended s x st data hf hr fun _ => banks.feeding hr
    exact (ownersWait_iff _).mpr
      ⟨one.endFlight hf st data, (after ((endFlight_changes s x st data).resetN_eq.trans hr)).banksWait⟩
  late s h := by
    obtain ⟨one, banks⟩ := (ownersWait_iff s).mp h
    exact (ownersWait_iff _).mpr ⟨one.off (changes_status s _), banks.off (changes_status s _)⟩

/-- The own queue is as long as the owners' shares of it. -/
theorem own_length (l : List OwnTransaction) : l.length = l.countP (fun x => x.owner == .orderUnit) +
    l.countP (fun x => x.owner == .statistics) + l.countP (fun x => x.owner == .status) +
    l.countP (fun x => x.owner == .store) := by
  induction l with
  | nil => rfl
  | cons x l ih =>
    simp only [List.length_cons, List.countP_cons, ih]
    cases x.owner <;> simp <;> omega

/-- Settles O57: an owner requests only when it has nothing requested, and acts on, or is told of, each end of its
transaction before it requests again. -/
theorem stepKeepsSizes : Obligations.StepKeepsSizes := by
  refine ⟨fun s t => step_keeps_sizes, fun s t => owners_kept.step, fun s h => ?_⟩
  have share : ∀ o, s.port.own.countP (fun x => x.owner == o) ≤ 1 := by
    intro o
    have one := h.one o
    unfold Port.outstanding at one
    split at one <;> omega
  have length := own_length s.port.own
  have a := share .orderUnit
  have b := share .statistics
  have c := share .status
  have d := share .store
  omega

end Sys2Proof.Machine
end

section
/-! PROOFS. Choosing a frame for the SHOOT in flight: the look-back, the look-ahead and the choice (O48). -/

namespace Sys2Proof.Machine
set_option Elab.async false

variable {s t : State}

/-! ### The end of the SHOOT in flight -/

theorem endShoot_image {h : Held} (hf : s.orders.hold.find? Held.shoot = some h) (a : Answer) :
    (endShoot a s).orders.image = s.orders.image.set h.order.slot (replyBytes h.order a h.order.aligned false) := by
  unfold endShoot
  dsimp only
  rw [hf]
  rfl

/-- The SHOOT in flight ends with NO_FRAME (R162). -/
theorem noFrame_of_endShoot (s : State) : NoFrameChosen s (endShoot (plainAnswer .noFrame) s) := by
  obtain ⟨-, hold, -, store⟩ := endShoot_orders (plainAnswer .noFrame) s
  have c := endShoot_changes s (plainAnswer .noFrame)
  exact ⟨⟨c.frames_eq, by rw [store], by rw [store], by rw [store], c.status_eq⟩, ⟨by rw [store], hold⟩,
    fun h hf => endShoot_image hf _⟩

/-! ### The choice -/

theorem qualifies_iff (f : FrameRecord) (number : Nat) (needFocus : Bool) :
    f.qualifies number needFocus = true ↔ Qualifies f number needFocus := by
  have locked : (f.atCompletion.any fun x => x.1 == .locked) = true ↔ ∃ d, f.atCompletion = some (.locked, d) := by
    cases h : f.atCompletion with
    | none => simp
    | some x => simp [Prod.ext_iff]
  unfold FrameRecord.qualifies FrameRecord.pinnable Qualifies
  simp only [Bool.and_eq_true, Bool.or_eq_true, Bool.not_eq_true', beq_iff_eq, locked, and_assoc]
  cases needFocus <;> simp

/-- The state with the record of a buffer PINNED and the buffer off the free list (R37). -/
def State.pinnedAt (s : State) (b : Nat) : State :=
  setFree (s.frames.free.filter (· != b)) (setRecord b { s.record b with state := .pinned } s)

/-- The shot of a choice (R155, R163). -/
def State.newShot (s : State) (b j : Nat) : Shot :=
  { id := s.store.nextId, buffer := b, slot := j, snapshot := (s.record b).snapshot
    ppd16 := s.interp Knot.ppd16 (s.record b).zoomPos }

section
variable {x : Inflight} {number b e j : Nat} {needFocus : Bool}

/-- A choice with a qualifying frame, a FREE slot and an empty entry (R163). -/
theorem choose_eq (q : Qualifies (s.record b) number needFocus) (he : s.store.shots.findIdx? Option.isNone = some e)
    (hj : s.store.slots.findIdx? (fun y => y.state == .free) = some j) :
    choose x number b s =
      latch .shotDone (latchStoreLow s (endShoot (chosenAnswer x (s.newShot b j))
        (reserve e j (s.newShot b j) (s.pinnedAt b)))) := by
  have pinned : pin b number s = some (s.pinnedAt b) := by
    obtain ⟨state, num, cut, metered, -⟩ := q
    simp [pin, FrameRecord.pinnable, state, num, cut, metered, State.pinnedAt]
  simp only [choose, pinned, he, hj]
  rfl

/-- A frame that qualifies has a record in the table. -/
theorem Qualifies.inside (q : Qualifies (s.record b) number needFocus) : b < s.frames.table.length := by
  by_contra out
  have := q.1
  rw [record_state_of_ge (Nat.le_of_not_lt out)] at this
  cases this

theorem pinnedAt_frames (inside : b < s.frames.table.length) :
    ((s.pinnedAt b).record b).state = .pinned ∧ b ∉ (s.pinnedAt b).frames.free ∧
      (s.pinnedAt b).frames.map = s.frames.map := by
  refine ⟨?_, ?_, rfl⟩
  · have replaced := record_setRecord s inside { s.record b with state := .pinned }
    exact congrArg FrameRecord.state replaced
  · show b ∉ s.frames.free.filter (· != b)
    simp

/-- A choice leaves the SHOOT's reply, the shot's entry, its slot and its pinned buffer (R163). -/
theorem choose_spec (q : Qualifies (s.record b) number needFocus) (he : s.store.shots.findIdx? Option.isNone = some e)
    (hj : s.store.slots.findIdx? (fun y => y.state == .free) = some j) :
    (choose x number b s).frames = (s.pinnedAt b).frames ∧
    (choose x number b s).store.shots = s.store.shots.set e (some (s.newShot b j)) ∧
    (choose x number b s).store.slots =
      s.store.slots.set j { Slot.freed with state := .reserved, shotId := some (s.newShot b j).id } ∧
    (choose x number b s).store.lastId = (s.newShot b j).id ∧ (choose x number b s).store.inflight = none ∧
    (choose x number b s).orders.hold = s.orders.hold.filter (fun h => !h.shoot) ∧
    (choose x number b s).status.latched.getLsbD LatchedBit.shotDone.index = true ∧
    ∀ h, s.orders.hold.find? Held.shoot = some h → (choose x number b s).orders.image =
      s.orders.image.set h.order.slot (replyBytes h.order (chosenAnswer x (s.newShot b j)) h.order.aligned false) := by
  obtain ⟨v, hv⟩ : ∃ v, v = reserve e j (s.newShot b j) (s.pinnedAt b) := ⟨_, rfl⟩
  obtain ⟨w, hw⟩ : ∃ w, w = endShoot (chosenAnswer x (s.newShot b j)) v := ⟨_, rfl⟩
  obtain ⟨-, hold, -, store⟩ := endShoot_orders (chosenAnswer x (s.newShot b j)) v
  rw [choose_eq q he hj, ← hv, ← hw]
  have latched := (latchIf_changes w (w.storeLow && !s.storeLow) .storeLow).trans (latch_changes _ .shotDone)
  have frames : w.frames = (s.pinnedAt b).frames := by
    rw [hw, (endShoot_changes v _).frames_eq, hv]
    rfl
  rw [← hw] at hold store
  refine ⟨latched.frames_eq.trans frames, ?_, ?_, ?_, ?_, ?_, latch_bit _ _, fun h hf => ?_⟩
  · exact (congrArg Store.shots (latched.store_eq.trans store)).trans (by rw [hv]; rfl)
  · exact (congrArg Store.slots (latched.store_eq.trans store)).trans (by rw [hv]; rfl)
  · exact (congrArg Store.lastId (latched.store_eq.trans store)).trans (by rw [hv]; rfl)
  · exact congrArg Store.inflight (latched.store_eq.trans store)
  · exact (congrArg Orders.hold latched.orders_eq).trans (hold.trans (by rw [hv]; rfl))
  · refine (congrArg Orders.image latched.orders_eq).trans ?_
    rw [hw, endShoot_image (s := v) (h := h) (by rw [hv]; exact hf), hv]
    rfl

/-- A qualifying frame is chosen (R163). -/
theorem frameChosen_of_choose (q : Qualifies (s.record b) number needFocus)
    (he : s.store.shots.findIdx? Option.isNone = some e)
    (hj : s.store.slots.findIdx? (fun y => y.state == .free) = some j) :
    FrameChosen s (choose x number b s) number b e j := by
  obtain ⟨frames, shots, slots, lastId, inflight, hold, done, -⟩ := choose_spec (x := x) q he hj
  obtain ⟨pinned, free, map⟩ := pinnedAt_frames (s := s) q.inside
  refine ⟨⟨?_, ?_, ?_⟩, ⟨s.newShot b j, shots, slots, rfl, rfl, rfl, rfl, q.2.1, rfl, lastId⟩, inflight, hold, done⟩
  · rw [record_congr frames]
    exact pinned
  · rw [frames]
    exact free
  · rw [frames]
    exact map

end

/-! ### What the choice leaves -/

theorem endShoot_store (a : Answer) (s : State) : (endShoot a s).store = { s.store with inflight := none } :=
  (endShoot_orders a s).2.2.2

theorem choose_recent (x : Inflight) (number b : Nat) (s : State) :
    (choose x number b s).store.recent = s.store.recent ∧ (choose x number b s).store.inflight = none := by
  unfold choose
  dsimp only
  split
  · next u j e hu _ _ =>
    obtain ⟨-, -, -, -, rfl⟩ := pin_some _ hu
    have latched := fun w c => ((latchIf_changes w c .storeLow).trans (latch_changes _ .shotDone)).store_eq
    unfold latchStoreLow
    rw [latched, endShoot_store]
    exact ⟨rfl, rfl⟩
  · rw [endShoot_store]
    exact ⟨rfl, rfl⟩

/-- With no SHOOT in flight nothing is decided. -/
theorem decideIfOver_idle (h : s.store.inflight = none) : decideIfOver s = s := by
  unfold decideIfOver
  rw [h]

/-- The candidates after a frame has been tested and was not chosen (R160). -/
def Inflight.tested (x : Inflight) (f : FrameRecord) (number b : Nat) : Inflight :=
  if f.qualifies number x.needFocus = true then
    { x with candidates := x.candidates ++ [{ number := number, buffer := b, m := f.m }] }
  else x

theorem testFrame_quiet {x : Inflight} {number b : Nat} (hx : s.store.inflight = some x)
    (q : Qualifies (s.record b) number x.needFocus) (hm : (s.record b).m ≤ x.q) :
    testFrame s number b = choose x number b s := by
  unfold testFrame
  simp only [hx]
  rw [if_pos ((qualifies_iff _ _ _).mpr q), if_pos hm]

theorem testFrame_other {x : Inflight} {number b : Nat} (hx : s.store.inflight = some x)
    (h : ¬(Qualifies (s.record b) number x.needFocus ∧ (s.record b).m ≤ x.q)) :
    testFrame s number b = setStore { s.store with inflight := some (x.tested (s.record b) number b) } s := by
  unfold testFrame Inflight.tested
  simp only [hx]
  by_cases q : (s.record b).qualifies number x.needFocus = true
  · rw [if_pos q, if_pos q, if_neg fun hm => h ⟨(qualifies_iff _ _ _).mp q, hm⟩]
  · rw [if_neg q, if_neg q, ← hx]
    rfl

/-- The least figure, the newest among equals (R162). -/
theorem bestCandidate_eq {pre post : List Candidate} {c : Candidate} (before : ∀ y ∈ pre, c.m ≤ y.m)
    (after : ∀ y ∈ post, c.m < y.m) : bestCandidate (pre ++ c :: post) = some c := by
  have keeps : ∀ l : List Candidate, (∀ y ∈ l, c.m < y.m) → l.foldl (fun b x => if x.m ≤ b.m then x else b) c = c := by
    intro l
    induction l with
    | nil => exact fun _ => rfl
    | cons y l ih =>
      intro h
      rw [List.foldl_cons, if_neg (Nat.not_le.mpr (h y (List.mem_cons_self ..)))]
      exact ih fun z hz => h z (List.mem_cons_of_mem _ hz)
  cases pre with
  | nil => exact congrArg some (keeps post after)
  | cons p ps =>
    have floor : ∀ (l : List Candidate) (b : Candidate), c.m ≤ b.m → (∀ y ∈ l, c.m ≤ y.m) →
        c.m ≤ (l.foldl (fun b x => if x.m ≤ b.m then x else b) b).m := by
      intro l
      induction l with
      | nil => exact fun b hb _ => hb
      | cons y l ih =>
        intro b hb h
        refine ih _ ?_ fun z hz => h z (List.mem_cons_of_mem _ hz)
        dsimp only
        split
        · exact h y (List.mem_cons_self ..)
        · exact hb
    show some (List.foldl _ p (ps ++ c :: post)) = some c
    rw [List.foldl_append, List.foldl_cons,
      if_pos (floor ps p (before p (List.mem_cons_self ..)) fun y hy => before y (List.mem_cons_of_mem _ hy)),
      keeps post after]

/-! ### The look-ahead and the look-back -/

/-- The state with these recent completions and this SHOOT in flight. -/
def State.asking (s : State) (r : List Recent) (y : Inflight) : State :=
  setStore { s.store with recent := r, inflight := some y } s

/-- The recent completions after one more (R156). -/
def Store.completed (st : Store) (number b : Nat) : List Recent := ({ number := number, buffer := b } :: st.recent).take 7

/-- At a completion of the look-ahead (R156, R160). -/
theorem reportCompletion_eq {x : Inflight} (hx : s.store.inflight = some x) (number b : Nat) :
    reportCompletion number b s =
      decideIfOver (testFrame (s.asking (s.store.completed number b) { x with ahead := x.ahead + 1 }) number b) := by
  have h : (setStore { s.store with recent := ({ number := number, buffer := b } :: s.store.recent).take 7 } s).store.inflight =
      some x := hx
  simp only [reportCompletion, lookAhead, h]
  rfl

theorem asking_tested {r : List Recent} {y : Inflight} {number b : Nat}
    (h : ¬(Qualifies (s.record b) number y.needFocus ∧ (s.record b).m ≤ y.q)) :
    testFrame (s.asking r y) number b = s.asking r (y.tested (s.record b) number b) :=
  testFrame_other (s := s.asking r y) (x := y) rfl h

theorem asking_decided (s : State) (r : List Recent) (y : Inflight) :
    decideIfOver (s.asking r y) = if y.f ≤ y.ahead then decideShoot y (s.asking r y) else s.asking r y := rfl

theorem decideIfOver_recent (s : State) : (decideIfOver s).store.recent = s.store.recent := by
  unfold decideIfOver decideShoot
  split
  · split
    · split
      · split
        · exact (choose_recent _ _ _ s).1
        · rw [endShoot_store]
      · rw [endShoot_store]
    · rfl
  · rfl

theorem testFrame_recent (number b : Nat) (s : State) : (testFrame s number b).store.recent = s.store.recent := by
  unfold testFrame
  split
  · rfl
  · dsimp only
    split
    · split
      · exact (choose_recent _ _ _ s).1
      · rfl
    · rfl

theorem reportCompletion_recent (number b : Nat) (s : State) :
    (reportCompletion number b s).store.recent = ({ number := number, buffer := b } :: s.store.recent).take 7 := by
  unfold reportCompletion lookAhead
  split
  · rfl
  · rw [decideIfOver_recent, testFrame_recent]
    rfl

/-- What is chosen after a test is chosen from the state before: the Store's own lists are as they were. -/
theorem FrameChosen.of_asking {r : List Recent} {y : Inflight} {number b e j : Nat}
    (h : FrameChosen (s.asking r y) t number b e j) : FrameChosen s t number b e j := ⟨h.pinned, h.shot, h.done⟩

theorem NoFrameChosen.of_asking {r : List Recent} {y : Inflight} (h : NoFrameChosen (s.asking r y) t) : NoFrameChosen s t :=
  ⟨h.kept, h.done, h.reply⟩

/-- A completion of the look-ahead that finds no quiet frame: decided over the candidates at its end (R160, R162). -/
theorem reportCompletion_other {x : Inflight} {number b : Nat} (hx : s.store.inflight = some x)
    (h : ¬(Qualifies (s.record b) number x.needFocus ∧ (s.record b).m ≤ x.q)) :
    ∃ y, y = { x with ahead := x.ahead + 1, candidates := (x.tested (s.record b) number b).candidates } ∧
      reportCompletion number b s =
        if x.f ≤ x.ahead + 1 then decideShoot y (s.asking (s.store.completed number b) y)
        else s.asking (s.store.completed number b) y := by
  refine ⟨_, rfl, ?_⟩
  rw [reportCompletion_eq hx, asking_tested (y := { x with ahead := x.ahead + 1 }) h]
  have same : Inflight.tested { x with ahead := x.ahead + 1 } (s.record b) number b =
      { x with ahead := x.ahead + 1, candidates := (x.tested (s.record b) number b).candidates } := by
    unfold Inflight.tested
    dsimp only
    split <;> rfl
  rw [same, asking_decided]

theorem tested_candidates {x : Inflight} {f : FrameRecord} {number b : Nat} {new : List Candidate}
    (hq : Qualifies f number x.needFocus → new = x.candidates ++ [{ number := number, buffer := b, m := f.m }])
    (hn : ¬Qualifies f number x.needFocus → new = x.candidates) : (x.tested f number b).candidates = new := by
  unfold Inflight.tested
  by_cases q : f.qualifies number x.needFocus = true
  · rw [if_pos q, hq ((qualifies_iff _ _ _).mp q)]
  · rw [if_neg q, hn (fun k => q ((qualifies_iff _ _ _).mpr k))]

/-- The second part of O48: what a completion makes of the SHOOT in flight. -/
theorem reportCompletion_decides (number b : Nat) {x : Inflight} {new : List Candidate} (hx : s.store.inflight = some x)
    (hq : Qualifies (s.record b) number x.needFocus →
      new = x.candidates ++ [{ number := number, buffer := b, m := (s.record b).m }])
    (hn : ¬Qualifies (s.record b) number x.needFocus → new = x.candidates) {e j : Nat}
    (he : s.store.shots.findIdx? Option.isNone = some e)
    (hj : s.store.slots.findIdx? (fun y => y.state == .free) = some j) :
    (Qualifies (s.record b) number x.needFocus → (s.record b).m ≤ x.q →
      FrameChosen s (reportCompletion number b s) number b e j) ∧
    (¬(Qualifies (s.record b) number x.needFocus ∧ (s.record b).m ≤ x.q) → x.f ≤ x.ahead + 1 →
      ∀ pre c post, new = pre ++ c :: post → (∀ y ∈ pre, c.m ≤ y.m) → (∀ y ∈ post, c.m < y.m) →
        (Qualifies (s.record c.buffer) c.number x.needFocus →
          FrameChosen s (reportCompletion number b s) c.number c.buffer e j) ∧
        (¬Qualifies (s.record c.buffer) c.number x.needFocus → NoFrameChosen s (reportCompletion number b s))) := by
  refine ⟨fun q hm => ?_, fun h last pre c post split' before after => ?_⟩
  · rw [reportCompletion_eq hx,
      testFrame_quiet (s := s.asking _ _) (x := { x with ahead := x.ahead + 1 }) rfl q hm,
      decideIfOver_idle (choose_recent _ _ _ _).2]
    exact (frameChosen_of_choose (s := s.asking _ _) (needFocus := x.needFocus) q he hj).of_asking
  · obtain ⟨y, hy, run⟩ := reportCompletion_other hx h
    have best : bestCandidate y.candidates = some c := by
      rw [hy]
      dsimp only
      rw [tested_candidates hq hn, split', bestCandidate_eq before after]
    have needs : y.needFocus = x.needFocus := by rw [hy]
    rw [run, if_pos last]
    unfold decideShoot
    rw [best]
    dsimp only
    have record : ∀ r, (s.asking r y).record c.buffer = s.record c.buffer := fun _ => rfl
    rw [record, needs]
    refine ⟨fun q => ?_, fun q => ?_⟩
    · rw [if_pos ((qualifies_iff _ _ _).mpr q)]
      exact (frameChosen_of_choose (s := s.asking _ _) (needFocus := x.needFocus) q he hj).of_asking
    · rw [if_neg fun k => q ((qualifies_iff _ _ _).mp k)]
      exact (noFrame_of_endShoot _).of_asking

/-- A frame that is replaced leaves the candidates (R161). -/
theorem reportReplaced_eq {x : Inflight} (hx : s.store.inflight = some x) (number b : Nat) :
    reportReplaced number b s =
      { s with
        store :=
          { s.store with
            inflight := some
              { x with candidates := x.candidates.filter fun c => decide (c.number ≠ number ∨ c.buffer ≠ b) } } } := by
  have same : (fun c : Candidate => !(c.number == number && c.buffer == b)) =
      fun c => decide (c.number ≠ number ∨ c.buffer ≠ b) := by
    funext c
    by_cases hn : c.number = number <;> by_cases hb : c.buffer = b <;> simp [hn, hb]
  simp only [reportReplaced, hx, same]
  rfl

/-- The third part of O48. -/
theorem reportCompletion_shoots (number b : Nat) (s : State) :
    (reportCompletion number b s).store.recent = ({ number := number, buffer := b } :: s.store.recent).take 7 ∧
    (s.store.inflight = none → reportCompletion number b s =
      { s with store := { s.store with recent := (reportCompletion number b s).store.recent } }) := by
  refine ⟨reportCompletion_recent number b s, fun none => ?_⟩
  rw [reportCompletion_recent]
  have h : (setStore { s.store with recent := ({ number := number, buffer := b } :: s.store.recent).take 7 } s).store.inflight =
      .none := none
  simp only [reportCompletion, lookAhead, h]
  rfl

theorem reportCompletion_waits {number b : Nat} {x : Inflight} {new : List Candidate} (hx : s.store.inflight = some x)
    (hq : Qualifies (s.record b) number x.needFocus →
      new = x.candidates ++ [{ number := number, buffer := b, m := (s.record b).m }])
    (hn : ¬Qualifies (s.record b) number x.needFocus → new = x.candidates)
    (h : ¬(Qualifies (s.record b) number x.needFocus ∧ (s.record b).m ≤ x.q)) :
    (x.ahead + 1 < x.f → reportCompletion number b s =
      { s with
        store :=
          { s.store with
            recent := (reportCompletion number b s).store.recent
            inflight := some { x with ahead := x.ahead + 1, candidates := new } } }) ∧
    (x.f ≤ x.ahead + 1 → new = [] → NoFrameChosen s (reportCompletion number b s)) := by
  obtain ⟨y, hy, run⟩ := reportCompletion_other hx h
  have cands := tested_candidates hq hn
  refine ⟨fun early => ?_, fun last empty => ?_⟩
  · rw [reportCompletion_recent, run, if_neg (Nat.not_le.mpr early), hy, cands]
    rfl
  · rw [run, if_pos last]
    unfold decideShoot
    have best : bestCandidate y.candidates = none := by
      rw [hy]
      dsimp only
      rw [cands, empty]
      rfl
    rw [best]
    exact (noFrame_of_endShoot _).of_asking

end Sys2Proof.Machine
end

section
/-! PROOFS. The take of a SHOOT (O48). -/

namespace Sys2Proof.Machine
set_option Elab.async false

variable {s t u : State} {p : Posted} {rest : List Posted}

/-- The state with a SHOOT taken into flight (R157, R188). -/
def State.shooting (s : State) (p : Posted) (x : Inflight) : State :=
  setStore { s.store with inflight := some x }
    (setOrders { s.orders with hold := s.orders.hold ++ [{ order := p, shoot := true }] } s)

theorem shoot_eq (p : Posted) (s : State) : shoot p s = lookBack p.inflight.b (s.shooting p p.inflight) := rfl

/-- The new entry of the hold list is the only SHOOT on it. -/
theorem shooting_hold (x : Inflight) (others : ∀ h ∈ s.orders.hold, h.shoot = false) :
    (s.shooting p x).orders.hold.find? Held.shoot = some { order := p, shoot := true } ∧
      (s.shooting p x).orders.hold.filter (fun h => !h.shoot) = s.orders.hold := by
  have all : s.orders.hold.filter (fun h => !h.shoot) = s.orders.hold :=
    List.filter_eq_self.mpr fun h hh => by rw [others h hh]; rfl
  have none : s.orders.hold.find? Held.shoot = .none :=
    List.find?_eq_none.mpr fun h hh => by rw [others h hh]; nofun
  refine ⟨?_, ?_⟩
  · show (s.orders.hold ++ [_]).find? Held.shoot = _
    rw [List.find?_append, none]
    rfl
  · show (s.orders.hold ++ [_]).filter _ = _
    rw [List.filter_append, all]
    exact List.append_nil _

/-- A SHOOT that ends at once leaves only its reply (R162, R184). -/
theorem endShoot_shooting (a : Answer) (x : Inflight) (idle : s.store.inflight = none)
    (others : ∀ h ∈ s.orders.hold, h.shoot = false) :
    endShoot a (s.shooting p x) = makeReply p a p.aligned false s := by
  obtain ⟨found, kept⟩ := shooting_hold (p := p) x others
  have found : ({ s.shooting p x with store := { (s.shooting p x).store with inflight := none } } : State).orders.hold.find?
      Held.shoot = some { order := p, shoot := true } := found
  have store : ({ s.store with inflight := none } : Store) = s.store := by rw [← idle]
  unfold endShoot
  dsimp only
  rw [found]
  dsimp only
  have orders : setOrders { (s.shooting p x).orders with hold := (s.shooting p x).orders.hold.filter fun h => !h.shoot }
      { s.shooting p x with store := { (s.shooting p x).store with inflight := none } } = s := by
    rw [kept]
    show ({ s with store := { s.store with inflight := none } } : State) = s
    rw [store]
  exact congrArg (makeReply p a p.aligned false) orders

/-- What SHOOT's checks find (R157, R188). -/
theorem shootRefusal_eq {g : Geometry} (hg : s.frames.geometry = some g) :
    shootRefusal s = if 8 ≤ s.orders.hold.length then some .noRoom else if s.store.inflight.isSome then some .busy
      else if g.s ≤ s.store.liveShots then some .noRoom else if s.store.freeSlots = 0 then some .storeFull else none := by
  unfold shootRefusal
  rw [hg]
  rfl

theorem takeShoot_refused {r : Result} (h : shootRefusal s = some r) : takeShoot p s = s.replied p r := by
  unfold takeShoot
  rw [h]
  rfl

theorem takeShoot_accepted (h : shootRefusal s = none) :
    takeShoot p s = lookBack p.inflight.b (s.shooting p p.inflight) := by
  unfold takeShoot
  rw [h, shoot_eq]

/-- A SHOOT past its checks (R157). -/
structure ShootTakes (s : State) (p : Posted) (rest : List Posted) : Prop where
  head   : AtHead s .shoot p rest
  passes : shootRefusal (s.dequeued rest) = none
  idle   : s.store.inflight = none
  others : ∀ h ∈ s.orders.hold, h.shoot = false

namespace ShootTakes

theorem runs (k : ShootTakes s p rest) {v : State}
    (e : lookBack p.inflight.b ((s.dequeued rest).shooting p p.inflight) = v) :
    exec .shoot s = .next (finish s v) := by
  have take : Order.take .shoot p (s.dequeued rest) = v := (takeShoot_accepted k.passes).trans e
  rw [k.head.runs rfl, take]

theorem inflight_eq (p : Posted) (hb : p.field 0 1 ≤ 7) :
    p.inflight = { b := p.field 0 1, f := min 15 (p.field 1 1), q := p.field 2 1
                   needFocus := decide (byteAt p.bytes 3 ≠ 0#8), ahead := 0, candidates := []
                   clamped := decide (15 < p.field 1 1) } := by
  have small : ¬7 < p.field 0 1 := by omega
  simp only [Posted.inflight, clampNat_zero, choice_eq, small, false_or, Nat.min_eq_right hb]

/-- No look-back and some look-ahead: the SHOOT waits (R159, R160). -/
theorem waits (k : ShootTakes s p rest) (hb : p.field 0 1 = 0) (hf : 0 < p.field 1 1) :
    ∃ t, exec .shoot s = .next t ∧
      t.settled =
        { s with
          orders := { s.orders with queue := rest, hold := s.orders.hold ++ [({ order := p, shoot := true } : Held)] }
          store :=
            { s.store with
              inflight := some
                { b := 0, f := min 15 (p.field 1 1), q := p.field 2 1
                  needFocus := decide (byteAt p.bytes 3 ≠ 0#8), ahead := 0, candidates := []
                  clamped := decide (15 < p.field 1 1) } } }.settled := by
  have x := inflight_eq p (by omega)
  rw [hb] at x
  have look : p.inflight.f = min 15 (p.field 1 1) := by rw [x]
  have ahead : p.inflight.ahead = 0 := by rw [x]
  have undecided : lookBack 0 ((s.dequeued rest).shooting p p.inflight) = (s.dequeued rest).shooting p p.inflight := by
    show (if p.inflight.f ≤ p.inflight.ahead then _ else _) = _
    rw [if_neg (by rw [ahead, look]; omega)]
    rfl
  refine ⟨_, k.runs (v := (s.dequeued rest).shooting p p.inflight) ?_, ?_⟩
  · rw [show p.inflight.b = 0 by rw [x]]
    exact undecided
  · rw [settled_finish, x]
    rfl

/-- No look-back and no look-ahead: NO_FRAME (R162). -/
theorem findsNone (k : ShootTakes s p rest) (hb : p.field 0 1 = 0) (hf : p.field 1 1 = 0) :
    ∃ t, exec .shoot s = .next t ∧ t.settled = (State.replied p .noFrame (s.dequeued rest)).settled := by
  have x := inflight_eq p (by omega)
  rw [hb] at x
  have look : p.inflight.f = min 15 (p.field 1 1) := by rw [x]
  have ahead : p.inflight.ahead = 0 := by rw [x]
  have decided : lookBack 0 ((s.dequeued rest).shooting p p.inflight) = (s.dequeued rest).replied p .noFrame := by
    show (if p.inflight.f ≤ p.inflight.ahead then decideShoot p.inflight _ else _) = _
    rw [if_pos (by rw [ahead, look]; omega)]
    have none : bestCandidate p.inflight.candidates = none := by rw [x]; rfl
    unfold decideShoot
    rw [none]
    exact endShoot_shooting (s := s.dequeued rest) _ _ k.idle k.others
  refine ⟨_, k.runs (v := (s.dequeued rest).replied p .noFrame) ?_, by rw [settled_finish]⟩
  rw [show p.inflight.b = 0 by rw [x]]
  exact decided

/-- A look-back of one that finds a quiet qualifying frame (R159, R163). -/
theorem chooses (k : ShootTakes s p rest) {c : Recent} {older : List Recent} {j e : Nat} (hb : p.field 0 1 = 1)
    (hr : s.store.recent = c :: older)
    (q : Qualifies (s.record c.buffer) c.number (decide (byteAt p.bytes 3 ≠ 0#8)))
    (quiet : (s.record c.buffer).m ≤ p.field 2 1) (he : s.store.shots.findIdx? Option.isNone = some e)
    (hj : s.store.slots.findIdx? (fun x => x.state == .free) = some j) :
    ∃ t sh, exec .shoot s = .next t ∧ (t.record c.buffer).state = .pinned ∧ c.buffer ∉ t.frames.free ∧
      t.frames.map = s.frames.map ∧ t.store.shots = s.store.shots.set e (some sh) ∧
      t.store.slots = s.store.slots.set j { Slot.freed with state := .reserved, shotId := some sh.id } ∧
      sh.id = s.store.nextId ∧ sh.buffer = c.buffer ∧ sh.slot = j ∧ sh.snapshot.number = c.number ∧
      sh.snapshot.m = (s.record c.buffer).m ∧ t.store.lastId = sh.id ∧ t.store.inflight = none ∧
      t.orders.hold = s.orders.hold ∧ t.status.latched.getLsbD LatchedBit.shotDone.index = true ∧
      (p.slot < s.orders.image.length →
        t.orders.image.getD p.slot [] =
          [byteAt p.bytes 60, byteAt p.bytes 61, if 15 < p.field 1 1 then 0x02#8 else 0x00#8,
            if p.aligned then 0x01#8 else 0x00#8] ++
          le sh.id 1 ++ le c.buffer 1 ++ le j 1 ++ le (s.record c.buffer).m 1 ++ le c.number 4 ++ zeros 4) := by
  obtain ⟨x, hx⟩ : ∃ x, x = p.inflight := ⟨_, rfl⟩
  have fields := inflight_eq p (by omega)
  rw [← hx, hb] at fields
  obtain ⟨v, hv⟩ : ∃ v, v = (s.dequeued rest).shooting p x := ⟨_, rfl⟩
  obtain ⟨found, kept⟩ := shooting_hold (s := s.dequeued rest) (p := p) x k.others
  rw [← hv] at found kept
  have frames : v.frames = s.frames := by rw [hv]; rfl
  have lists : v.store.shots = s.store.shots ∧ v.store.slots = s.store.slots ∧ v.store.lastId = s.store.lastId ∧
      v.orders.image = s.orders.image := by rw [hv]; exact ⟨rfl, rfl, rfl, rfl⟩
  have qv : Qualifies (v.record c.buffer) c.number x.needFocus := by
    rw [record_congr frames, fields]
    exact q
  have chosen : lookBack x.b v = choose x c.number c.buffer v := by
    have back : x.b = 1 := by rw [fields]
    have recent : v.store.recent.take 1 = [c] := by rw [hv]; exact congrArg (List.take 1) hr
    unfold lookBack
    rw [back, recent]
    show decideIfOver (testFrame v c.number c.buffer) = _
    rw [testFrame_quiet (by rw [hv]; rfl) qv (by rw [record_congr frames, fields]; exact quiet),
      decideIfOver_idle (choose_recent _ _ _ _).2]
  obtain ⟨shots, slots, lastId, image⟩ := lists
  obtain ⟨toFrames, toShots, toSlots, toId, toInflight, toHold, done, reply⟩ :=
    choose_spec (x := x) qv (shots ▸ he) (slots ▸ hj)
  obtain ⟨pinned, free, map⟩ := pinnedAt_frames (s := v) qv.inside
  obtain ⟨w, hw⟩ : ∃ w, w = choose x c.number c.buffer v := ⟨_, rfl⟩
  rw [← hw] at toFrames toShots toSlots toId toInflight toHold done reply
  have settled := settled_finish s w
  refine ⟨_, v.newShot c.buffer j, k.runs (v := w) (by rw [hw, ← chosen, ← hx, hv]), ?_, ?_, ?_, ?_, ?_, ?_, rfl, rfl, ?_, ?_,
    ?_, ?_, ?_, ?_, fun inside => ?_⟩
  · rw [record_congr ((finish_frames s w).trans toFrames)]
    exact pinned
  · rw [finish_frames, toFrames]
    exact free
  · rw [finish_frames, toFrames, map, frames]
  · exact (congrArg (fun u : State => u.store.shots) settled :).trans (toShots.trans (by rw [shots]))
  · exact (congrArg (fun u : State => u.store.slots) settled :).trans (toSlots.trans (by rw [slots]))
  · rw [hv]
    rfl
  · exact (congrArg FrameRecord.number (record_congr frames c.buffer)).trans q.2.1
  · exact congrArg FrameRecord.m (record_congr frames c.buffer)
  · exact (congrArg (fun u : State => u.store.lastId) settled :).trans toId
  · exact (congrArg (fun u : State => u.store.inflight) settled :).trans toInflight
  · exact (congrArg (fun u : State => u.orders.hold) settled :).trans (toHold.trans kept)
  · exact (congrArg (fun u : State => u.status.latched.getLsbD LatchedBit.shotDone.index) settled :).trans done
  · have images : (finish s w).orders.image = w.orders.image := (congrArg (fun u : State => u.orders.image) settled :)
    rw [images, reply _ found, image, List.getD_eq_getElem?_getD, List.getElem?_set_self inside, Option.getD_some]
    have clamped : x.clamped = decide (15 < p.field 1 1) := by rw [fields]
    have number : (v.newShot c.buffer j).snapshot.number = c.number :=
      (congrArg FrameRecord.number (record_congr frames c.buffer)).trans q.2.1
    have figure : (v.newShot c.buffer j).snapshot.m = (s.record c.buffer).m :=
      congrArg FrameRecord.m (record_congr frames c.buffer)
    unfold replyBytes chosenAnswer
    dsimp only
    rw [clamped, number, figure]
    by_cases over' : 15 < p.field 1 1 <;> cases p.aligned <;> simp only [over', decide_true, decide_false] <;> rfl

end ShootTakes

/-- Settles O48: the SHOOT's checks, its look-back, its wait, and what each completion decides. -/
theorem shootChoosesOrWaits : Obligations.ShootChoosesOrWaits := by
  refine ⟨fun s p rest g ha hg => ⟨fun r hr refused => ?_, fun room idle spare slots others => ?_⟩,
    fun s t number b ht => ?_⟩
  · refine ha.settles rfl (congrArg State.settled (takeShoot_refused ?_))
    rw [shootRefusal_eq (s := s.dequeued rest) hg, hr]
    show (if 8 ≤ s.orders.hold.length then _ else if s.store.inflight.isSome = true then _ else
      if g.s ≤ s.store.liveShots then _ else if s.store.freeSlots = 0 then _ else _) = _
    by_cases full : 8 ≤ s.orders.hold.length
    · rw [if_pos full, if_pos full]
    · rw [if_neg full, if_neg full]
      by_cases busy : s.store.inflight.isSome = true
      · rw [if_pos busy, if_pos busy]
      · rw [if_neg busy, if_neg busy]
        by_cases live : g.s ≤ s.store.liveShots
        · rw [if_pos live, if_pos live]
        · rw [if_neg live, if_neg live, if_pos (by simpa [full, busy, live] using refused)]
  · have takes : ShootTakes s p rest := by
      refine ⟨ha, ?_, idle, others⟩
      rw [shootRefusal_eq (s := s.dequeued rest) hg]
      show (if 8 ≤ s.orders.hold.length then _ else if s.store.inflight.isSome = true then _ else
        if g.s ≤ s.store.liveShots then _ else if s.store.freeSlots = 0 then _ else _) = _
      rw [if_neg (by omega), if_neg (by rw [idle]; nofun), if_neg (by omega), if_neg (by omega)]
    refine ⟨takes.waits, takes.findsNone, fun c older f j e hb hr hf q quiet _ he hj => ?_⟩
    subst hf
    exact takes.chooses hb hr ((qualifies_iff _ _ _).mp q) quiet he hj
  · subst ht
    obtain ⟨recent, quiet⟩ := reportCompletion_shoots number b s
    refine ⟨recent, quiet, fun x new hx hq hn => ⟨fun e j he hj => reportCompletion_decides number b hx hq hn he hj,
      reportCompletion_waits hx hq hn, reportReplaced_eq hx number b⟩⟩

end Sys2Proof.Machine
end

section
/-! PROOFS. The steps of a frame start: the target, the cut, the new record, the held orders and the bank (O9). -/

namespace Sys2Proof.Machine
set_option Elab.async false

variable {s t u : State} {g : Geometry} {k b : Nat}

/-! ### A write of the header line only -/

/-- The header line carries no pixel byte (02, section 2.1). -/
theorem headerLine_noPixel {w : HostTransaction} (hl : w.len ≤ g.stride) {i : Nat} (hi : i < w.len) :
    isPixelByte g (0 + i) = false := by
  simp only [isPixelByte, decide_eq_false_iff_not]
  omega

theorem pixelBytes_headerLine {w : HostTransaction} (hl : w.len ≤ g.stride) : pixelBytes g 0 w = 0 := by
  unfold pixelBytes
  rw [List.countP_eq_zero]
  intro i hi
  rw [headerLine_noPixel hl (List.mem_range.mp hi)]
  nofun

theorem accumulate_headerLine {w : HostTransaction} (hl : w.len ≤ g.stride) (x : Bank) : accumulate g 0 w x = x := by
  have none : greenSites g x.settings.gp 0 w = [] := by
    have : (List.range w.len).filterMap (pixelAt g 0 w) = [] := by
      rw [List.filterMap_eq_nil_iff]
      intro i hi
      unfold pixelAt
      dsimp only
      rw [headerLine_noPixel hl (List.mem_range.mp hi)]
      simp
    rw [greenSites, this]
    rfl
  unfold accumulate
  rw [none]
  rfl

theorem setRecord_self (b : Nat) (s : State) : setRecord b (s.record b) s = s := by
  have same : s.frames.table.set b (s.record b) = s.frames.table := by
    by_cases hb : b < s.frames.table.length
    · unfold State.record
      rw [List.getD_eq_getElem _ _ hb, List.set_getElem_self]
    · exact List.set_eq_of_length_le (Nat.not_lt.mp hb)
  unfold setRecord
  rw [same]

theorem setBank_self (id : BankId) (s : State) : setBank id (s.bank id) s = s := by cases id <;> rfl

/-- A write of the header line leaves the opened record and its bank as they are (R30, R32). -/
theorem pixelWrite_headerLine {w : HostTransaction} (hl : w.len ≤ g.stride) (hh : 0 < g.h) (hw : 0 < g.w)
    (hr : (s.record b).received = 0) : pixelWrite g k b 0 w s = s := by
  have before : carriesLast g 0 w = false := by
    have : g.stride ≤ g.h * g.stride := Nat.le_mul_of_pos_left _ hh
    unfold carriesLast Geometry.lastByte
    rw [decide_eq_false (by omega)]
    rfl
  have received : ({ s.record b with received := satAdd max32 (s.record b).received (pixelBytes g 0 w) } : FrameRecord) =
      s.record b := by
    rw [pixelBytes_headerLine hl, hr]
    show ({ s.record b with received := 0 } : FrameRecord) = _
    rw [← hr]
  have given : ∀ id, giveToBank g 0 w id s = s := by
    intro id
    cases id with
    | none => rfl
    | some id =>
      show setBank id (accumulate g 0 w (s.bank id)) s = s
      rw [accumulate_headerLine hl, setBank_self]
  unfold pixelWrite
  dsimp only
  rw [received, setRecord_self, given, before]
  rfl

/-! ### The target and the cut -/

/-- A frame start has its target: the buffer of the map, or the lowest free one (R26). -/
theorem remap_target (hb : s.startTarget k = some b) (hk : k < s.frames.map.length) :
    ∃ u, remap k s = some u ∧ Changes [.frames] s u ∧ u.phys k = b ∧ u.frames.table = s.frames.table ∧
      u.frames.number = s.frames.number ∧
      ((s.record (s.phys k)).state = .pinned → s.frames.free = b :: u.frames.free) ∧
      ((s.record (s.phys k)).state ≠ .pinned → u.frames.free = s.frames.free) := by
  unfold State.startTarget at hb
  by_cases pinned : (s.record (s.phys k)).state = .pinned
  · rw [if_pos pinned] at hb
    cases hf : s.frames.free with
    | nil => rw [hf] at hb; cases hb
    | cons f rest =>
      rw [hf] at hb
      obtain rfl : f = b := Option.some.inj hb
      obtain ⟨u, hu⟩ : ∃ u, u = setEntry k { s.entry k with phys := f } (setFree rest s) := ⟨_, rfl⟩
      have run : remap k s = some u := by
        have e : remap k s = match s.frames.free with
            | f :: rest => some (setEntry k { s.entry k with phys := f } (setFree rest s))
            | [] => none := if_pos pinned
        rw [e, hf, hu]
      refine ⟨u, run, remap_changes s run, ?_, by rw [hu]; rfl, by rw [hu]; rfl, fun _ => by rw [hu]; rfl,
        fun no => absurd pinned no⟩
      rw [hu]
      unfold State.phys State.entry setEntry setFree
      dsimp only
      rw [List.getD_eq_getElem?_getD, List.getElem?_set_self hk]
      rfl
  · rw [if_neg pinned] at hb
    have run : remap k s = some s := by
      unfold remap
      exact if_neg pinned
    exact ⟨s, run, .refl s, Option.some.inj hb, rfl, rfl, fun yes => absurd yes pinned, fun _ => rfl⟩

/-- The frame still filling is cut, or nothing is (R31). -/
theorem cutFilling_cases (s : State) :
    (s.filling? = none ∧ cutFilling s = s) ∨
      ∃ c, s.filling? = some c ∧ (cutFilling s).frames = (setRecord c ((s.record c).cutAt s.partTime) s).frames ∧
        (∀ id, (s.record c).bank = some id → (cutFilling s).bank id = Bank.released ∧
          (cutFilling s).bank id.other =
            if (s.bank id.other).state = .waiting then { s.bank id.other with state := .evaluating }
            else s.bank id.other) ∧
        (cutFilling s).status.latched.getLsbD LatchedBit.frameCut.index = true := by
  cases h : s.filling? with
  | none => exact .inl ⟨rfl, by unfold cutFilling; rw [h]⟩
  | some c =>
    have e : cutFilling s = cutRecord c s := by unfold cutFilling; rw [h]
    refine .inr ⟨c, rfl, ?_, ?_, (cutFilling_record h).2⟩
    · rw [e]
      exact cutRecord_frames c s
    · intro id hid
      rw [e, cutRecord_eq, hid]
      exact freeBank_banks (setRecord c ((s.record c).cutAt s.partTime) s) id

theorem cutFilling_table (s : State) :
    (cutFilling s).frames.table.length = s.frames.table.length ∧ (cutFilling s).frames.map = s.frames.map ∧
      (cutFilling s).frames.free = s.frames.free ∧ (cutFilling s).frames.number = s.frames.number := by
  rcases cutFilling_cases s with ⟨-, e⟩ | ⟨c, -, e, -, -⟩
  · rw [e]
    exact ⟨rfl, rfl, rfl, rfl⟩
  · rw [e]
    exact ⟨List.length_set, rfl, rfl, rfl⟩

theorem cutFilling_others {c : Nat} (hc : (s.record c).state ≠ .filling) : (cutFilling s).record c = s.record c := by
  rcases cutFilling_cases s with ⟨-, e⟩ | ⟨d, hd, e, -, -⟩
  · rw [e]
  · rw [record_congr e]
    refine record_setRecord_of_ne s (fun h => ?_) _
    rw [h] at hc
    exact hc (filling?_state hd).2

/-! ### The new record -/

/-- The record a frame start opens, with its focus-still flag (R28, R29). -/
def State.startRecord (s : State) (g : Geometry) (h : RawHeader) (number : Nat) : FrameRecord :=
  { s.openedRecord h number with focusStill := s.focusStood g (s.openedRecord h number) }

theorem startRecord_congr (hl : t.lens = s.lens) (ht : t.partTime = s.partTime) (g : Geometry) (h : RawHeader) (n : Nat) :
    t.startRecord g h n = s.startRecord g h n := by
  unfold State.startRecord State.openedRecord State.focusStood
  rw [interp_congr hl, hl, ht]

theorem openRecord_eq (g : Geometry) (b : Nat) (h : RawHeader) (s : State) :
    Changes [.frames, .store] s (openRecord g b h s) ∧
      (openRecord g b h s).frames =
        { s.frames with
          table := s.frames.table.set b (s.startRecord g h (nextNumber s.frames.number))
          number := nextNumber s.frames.number } := by
  have replaced : Changes [.store] s (replaceRecord b s) := by
    unfold replaceRecord
    split
    · exact reportReplaced_changes s _ _
    · exact .refl s
  refine ⟨(openRecord_changes s g b h).mono (by decide), ?_⟩
  have record := startRecord_congr replaced.lens_eq replaced.partTime_eq g h (nextNumber s.frames.number)
  unfold openRecord setRecord
  dsimp only
  rw [replaced.frames_eq]
  exact congrArg (fun f => ({ s.frames with table := s.frames.table.set b f, number := nextNumber s.frames.number } : Frames))
    record

/-! ### The bank -/

theorem claimBank_some {id : BankId} (hf : s.freeBank? = some id) (g : Geometry) (b : Nat) :
    claimBank g b s = setBank id (claimedBank g s.exposure.settings s.focus.settings (s.record b).number b)
      (setRecord b { s.record b with bank := some id } s) := by
  unfold claimBank
  rw [hf]

theorem claimBank_none (hf : s.freeBank? = none) (g : Geometry) (b : Nat) :
    claimBank g b s = setCounters (fun c => { c with notMetered := countUp c.notMetered })
      (latch .notMetered (setRecord b { s.record b with notMetered := true } s)) := by
  unfold claimBank
  rw [hf]

/-- A claim changes the bank field and NOT_METERED of its record alone (R30, R44). -/
theorem claimBank_frames (g : Geometry) (b : Nat) (s : State) :
    ∃ id metered, (claimBank g b s).frames = { s.frames with
      table := s.frames.table.set b { s.record b with bank := id, notMetered := metered } } := by
  cases hf : s.freeBank? with
  | some id =>
    rw [claimBank_some hf]
    exact ⟨some id, (s.record b).notMetered, (setBank_changes _ _ _).frames_eq⟩
  | none =>
    rw [claimBank_none hf]
    exact ⟨(s.record b).bank, true, rfl⟩

/-- Bank 0 is claimed when FREE, or else bank 1 (R30). -/
theorem freeBank?_eq (s : State) : s.freeBank? =
    if s.stats.bank0.state = .free then some .bank0 else if s.stats.bank1.state = .free then some .bank1 else none := rfl

/-! ### The held orders -/

theorem applyHoldable_counters (o : Order) (p : Posted) (s : State) :
    (applyHoldable o p s).1.status.counters = s.status.counters := by
  have lens : ∀ {u v : State}, LensOnly u v → v.status.counters = u.status.counters := fun h => by rw [h]
  cases o
  case focusSet =>
    show (applyFocusSet p s).1.status.counters = _
    unfold applyFocusSet
    split
    · rfl
    · exact lens (giveFocus_only _ _ _)
  case zoomTo =>
    show (applyZoomTo p s).1.status.counters = _
    unfold applyZoomTo
    dsimp only
    split
    · rfl
    · rfl
    · rfl
    · exact lens (zoomTo_only _ _ _)
  all_goals rfl

theorem applyHoldable_orders (o : Order) (p : Posted) (s : State) : (applyHoldable o p s).1.orders = s.orders := by
  cases o
  case focusSet => exact (applyFocusSet_changes s p).orders_eq
  case zoomTo => exact (applyZoomTo_changes s p).orders_eq
  all_goals rfl

/-- A held order changes neither the counters nor the hold list, and the image keeps its size. -/
theorem applyEntry_orders (number : Nat) (s : State) (h : Held) :
    (applyEntry number s h).status.counters = s.status.counters ∧
      (applyEntry number s h).orders.hold = s.orders.hold ∧
      (applyEntry number s h).orders.image.length = s.orders.image.length := by
  unfold applyEntry
  split
  · next o _ =>
    have orders := applyHoldable_orders o h.order s
    refine ⟨applyHoldable_counters o h.order s, ?_, ?_⟩
    · exact (congrArg Orders.hold orders : (applyHoldable o h.order s).1.orders.hold = _)
    · dsimp only
      rw [makeReply_image, List.length_set]
      exact congrArg (fun x : Orders => x.image.length) orders
  · exact ⟨rfl, rfl, rfl⟩

theorem applyEntries_orders (number : Nat) (l : List Held) (s : State) :
    (l.foldl (applyEntry number) s).status.counters = s.status.counters ∧
      (l.foldl (applyEntry number) s).orders.hold = s.orders.hold ∧
      (l.foldl (applyEntry number) s).orders.image.length = s.orders.image.length := by
  induction l generalizing s with
  | nil => exact ⟨rfl, rfl, rfl⟩
  | cons h l ih =>
    obtain ⟨counters, hold, image⟩ := applyEntry_orders number s h
    obtain ⟨counters', hold', image'⟩ := ih (applyEntry number s h)
    exact ⟨counters'.trans counters, hold'.trans hold, image'.trans image⟩

/-- The aligned entries leave the hold list (R187). -/
theorem applyHeld_hold (number : Nat) (s : State) :
    (applyHeld number s).orders.hold = s.orders.hold.filter Held.shoot ∧
      (applyHeld number s).status.counters = s.status.counters := by
  obtain ⟨counters, hold, -⟩ := applyEntries_orders number (s.orders.hold.filter fun h => !h.shoot)
    (setOrders { s.orders with hold := s.orders.hold.filter Held.shoot } s)
  exact ⟨hold, counters⟩

theorem clampMetering_eq (v : Metering) : clampMetering v =
    { tgt := max 1 (min 4095 v.tgt), c := max (-96) (min 96 v.c), db := min 16 v.db, sMin := min 669 v.sMin
      sMaxCfg := max (min 669 v.sMin) (min 669 v.sMaxCfg), gMax := min 255 v.gMax, boost := min 96 v.boost
      blk := min 1023 v.blk, white := max 1 (min 4096 v.white) } := by
  simp only [clampMetering, clampNat_zero, clampNat_eq (Nat.min_le_left 669 v.sMin),
    clampNat_eq (show 1 ≤ 4095 by decide), clampNat_eq (show 1 ≤ 4096 by decide),
    clampInt_eq (show (-96 : Int) ≤ 96 by decide)]

/-- Of the METER_MODEs held the last one's settings stand, with its reply (R187). -/
theorem applyHeld_metering {older : List Held} {h : Held} {c : Metering} (number : Nat)
    (held : s.orders.hold.filter (fun x => !x.shoot) = older ++ [h])
    (code : Order.ofCode h.order.code.toNat = some .meterMode) (hc : clampMetering h.order.metering = c) :
    (applyHeld number s).exposure.settings = c ∧
      (h.order.slot < s.orders.image.length →
        (applyHeld number s).orders.image.getD h.order.slot [] =
          [byteAt h.order.bytes 60, byteAt h.order.bytes 61, if c = h.order.metering then 0x00#8 else 0x02#8, 0x02#8] ++
            le number 4 ++ zeros 8) := by
  obtain ⟨v, hv⟩ : ∃ v, v = older.foldl (applyEntry number)
    (setOrders { s.orders with hold := s.orders.hold.filter Held.shoot } s) := ⟨_, rfl⟩
  have size : v.orders.image.length = s.orders.image.length := hv ▸ (applyEntries_orders number older _).2.2
  have last : applyHeld number s = makeReply h.order
      { result := if c = h.order.metering then .ok else .clamped, values := le number 4 ++ zeros 8 } false true
      (setExposure { v.exposure with settings := c } v) := by
    unfold applyHeld
    rw [held, List.foldl_append, ← hv]
    show applyEntry number v h = _
    have taken : applyHoldable .meterMode h.order v =
        (setExposure { v.exposure with settings := c } v, plainAnswer (if c = h.order.metering then .ok else .clamped)) := by
      show applyMeterMode h.order v = _
      simp only [applyMeterMode, hc, clampedOr_bne]
    simp only [applyEntry, code, taken]
    rfl
  rw [last]
  refine ⟨rfl, fun inside => ?_⟩
  rw [makeReply_image]
  show (v.orders.image.set h.order.slot _).getD h.order.slot [] = _
  rw [List.getD_eq_getElem?_getD, List.getElem?_set_self (size ▸ inside), Option.getD_some]
  by_cases e : c = h.order.metering <;> simp only [e, if_true, if_false] <;> rfl

end Sys2Proof.Machine
end

section
/-! PROOFS. A frame start opens a record (O9). -/

namespace Sys2Proof.Machine
set_option Elab.async false

variable {s : State} {g : Geometry} {k b : Nat} {w : HostTransaction}

/-- The steps of a frame start: `x` has the target, `y` the new record, `v` the held orders applied, and `u` the bank
(R26 to R31, R187). -/
structure FrameOpens (s : State) (g : Geometry) (k b : Nat) (w : HostTransaction) (x y v u : State) : Prop where
  run     : offerRawWrite g k 0 w s = (u, true)
  target  : Changes [.frames] s x
  phys    : x.phys k = b
  table   : x.frames.table = s.frames.table
  number  : x.frames.number = s.frames.number
  fromFree : (s.record (s.phys k)).state = .pinned → s.frames.free = b :: x.frames.free
  sameFree : (s.record (s.phys k)).state ≠ .pinned → x.frames.free = s.frames.free
  opened  : y = openRecord g b (rawHeader w.data) (cutFilling x)
  held    : v = applyHeld (y.record b).number y
  claimed : u = claimBank g b v

theorem frameOpens (start : isFrameStart 0 w = true) (hl : w.len ≤ g.stride) (hh : 0 < g.h) (hw : 0 < g.w)
    (hb : s.startTarget k = some b) (hk : k < s.frames.map.length) (hin : b < s.frames.table.length) :
    ∃ x y v u, FrameOpens s g k b w x y v u := by
  obtain ⟨x, run, target, phys, table, number, fromFree, sameFree⟩ := remap_target hb hk
  refine ⟨x, _, _, claimBank g b (applyHeld ((openRecord g b (rawHeader w.data) (cutFilling x)).record b).number
    (openRecord g b (rawHeader w.data) (cutFilling x))), ?_, target, phys, table, number, fromFree, sameFree, rfl, rfl, rfl⟩
  have received : ((claimBank g b (applyHeld ((openRecord g b (rawHeader w.data) (cutFilling x)).record b).number
      (openRecord g b (rawHeader w.data) (cutFilling x)))).record b).received = 0 := by
    obtain ⟨y, hy⟩ : ∃ y, y = openRecord g b (rawHeader w.data) (cutFilling x) := ⟨_, rfl⟩
    obtain ⟨v, hv⟩ : ∃ v, v = applyHeld (y.record b).number y := ⟨_, rfl⟩
    rw [← hy, ← hv]
    have inside : b < (cutFilling x).frames.table.length := by rw [(cutFilling_table x).1, table]; exact hin
    have frames := (openRecord_eq g b (rawHeader w.data) (cutFilling x)).2
    have same : v.frames = y.frames := hv ▸ (applyHeld_changes y _).frames_eq
    rw [← hy] at frames
    obtain ⟨id, metered, e⟩ := claimBank_frames g b v
    have record : v.record b = (cutFilling x).startRecord g (rawHeader w.data) (nextNumber (cutFilling x).frames.number) := by
      rw [record_congr same]
      unfold State.record
      rw [frames]
      exact (List.getD_eq_getElem?_getD ..).trans (by rw [List.getElem?_set_self inside]; rfl)
    have claimed : (claimBank g b v).record b = { v.record b with bank := id, notMetered := metered } := by
      rw [record_congr (s := setRecord b { v.record b with bank := id, notMetered := metered } v) e]
      exact record_setRecord v (by rw [same, frames]; exact List.length_set.symm ▸ inside) _
    rw [claimed, record]
    rfl
  have whole : frameStart g k w s = (pixelWrite g k b 0 w (claimBank g b (applyHeld
      ((openRecord g b (rawHeader w.data) (cutFilling x)).record b).number
      (openRecord g b (rawHeader w.data) (cutFilling x)))), true) := by
    unfold frameStart
    rw [run]
    dsimp only
    rw [phys]
  rw [pixelWrite_headerLine hl hh hw received] at whole
  unfold offerRawWrite
  rw [if_pos (by decide), if_pos start]
  exact whole

namespace FrameOpens

variable {x y v u : State} (h : FrameOpens s g k b w x y v u)
include h

theorem inside (hin : b < s.frames.table.length) : b < (cutFilling x).frames.table.length := by
  rw [(cutFilling_table x).1, h.table]
  exact hin

theorem filling?_eq : x.filling? = s.filling? := by
  unfold State.filling?
  rw [h.table]

theorem record_eq (c : Nat) : x.record c = s.record c := by
  unfold State.record
  rw [h.table]

/-- The parts as they are when the record is opened. -/
theorem lens_eq : (cutFilling x).lens = s.lens ∧ (cutFilling x).partTime = s.partTime ∧
    (cutFilling x).orders = s.orders := by
  have c := h.target.trans (cutFilling_changes x)
  exact ⟨c.lens_eq, c.partTime_eq, c.orders_eq⟩

theorem opened_frames : y.frames =
    { (cutFilling x).frames with
      table := (cutFilling x).frames.table.set b (s.startRecord g (rawHeader w.data) (nextNumber s.frames.number))
      number := nextNumber s.frames.number } := by
  obtain ⟨lens, time, -⟩ := h.lens_eq
  have number : (cutFilling x).frames.number = s.frames.number := (cutFilling_table x).2.2.2.trans h.number
  rw [h.opened, (openRecord_eq g b _ _).2, number, startRecord_congr lens time]

theorem held_frames : v.frames = y.frames := h.held ▸ (applyHeld_changes y _).frames_eq

/-- The new record, as it stands in the table. -/
theorem opened_record (hin : b < s.frames.table.length) :
    v.record b = s.startRecord g (rawHeader w.data) (nextNumber s.frames.number) := by
  rw [record_congr h.held_frames]
  unfold State.record
  rw [h.opened_frames, List.getD_eq_getElem?_getD]
  show (((cutFilling x).frames.table.set b _)[b]?).getD _ = _
  rw [List.getElem?_set_self (h.inside hin)]
  rfl

/-- The claim changes the bank field and NOT_METERED of the new record. -/
theorem claimed_frames (hin : b < s.frames.table.length) : ∃ id metered, u.frames =
    { y.frames with
      table := (cutFilling x).frames.table.set b
        { s.startRecord g (rawHeader w.data) (nextNumber s.frames.number) with bank := id, notMetered := metered } } := by
  obtain ⟨id, metered, e⟩ := claimBank_frames g b v
  refine ⟨id, metered, ?_⟩
  rw [h.claimed, e, h.opened_record hin, h.held_frames, h.opened_frames]
  dsimp only
  rw [List.set_set]

theorem record (hin : b < s.frames.table.length) : ∃ id metered, u.record b =
    { s.startRecord g (rawHeader w.data) (nextNumber s.frames.number) with bank := id, notMetered := metered } := by
  obtain ⟨id, metered, e⟩ := h.claimed_frames hin
  refine ⟨id, metered, ?_⟩
  unfold State.record
  rw [e, List.getD_eq_getElem?_getD]
  show (((cutFilling x).frames.table.set b _)[b]?).getD _ = _
  rw [List.getElem?_set_self (h.inside hin)]
  rfl

theorem others (hin : b < s.frames.table.length) {c : Nat} (hc : c ≠ b) : u.record c = (cutFilling x).record c := by
  obtain ⟨id, metered, e⟩ := h.claimed_frames hin
  unfold State.record
  rw [e, List.getD_eq_getElem?_getD, List.getD_eq_getElem?_getD]
  show (((cutFilling x).frames.table.set b _)[c]?).getD _ = _
  rw [List.getElem?_set_ne (Ne.symm hc)]

/-- The map, the free list and the frame number (R26, R28). -/
theorem pool (hin : b < s.frames.table.length) :
    u.phys k = b ∧ ((s.record (s.phys k)).state = .pinned → s.frames.free = b :: u.frames.free) ∧
      ((s.record (s.phys k)).state ≠ .pinned → u.frames.free = s.frames.free) ∧
      u.frames.number = (if s.frames.number = 2 ^ 32 - 1 then 1 else s.frames.number + 1) := by
  obtain ⟨id, metered, e⟩ := h.claimed_frames hin
  obtain ⟨-, map, free, -⟩ := cutFilling_table x
  have free' : u.frames.free = x.frames.free := by
    rw [e]
    show y.frames.free = _
    rw [h.opened_frames]
    exact free
  refine ⟨?_, fun pinned => by rw [free']; exact h.fromFree pinned, fun no => by rw [free']; exact h.sameFree no, ?_⟩
  · rw [← h.phys]
    unfold State.phys State.entry
    rw [e]
    show (y.frames.map.getD k _).phys = _
    rw [h.opened_frames]
    dsimp only
    rw [map]
  · rw [e]
    show y.frames.number = _
    rw [h.opened_frames]
    rfl

/-- Every other record is as before, but for the frame cut (R31). -/
theorem otherRecords (hin : b < s.frames.table.length) :
    (∀ c, c ≠ b → (s.record c).state ≠ .filling → u.record c = s.record c) ∧
    (∀ c, s.filling? = some c → c ≠ b →
      u.record c = { s.record c with state := .complete, cut := true, completion := some s.partTime, bank := none } ∧
      u.status.latched.getLsbD LatchedBit.frameCut.index = true) := by
  refine ⟨fun c hc still => ?_, fun c hc hcb => ?_⟩
  · rw [h.others hin hc, cutFilling_others (by rw [h.record_eq]; exact still), h.record_eq]
  · have found := h.filling?_eq.trans hc
    obtain ⟨cut, latched⟩ := cutFilling_record found
    refine ⟨?_, ?_⟩
    · rw [h.others hin hcb, cut, h.record_eq, h.target.partTime_eq]
      rfl
    · have opened : y.status = (cutFilling x).status := by
        rw [h.opened]
        exact (openRecord_eq g b _ _).1.status_eq
      rw [h.claimed]
      refine Latches.claimBank g b v _ ?_
      rw [h.held]
      refine Latches.applyHeld _ y _ ?_
      rw [opened]
      exact latched

/-- The held orders are applied to the Order unit as it was at the arrival (R187). -/
theorem orders : y.orders = s.orders ∧ u.orders = v.orders ∧ u.exposure = v.exposure ∧ u.focus = v.focus := by
  have claim := claimBank_changes v g b
  refine ⟨?_, ?_, ?_, ?_⟩
  · rw [h.opened, (openRecord_eq g b _ _).1.orders_eq]
    exact h.lens_eq.2.2
  · rw [h.claimed, claim.orders_eq]
  · rw [h.claimed, claim.exposure_eq]
  · rw [h.claimed, claim.focus_eq]

theorem number_eq (hin : b < s.frames.table.length) : u.frames.number = nextNumber s.frames.number := by
  obtain ⟨id, metered, e⟩ := h.claimed_frames hin
  rw [e]
  show y.frames.number = _
  rw [h.opened_frames]

theorem opened_number (hin : b < s.frames.table.length) : (y.record b).number = nextNumber s.frames.number := by
  rw [← record_congr h.held_frames b, h.opened_record hin]
  rfl

/-- The hold list and the METER_MODEs on it (R187). -/
theorem heldOrders (hin : b < s.frames.table.length) :
    u.orders.hold = s.orders.hold.filter Held.shoot ∧
    (∀ (older : List Held) (e : Held) (m c : Metering), s.orders.hold.filter (fun x => !x.shoot) = older ++ [e] →
      (∀ x ∈ older ++ [e], Order.ofCode x.order.code.toNat = some .meterMode) → m = e.order.metering →
      c = { tgt := max 1 (min 4095 m.tgt), c := max (-96) (min 96 m.c), db := min 16 m.db, sMin := min 669 m.sMin,
            sMaxCfg := max (min 669 m.sMin) (min 669 m.sMaxCfg), gMax := min 255 m.gMax, boost := min 96 m.boost,
            blk := min 1023 m.blk, white := max 1 (min 4096 m.white) } →
      u.exposure.settings = c ∧
        (e.order.slot < s.orders.image.length →
          u.orders.image.getD e.order.slot [] =
            [byteAt e.order.bytes 60, byteAt e.order.bytes 61, if c = m then 0x00#8 else 0x02#8, 0x02#8] ++
              le u.frames.number 4 ++ zeros 8)) := by
  obtain ⟨before, after, exposure, -⟩ := h.orders
  refine ⟨?_, fun older e m c held code hm hc => ?_⟩
  · rw [after, h.held, (applyHeld_hold _ y).1, before]
  · subst hm
    obtain ⟨settings, image⟩ := applyHeld_metering (s := y) (y.record b).number (by rw [before]; exact held)
      (code e (by simp)) ((clampMetering_eq _).trans hc.symm)
    rw [after, exposure, h.number_eq hin, ← h.opened_number hin, h.held]
    exact ⟨settings, fun inside => image (by rw [before]; exact inside)⟩

/-- The banks as the claim finds them are those the cut leaves. -/
theorem stats_eq : v.stats = (cutFilling x).stats := by
  rw [h.held, (applyHeld_changes y _).stats_eq, h.opened, (openRecord_eq g b _ _).1.stats_eq]

theorem freeBank_eq : v.freeBank? = (cutFilling x).freeBank? := by
  unfold State.freeBank?
  rw [h.stats_eq]

theorem uncut (none : s.filling? = none) : cutFilling x = x := by
  rcases cutFilling_cases x with ⟨-, e⟩ | ⟨c, hc, -⟩
  · exact e
  · rw [h.filling?_eq, none] at hc
    cases hc

/-- Bank 0, or else bank 1, when it is FREE at the arrival and no frame is cut (R30). -/
theorem found (none : s.filling? = none) {id : BankId}
    (hid : id = if s.stats.bank0.state = .free then BankId.bank0 else BankId.bank1) (free : (s.bank id).state = .free) :
    (cutFilling x).freeBank? = some id := by
  rw [h.uncut none, freeBank?_eq, h.target.stats_eq, hid]
  by_cases h0 : s.stats.bank0.state = .free
  · rw [if_pos h0, if_pos h0]
  · rw [if_neg h0] at hid
    have h1 : s.stats.bank1.state = .free := by
      rw [hid] at free
      exact free
    rw [if_neg h0, if_neg h0, if_pos h1]

/-- A FREE bank is claimed with the settings as the held orders leave them (R30). -/
theorem claims (hin : b < s.frames.table.length) {id : BankId} (hf : (cutFilling x).freeBank? = some id) :
    (u.record b).bank = some id ∧ (u.record b).notMetered = false ∧
      u.bank id.other = (cutFilling x).bank id.other ∧
      u.bank id = claimedBank g u.exposure.settings u.focus.settings u.frames.number b := by
  have hf := h.freeBank_eq.trans hf
  have record := h.opened_record hin
  have run := claimBank_some hf g b
  rw [record] at run
  have inside : b < v.frames.table.length := by
    rw [h.held_frames, h.opened_frames]
    exact List.length_set.symm ▸ h.inside hin
  have new : u.record b = { s.startRecord g (rawHeader w.data) (nextNumber s.frames.number) with bank := some id } := by
    rw [h.claimed, run, record_congr (setBank_changes _ _ _).frames_eq]
    exact record_setRecord v inside _
  obtain ⟨-, -, exposure, focus⟩ := h.orders
  refine ⟨by rw [new], by rw [new]; rfl, ?_, ?_⟩
  · rw [h.claimed, run, bank_setBank_other, ← bank_congr h.stats_eq]
    rfl
  · rw [exposure, focus, h.number_eq hin, h.claimed, run, bank_setBank]
    rfl

/-- With neither bank FREE the frame is NOT_METERED (R44). -/
theorem notMetered (hin : b < s.frames.table.length) (none : s.filling? = none) (h0 : s.stats.bank0.state ≠ .free)
    (h1 : s.stats.bank1.state ≠ .free) :
    (u.record b).bank = .none ∧ (u.record b).notMetered = true ∧ u.stats = s.stats ∧
      u.status.latched.getLsbD LatchedBit.notMetered.index = true ∧
      u.status.counters.notMetered = min 65535 (s.status.counters.notMetered + 1) := by
  have uncut := h.uncut none
  have stats : v.stats = s.stats := by rw [h.stats_eq, uncut, h.target.stats_eq]
  have busy : v.freeBank? = .none := by
    rw [freeBank?_eq, stats, if_neg h0, if_neg h1]
  have run := claimBank_none busy g b
  have inside : b < v.frames.table.length := by
    rw [h.held_frames, h.opened_frames]
    exact List.length_set.symm ▸ h.inside hin
  have new : u.record b = { v.record b with notMetered := true } := by
    rw [h.claimed, run]
    exact record_setRecord v inside _
  have counters : v.status.counters = s.status.counters := by
    rw [h.held, (applyHeld_hold _ y).2, h.opened, (openRecord_eq g b _ _).1.status_eq, uncut, h.target.status_eq]
  refine ⟨?_, by rw [new], ?_, ?_, ?_⟩
  · rw [new, h.opened_record hin]
    rfl
  · rw [h.claimed, run]
    exact stats
  · rw [h.claimed, run]
    exact latch_bit _ _
  · rw [h.claimed, run, ← counters]
    rfl

/-- The bank that is FREE after the cut (R30, R43). -/
theorem freed {c : Nat} {id : BankId} (hc : s.filling? = some c) (hid : (s.record c).bank = some id) :
    (cutFilling x).freeBank? = some (if s.stats.bank0.state = .free ∨ id = .bank0 then .bank0 else .bank1) := by
  rcases cutFilling_cases x with ⟨none, -⟩ | ⟨d, hd, -, banks, -⟩
  · rw [h.filling?_eq, hc] at none
    cases none
  · obtain rfl : d = c := Option.some.inj (hd.symm.trans (h.filling?_eq.trans hc))
    obtain ⟨freed, other⟩ := banks id (by rw [h.record_eq]; exact hid)
    rw [freeBank?_eq]
    cases id with
    | bank0 =>
      have free : (cutFilling x).stats.bank0.state = .free := congrArg Bank.state freed
      rw [if_pos free, if_pos (.inr rfl)]
    | bank1 =>
      have free : (cutFilling x).stats.bank1.state = .free := congrArg Bank.state freed
      have other : (cutFilling x).stats.bank0 =
          if s.stats.bank0.state = .waiting then { s.stats.bank0 with state := .evaluating } else s.stats.bank0 := by
        rw [← h.target.stats_eq]
        exact other
      rw [other, if_pos free]
      by_cases waiting : s.stats.bank0.state = .waiting
      · simp [waiting]
      · rw [if_neg waiting]
        by_cases idle : s.stats.bank0.state = .free <;> simp [idle]

end FrameOpens

/-- Settles O9: the target, the cut, the new record, the held orders and the bank. -/
theorem frameStartOpensARecord : Obligations.FrameStartOpensARecord := by
  intro s g k b w start hl hh hw hb hk hin
  obtain ⟨x, y, v, u, h⟩ := frameOpens start hl hh hw hb hk hin
  obtain ⟨phys, fromFree, sameFree, number⟩ := h.pool hin
  obtain ⟨id, metered, record⟩ := h.record hin
  obtain ⟨same, cut⟩ := h.otherRecords hin
  obtain ⟨hold, metering⟩ := h.heldOrders hin
  refine ⟨u, h.run, phys, fromFree, sameFree, number, ?_, ?_, ?_, ?_, ?_, ?_, ?_, ?_, ?_, ?_, ?_, ?_, ?_, ?_, ?_, ?_, ?_, same, cut,
    hold, metering, fun none => ⟨fun id hid free => ?claimed, h.notMetered hin none⟩,
    fun c id hc hid => (h.claims hin (h.freed hc hid)).1⟩
  case claimed =>
    obtain ⟨bank, notMetered, other, claimed⟩ := h.claims hin (h.found none hid free)
    refine ⟨bank, notMetered, ?_, claimed⟩
    rw [other, h.uncut none, bank_congr h.target.stats_eq]
  all_goals rw [record]
  · rfl
  · exact (h.number_eq hin).symm
  iterate 8 rfl
  · show (s.focusStood g _) = true ↔ _
    simp only [State.focusStood, Bool.and_eq_true, beq_iff_eq, decide_eq_true_eq]
    exact Iff.rfl
  iterate 6 rfl

end Sys2Proof.Machine
end

section
/-! PROOFS. The crop offset and the motion figure of a frame (O10). -/

namespace Sys2Proof.Machine
set_option Elab.async false

variable {s t u : State} {g : Geometry} {f : FrameRecord}

/-! ### The nearest entry -/

/-- The nearest entry is the first of the least distance (R148). -/
theorem nearest_eq {m : Time} {pre post : List GyroEntry} {e : GyroEntry}
    (before : ∀ q ∈ pre, (timeDiff e.time m).natAbs < (timeDiff q.time m).natAbs)
    (after : ∀ q ∈ post, (timeDiff e.time m).natAbs ≤ (timeDiff q.time m).natAbs) :
    nearest m (pre ++ e :: post) = some e := by
  obtain ⟨step, hstep⟩ : ∃ step : GyroEntry → GyroEntry → GyroEntry, step = fun b x =>
    if (timeDiff x.time m).natAbs < (timeDiff b.time m).natAbs then x else b := ⟨_, rfl⟩
  have keeps : ∀ l : List GyroEntry, (∀ q ∈ l, (timeDiff e.time m).natAbs ≤ (timeDiff q.time m).natAbs) →
      l.foldl step e = e := by
    intro l
    induction l with
    | nil => exact fun _ => rfl
    | cons y l ih =>
      intro h
      have stay : step e y = e := by
        rw [hstep]
        exact if_neg (Nat.not_lt.mpr (h y (List.mem_cons_self ..)))
      rw [List.foldl_cons, stay]
      exact ih fun z hz => h z (List.mem_cons_of_mem _ hz)
  have farther : ∀ (l : List GyroEntry) (b : GyroEntry), (timeDiff e.time m).natAbs < (timeDiff b.time m).natAbs →
      (∀ q ∈ l, (timeDiff e.time m).natAbs < (timeDiff q.time m).natAbs) →
      (timeDiff e.time m).natAbs < (timeDiff (l.foldl step b).time m).natAbs := by
    intro l
    induction l with
    | nil => exact fun b hb _ => hb
    | cons y l ih =>
      intro b hb h
      refine ih (step b y) ?_ fun z hz => h z (List.mem_cons_of_mem _ hz)
      rw [hstep]
      dsimp only
      split
      · exact h y (List.mem_cons_self ..)
      · exact hb
  cases pre with
  | nil =>
    show some (post.foldl _ e) = some e
    rw [← hstep, keeps post after]
  | cons p ps =>
    have taken : step (ps.foldl step p) e = e := by
      rw [hstep]
      exact if_pos (hstep ▸ farther ps p (before p (List.mem_cons_self ..)) fun q hq => before q (List.mem_cons_of_mem _ hq))
    show some ((ps ++ e :: post).foldl _ p) = some e
    rw [← hstep, List.foldl_append, List.foldl_cons, taken, keeps post after]

/-! ### The figures over the window -/

theorem evenTowardZero_eq (x : Int) : evenTowardZero x = 2 * x.tdiv 2 := by
  rw [Int.tdiv_eq_ediv]
  unfold evenTowardZero
  split
  · next even =>
    rw [if_pos (.inr (Int.dvd_of_emod_eq_zero even))]
    omega
  · next odd =>
    have no : ¬(2 : Int) ∣ x := fun h => odd (Int.emod_eq_zero_of_dvd h)
    by_cases pos : 0 < x
    · rw [if_pos pos, if_pos (.inl (by omega))]
      omega
    · rw [if_neg pos, if_neg (by omega)]
      show x + 1 = 2 * (x / 2 + 1)
      omega

/-- The entries around the window and in it (R150). -/
theorem spanning_eq {ws we : Time} {before inside after : List GyroEntry}
    (hb : ∀ q ∈ before, timeDiff q.time ws < 0 ∧ timeDiff q.time we ≤ 0)
    (hi : ∀ q ∈ inside, 0 ≤ timeDiff q.time ws ∧ timeDiff q.time we ≤ 0)
    (ha : ∀ q ∈ after, 0 ≤ timeDiff q.time ws ∧ 0 < timeDiff q.time we) :
    spanning ws we (before ++ inside ++ after) = before.getLast?.toList ++ inside ++ after.head?.toList := by
  have all : ∀ {l : List GyroEntry} {p : GyroEntry → Bool}, (∀ q ∈ l, p q = true) → l.filter p = l :=
    fun h => List.filter_eq_self.mpr h
  have none : ∀ {l : List GyroEntry} {p : GyroEntry → Bool}, (∀ q ∈ l, p q = false) → l.filter p = [] :=
    fun h => List.filter_eq_nil_iff.mpr fun q hq => by rw [h q hq]; nofun
  unfold spanning
  dsimp only
  simp only [List.filter_append]
  rw [all fun q hq => decide_eq_true (hb q hq).1, none fun q hq => decide_eq_false (by have := hi q hq; omega),
    none fun q hq => decide_eq_false (by have := ha q hq; omega),
    none fun q hq => decide_eq_false (by have := hb q hq; omega), all fun q hq => decide_eq_true (hi q hq),
    none fun q hq => decide_eq_false (by have := ha q hq; omega),
    none fun q hq => decide_eq_false (by have := hb q hq; omega),
    none fun q hq => decide_eq_false (by have := hi q hq; omega), all fun q hq => decide_eq_true (ha q hq).2]
  simp

/-- The greatest less the least (R150). -/
theorem rangeOf_eq {l : List Int} {hi lo : Int} (h : l.max? = some hi) (k : l.min? = some lo) :
    (rangeOf l : Int) = hi - lo := by
  cases l with
  | nil => cases h
  | cons a as =>
    have top : as.foldl max a = hi := by rw [List.max?_cons'] at h; exact Option.some.inj h
    have bottom : as.foldl min a = lo := by rw [List.min?_cons'] at k; exact Option.some.inj k
    have above : a ≤ hi := (List.max?_eq_some_iff.mp h).2 a (List.mem_cons_self ..)
    have below : lo ≤ a := (List.min?_eq_some_iff.mp k).2 a (List.mem_cons_self ..)
    show (((as.foldl max a - as.foldl min a).toNat : Nat) : Int) = hi - lo
    rw [top, bottom]
    omega

theorem historyPartial_eq (ws we : Time) (h : List GyroEntry) : historyPartial ws we h =
    decide ((∀ q ∈ h, 0 < timeDiff q.time ws) ∨ ∀ q ∈ h, timeDiff q.time we < 0) := by
  unfold historyPartial
  rw [Bool.eq_iff_iff]
  simp only [Bool.or_eq_true, Bool.not_eq_true', List.any_eq_false, decide_eq_true_eq, Int.not_le]

/-- The clamp changes an offset exactly when it is out of range (R149). -/
theorem clampInt_ne_iff (m : Nat) (x : Int) : clampInt (-m) m x ≠ x ↔ x < -(m : Int) ∨ (m : Int) < x := by
  rw [clampInt_eq (by omega)]
  omega

/-! ### What the unit hands on -/

theorem windowStart_eq (g : Geometry) (f : FrameRecord) :
    windowStart g f = f.tH - BitVec.ofNat 32 g.lat - BitVec.ofNat 32 (min 2000000 f.tHdr) := by
  simp only [windowStart, headerBase, FrameRecord.tClamped, clampNat_zero]

theorem windowEnd_eq (g : Geometry) (f : FrameRecord) :
    windowEnd g f = f.tH - BitVec.ofNat 32 g.lat + BitVec.ofNat 32 (min 2000000 f.readout) := by
  simp only [windowEnd, headerBase, FrameRecord.roClamped, clampNat_zero]

theorem windowMid_eq (g : Geometry) (f : FrameRecord) :
    windowMid g f = f.tH - BitVec.ofNat 32 g.lat +
      BitVec.ofInt 32 (((min 2000000 f.readout : Nat) - (min 2000000 f.tHdr : Nat) : Int) / 2) := by
  simp only [windowMid, headerBase, FrameRecord.roClamped, FrameRecord.tClamped, clampNat_zero]

theorem cropResult_active {e : GyroEntry} (ha : s.steady.state = .active)
    (he : nearest (windowMid g f) s.steady.history = some e) :
    cropResult s g f =
      { ox := evenTowardZero (clampInt (-g.mx) g.mx (rawOffset e.ax (s.interp Knot.ppd16 f.zoomPos)))
        oy := evenTowardZero (clampInt (-g.my) g.my (rawOffset e.ay (s.interp Knot.ppd16 f.zoomPos)))
        m := motionFigure (spanning (windowStart g f) (windowEnd g f) s.steady.history) (s.interp Knot.ppd16 f.zoomPos)
        partly := historyPartial (windowStart g f) (windowEnd g f) s.steady.history
        limited := decide
          (clampInt (-g.mx) g.mx (rawOffset e.ax (s.interp Knot.ppd16 f.zoomPos)) ≠
              rawOffset e.ax (s.interp Knot.ppd16 f.zoomPos) ∨
            clampInt (-g.my) g.my (rawOffset e.ay (s.interp Knot.ppd16 f.zoomPos)) ≠
              rawOffset e.ay (s.interp Knot.ppd16 f.zoomPos)) } := by
  unfold cropResult
  simp only [ha, he]

/-- The third part of O10: by the unit's state and its history. -/
theorem cropResult_spec (s : State) (g : Geometry) (f : FrameRecord) (t' ro : Nat) (ws we mid : Time)
    (ht : t' = min 2000000 f.tHdr) (hro : ro = min 2000000 f.readout)
    (hws : ws = f.tH - BitVec.ofNat 32 g.lat - BitVec.ofNat 32 t')
    (hwe : we = f.tH - BitVec.ofNat 32 g.lat + BitVec.ofNat 32 ro)
    (hmid : mid = f.tH - BitVec.ofNat 32 g.lat + BitVec.ofInt 32 (((ro : Int) - t') / 2)) :
    (s.steady.state = .off →
      cropResult s g f = { ox := 0, oy := 0, m := 0, partly := false, limited := false }) ∧
    (s.steady.state = .faulted →
      cropResult s g f = { ox := 0, oy := 0, m := 255, partly := false, limited := false }) ∧
    (s.steady.state = .active → s.steady.history = [] →
      cropResult s g f = { ox := 0, oy := 0, m := 255, partly := true, limited := false }) ∧
    ∀ (pre post before inside after : List GyroEntry) (e : GyroEntry) (x y hx lx hy ly : Int),
      s.steady.state = .active → s.steady.history = pre ++ e :: post →
      (∀ q ∈ pre, (e.time - mid).toInt.natAbs < (q.time - mid).toInt.natAbs) →
      (∀ q ∈ post, (e.time - mid).toInt.natAbs ≤ (q.time - mid).toInt.natAbs) →
      s.steady.history = before ++ inside ++ after →
      (∀ q ∈ before, (q.time - ws).toInt < 0 ∧ (q.time - we).toInt ≤ 0) →
      (∀ q ∈ inside, 0 ≤ (q.time - ws).toInt ∧ (q.time - we).toInt ≤ 0) →
      (∀ q ∈ after, 0 ≤ (q.time - ws).toInt ∧ 0 < (q.time - we).toInt) →
      ((before.getLast?.toList ++ inside ++ after.head?.toList).map GyroEntry.ax).max? = some hx →
      ((before.getLast?.toList ++ inside ++ after.head?.toList).map GyroEntry.ax).min? = some lx →
      ((before.getLast?.toList ++ inside ++ after.head?.toList).map GyroEntry.ay).max? = some hy →
      ((before.getLast?.toList ++ inside ++ after.head?.toList).map GyroEntry.ay).min? = some ly →
      x = -(roundDiv (e.ax * s.interp Knot.ppd16 f.zoomPos) 1024000) →
      y = -(roundDiv (e.ay * s.interp Knot.ppd16 f.zoomPos) 1024000) →
      cropResult s g f =
        { ox := 2 * (max (-(g.mx : Int)) (min g.mx x)).tdiv 2
          oy := 2 * (max (-(g.my : Int)) (min g.my y)).tdiv 2
          m := min 255 (roundDiv (((hx - lx) + (hy - ly)) * s.interp Knot.ppd16 f.zoomPos) 1024000).toNat
          partly :=
            decide ((∀ q ∈ s.steady.history, 0 < (q.time - ws).toInt) ∨
              ∀ q ∈ s.steady.history, (q.time - we).toInt < 0)
          limited := decide (x < -(g.mx : Int) ∨ g.mx < x ∨ y < -(g.my : Int) ∨ g.my < y) } := by
  subst ht hro
  refine ⟨fun off => ?_, fun faulted => ?_, fun active empty => ?_,
    fun pre post before inside after e x y hx lx hy ly active split' near near' parts hb hi ha mx nx my ny ex ey => ?_⟩
  · unfold cropResult
    simp only [off]
  · unfold cropResult
    simp only [faulted]
  · unfold cropResult
    simp only [active, empty, nearest]
  · have found : nearest (windowMid g f) s.steady.history = some e := by
      rw [split', windowMid_eq, ← hmid]
      exact nearest_eq near near'
    have span : spanning (windowStart g f) (windowEnd g f) s.steady.history =
        before.getLast?.toList ++ inside ++ after.head?.toList := by
      rw [parts, windowStart_eq, windowEnd_eq, ← hws, ← hwe]
      exact spanning_eq hb hi ha
    have rawX : rawOffset e.ax (s.interp Knot.ppd16 f.zoomPos) = x := ex.symm
    have rawY : rawOffset e.ay (s.interp Knot.ppd16 f.zoomPos) = y := ey.symm
    have figure : motionFigure (before.getLast?.toList ++ inside ++ after.head?.toList) (s.interp Knot.ppd16 f.zoomPos) =
        min 255 (roundDiv (((hx - lx) + (hy - ly)) * s.interp Knot.ppd16 f.zoomPos) 1024000).toNat := by
      unfold motionFigure
      dsimp only
      rw [Nat.cast_mul, Nat.cast_add, rangeOf_eq mx nx, rangeOf_eq my ny]
    have limits : decide (clampInt (-g.mx) g.mx x ≠ x ∨ clampInt (-g.my) g.my y ≠ y) =
        decide (x < -(g.mx : Int) ∨ g.mx < x ∨ y < -(g.my : Int) ∨ g.my < y) :=
      decide_eq_decide.mpr (by rw [clampInt_ne_iff, clampInt_ne_iff, or_assoc])
    rw [cropResult_active active found, rawX, rawY, span, figure, limits, historyPartial_eq, evenTowardZero_eq,
      evenTowardZero_eq, windowStart_eq, windowEnd_eq, ← hws, ← hwe, clampInt_eq (by omega), clampInt_eq (by omega)]
    rfl

end Sys2Proof.Machine
end

section
/-! PROOFS. Pixel writes into a FILLING record, and the last byte (O10). -/

namespace Sys2Proof.Machine
set_option Elab.async false

variable {s t u v : State} {g : Geometry} {k b o : Nat} {w : HostTransaction}

/-! ### What a completion leaves of the record and the latched bits -/

/-- The crop-limit bit is as before. -/
def SameLimit (s t : State) : Prop :=
  t.status.latched.getLsbD LatchedBit.cropLimit.index = s.status.latched.getLsbD LatchedBit.cropLimit.index

namespace SameLimit

theorem refl (s : State) : SameLimit s s := rfl

theorem trans (h : SameLimit s t) (k : SameLimit t u) : SameLimit s u := Eq.trans k h

theorem ite {c : Prop} [Decidable c] (h : SameLimit s t) (k : SameLimit s u) : SameLimit s (if c then t else u) := by
  split <;> assumption

theorem of_status (h : t.status = s.status) : SameLimit s t := by unfold SameLimit; rw [h]

theorem latch {x : LatchedBit} (s : State) (hx : x.mask.getLsbD LatchedBit.cropLimit.index = false := by decide) :
    SameLimit s (latch x s) := by
  unfold SameLimit Machine.latch
  rw [BitVec.getLsbD_or, hx, Bool.or_false]

theorem giveFocus (clears : Bool) (asked : Nat) (s : State) : SameLimit s (giveFocus clears asked s) := by
  have target : (giveTarget .focus clears asked s).status = s.status := by rw [giveTarget_focus_eq]
  refine trans (of_status target) ?_
  unfold Machine.giveFocus focusArrived
  dsimp only
  split
  · exact ite (of_status rfl) (.refl _)
  · exact ite (trans (of_status rfl) (latch _)) (.refl _)
  · exact .refl _

/-- A frame that resolves unmetered latches no crop limit. -/
theorem resolveUnmetered (s : State) : SameLimit s (resolveUnmetered s) := by
  have failed : ∀ why r u, SameLimit u (failSearchBack why r u) := fun why r u =>
    (trans (of_status rfl) (latch (setFocusState (.failed why) u))).trans (giveFocus _ _ _)
  unfold Machine.resolveUnmetered
  split
  · unfold countFrame
    exact ite (ite (trans (of_status rfl) (failed _ _ _)) (of_status rfl)) (.refl s)
  · exact .refl s

theorem choose (x : Inflight) (n b : Nat) (s : State) : SameLimit s (choose x n b s) := by
  unfold Machine.choose
  dsimp only
  split
  · next y j e hy _ _ =>
    obtain ⟨-, -, -, -, rfl⟩ := pin_some _ hy
    refine trans (of_status ?_) (trans (ite (latch _) (.refl _)) (latch _))
    rw [(endShoot_changes _ _).status_eq]
    rfl
  · exact of_status (endShoot_changes s _).status_eq

theorem reportCompletion (n b : Nat) (s : State) : SameLimit s (reportCompletion n b s) := by
  have tested : ∀ u, SameLimit u (testFrame u n b) := by
    intro u
    unfold testFrame
    split
    · exact .refl u
    · exact ite (ite (choose _ _ _ _) (of_status rfl)) (.refl u)
  have decided : ∀ u, SameLimit u (decideIfOver u) := by
    intro u
    unfold decideIfOver decideShoot
    split
    · refine ite ?_ (.refl u)
      split
      · exact ite (choose _ _ _ _) (of_status (endShoot_changes u _).status_eq)
      · exact of_status (endShoot_changes u _).status_eq
    · exact .refl u
  cases hx : s.store.inflight with
  | none => exact of_status (congrArg State.status ((reportCompletion_shoots n b s).2 hx) :)
  | some x =>
    rw [reportCompletion_eq hx]
    refine trans (t := s.asking _ _) (of_status ?_) (trans (tested _) (decided _))
    rfl

end SameLimit

/-- A record as before, or PINNED; and the map as before. -/
def Pins (b : Nat) (s t : State) : Prop :=
  (t.record b = s.record b ∨ t.record b = { s.record b with state := .pinned }) ∧ t.frames.map = s.frames.map

namespace Pins

theorem of_frames (h : t.frames = s.frames) : Pins b s t := ⟨.inl (record_congr h b), by rw [h]⟩

theorem trans (h : Pins b s t) (k : Pins b t u) : Pins b s u := by
  obtain ⟨h, hm⟩ := h
  obtain ⟨k, km⟩ := k
  refine ⟨?_, km.trans hm⟩
  rcases k with k | k <;> rcases h with h | h <;> rw [h] at k
  · exact .inl k
  · exact .inr k
  · exact .inr k
  · exact .inr k

theorem choose (x : Inflight) (n c : Nat) (s : State) : Pins b s (choose x n c s) := by
  unfold Machine.choose
  dsimp only
  split
  · next y j e hy _ _ =>
    obtain ⟨-, -, -, -, e'⟩ := pin_some _ hy
    have pinned : Pins b s y := by
      refine ⟨?_, by rw [e']⟩
      have table : y.record b = (setRecord c { s.record c with state := .pinned } s).record b := by
        rw [e']
        rfl
      rw [table]
      rcases record_setRecord_or c b { s.record c with state := .pinned } s with e | ⟨rfl, -, e⟩ <;> rw [e]
      · exact .inl rfl
      · exact .inr rfl
    refine pinned.trans (of_frames ?_)
    exact (((reserve_changes y _ _ _).trans (endShoot_changes _ _)).trans
      ((latchIf_changes _ _ _).trans (latch_changes _ _))).frames_eq
  · exact of_frames (endShoot_changes s _).frames_eq

theorem reportCompletion (n c : Nat) (s : State) : Pins b s (reportCompletion n c s) := by
  have tested : ∀ u, Pins b u (testFrame u n c) := by
    intro u
    unfold testFrame
    split
    · exact of_frames rfl
    · dsimp only
      split
      · split
        · exact choose _ _ _ _
        · exact of_frames rfl
      · exact of_frames rfl
  have decided : ∀ u, Pins b u (decideIfOver u) := by
    intro u
    unfold decideIfOver decideShoot
    split
    · split
      · split
        · split
          · exact choose _ _ _ _
          · exact of_frames (endShoot_changes u _).frames_eq
        · exact of_frames (endShoot_changes u _).frames_eq
      · exact of_frames rfl
    · exact of_frames rfl
  cases hx : s.store.inflight with
  | none => exact of_frames (congrArg State.frames ((reportCompletion_shoots n c s).2 hx) :)
  | some x =>
    rw [reportCompletion_eq hx]
    refine trans (t := s.asking _ _) (of_frames ?_) (trans (tested _) (decided _))
    rfl

end Pins

/-- The search resolves a frame alike in states alike to it. -/
theorem Optics.resolveUnmetered (h : Optics s t) : Optics (resolveUnmetered s) (resolveUnmetered t) := by
  unfold Machine.resolveUnmetered
  rw [h.focus, h.time]
  split
  · next r _ _ =>
    have counted : Optics (setSearch { r with resolved := r.resolved + 1 } s)
        (setSearch { r with resolved := r.resolved + 1 } t) := h.setFocus fun f => { f with search := some _ }
    unfold countFrame
    exact .ite Iff.rfl (.ite Iff.rfl (counted.failSearchBack _ _) counted) h
  · exact h

/-! ### A pixel write past the header -/

/-- A pixel write, up to the frame's completion (R32). -/
def State.filled (s : State) (g : Geometry) (b o : Nat) (w : HostTransaction) : State :=
  giveToBank g o w (s.record b).bank
    (setRecord b { s.record b with received := satAdd max32 (s.record b).received (pixelBytes g o w) } s)

theorem pixelWrite_eq (g : Geometry) (k b o : Nat) (w : HostTransaction) (s : State) :
    pixelWrite g k b o w s = if carriesLast g o w then completeFrame g k b (s.filled g b o w) else s.filled g b o w := rfl

theorem filled_bank (g : Geometry) (b o : Nat) (w : HostTransaction) (s : State) :
    (s.filled g b o w).frames =
      (setRecord b { s.record b with received := satAdd max32 (s.record b).received (pixelBytes g o w) } s).frames ∧
    ((s.record b).bank = none → (s.filled g b o w).stats = s.stats) ∧
    (∀ id, (s.record b).bank = some id →
      (s.filled g b o w).bank id = accumulate g o w (s.bank id) ∧ (s.filled g b o w).bank id.other = s.bank id.other) := by
  unfold State.filled
  refine ⟨(giveToBank_changes _ g o w _).frames_eq, fun none => ?_, fun id hid => ?_⟩
  · rw [none]
    rfl
  · rw [hid]
    exact ⟨bank_setBank _ _ _, bank_setBank_other _ _ _⟩

theorem filled_changes (g : Geometry) (b o : Nat) (w : HostTransaction) (s : State) :
    Changes [.frames, .stats] s (s.filled g b o w) := (changes_frames s _).trans (giveToBank_changes _ g o w _)

theorem offerRawWrite_filling (ho : 32 ≤ o) (hs : (s.record (s.phys k)).state = .filling) :
    offerRawWrite g k o w s = (pixelWrite g k (s.phys k) o w s, true) := by
  unfold offerRawWrite
  rw [if_neg (by omega)]
  simp only [hs]

/-- The second part of O10: a write that does not complete its frame. -/
theorem otherPixelWrites (s : State) (g : Geometry) (k o : Nat) (w : HostTransaction) (f : FrameRecord) (ho : 32 ≤ o)
    (hf : f = s.record (s.phys k)) :
    (f.state = .empty → offerRawWrite g k o w s = (s, true)) ∧
    (f.state = .filling →
      ¬(o ≤ g.h * g.stride + 2 * g.w - 1 ∧ g.h * g.stride + 2 * g.w - 1 < o + w.len ∧
          w.mask.getD (g.h * g.stride + 2 * g.w - 1 - o) false = true) →
      ∀ n : Nat,
        n = (List.range w.len).countP (fun i =>
          decide (g.stride ≤ o + i ∧ (o + i) / g.stride ≤ g.h ∧ (o + i) % g.stride < 2 * g.w) && w.mask.getD i false) →
        ∃ u, offerRawWrite g k o w s = (u, true) ∧
          u.frames =
            { s.frames with
              table := s.frames.table.set (s.phys k) { f with received := min (2 ^ 32 - 1) (f.received + n) } } ∧
          (f.bank = none → u.stats = s.stats) ∧
          (∀ id, f.bank = some id → u.bank id = accumulate g o w (s.bank id) ∧ u.bank id.other = s.bank id.other) ∧
          u =
            { s with
              frames := u.frames, stats := { s.stats with bank0 := u.stats.bank0, bank1 := u.stats.bank1 } }) := by
  subst hf
  refine ⟨fun empty => ?_, fun filling early n hn => ?_⟩
  · unfold offerRawWrite
    rw [if_neg (by omega)]
    simp only [empty]
  · have before : carriesLast g o w = false := by
      by_contra last
      unfold carriesLast Geometry.lastByte at last
      simp only [Bool.not_eq_false, Bool.and_eq_true, decide_eq_true_eq, and_assoc] at last
      exact early last
    obtain ⟨frames, none, some⟩ := filled_bank g (s.phys k) o w s
    refine ⟨s.filled g (s.phys k) o w, ?_, ?_, none, some, ?_⟩
    · rw [offerRawWrite_filling ho filling, pixelWrite_eq, before]
      rfl
    · rw [frames, hn]
      rfl
    · unfold State.filled
      cases (s.record (s.phys k)).bank with
      | none => rfl
      | some id => cases id <;> rfl

end Sys2Proof.Machine
end

section
/-! PROOFS. The last byte completes the frame (O10). -/

namespace Sys2Proof.Machine
set_option Elab.async false

variable {s t u v : State} {g : Geometry} {k b o : Nat} {w : HostTransaction} {c : CropResult}

/-! ### The record as it is handed on -/

/-- What the unit hands on depends on the lens, the Steadying unit and the header only. -/
theorem cropResult_congr {f f' : FrameRecord} (hl : t.lens = s.lens) (hs : t.steady = s.steady) (htH : f'.tH = f.tH)
    (ht : f'.tHdr = f.tHdr) (hr : f'.readout = f.readout) (hz : f'.zoomPos = f.zoomPos) :
    cropResult t g f' = cropResult s g f := by
  simp only [cropResult, windowMid, windowStart, windowEnd, headerBase, FrameRecord.tClamped, FrameRecord.roClamped,
    interp_congr hl, hs, htH, ht, hr, hz]

/-- Record b at its frame's completion (R32): COMPLETE, with what the Steadying unit and the focus hand on. -/
def State.ended (s : State) (g : Geometry) (b : Nat) (c : CropResult) : FrameRecord :=
  { s.record b with
    state := .complete
    completion := some s.partTime
    short := (s.record b).received != 2 * g.w * g.h
    ox := c.ox
    oy := c.oy
    m := c.m
    motionPartial := c.partly
    atCompletion := some (s.focus.state, s.focus.d)
    focusStill := (s.record b).focusStill && s.focusStood g (s.record b) }

/-- The state before the bank and the search take the completed frame (R32, R148, R83). -/
def State.readied (s : State) (g : Geometry) (k b : Nat) (c : CropResult) : State :=
  applyFocusAt g b (applyCrop k b c
    (setRecord b
      { s.record b with
        state := .complete, completion := some s.partTime, short := (s.record b).received != 2 * g.w * g.h } s))

theorem completeFrame_eq (hb : b < s.frames.table.length) :
    completeFrame g k b s = reportCompletion (s.record b).number b
      (handOnBank k b (s.readied g k b (cropResult s g (s.record b)))) := by
  unfold completeFrame
  dsimp only
  rw [record_setRecord s hb]
  rfl

theorem readied_changes (s : State) (g : Geometry) (k b : Nat) (c : CropResult) :
    Changes [.frames, .steady, .status] s (s.readied g k b c) :=
  (((changes_frames s _).trans (applyCrop_changes _ _ _ _)).trans (changes_frames _ _)).mono (by decide)

theorem readied_record (hb : b < s.frames.table.length) : (s.readied g k b c).record b = s.ended g b c := by
  have first : ∀ f, (setRecord b f s).record b = f := record_setRecord s hb
  have cropped : (applyCrop k b c
      (setRecord b
        { s.record b with
          state := .complete, completion := some s.partTime, short := (s.record b).received != 2 * g.w * g.h } s)).record b =
      { s.record b with
        state := .complete, completion := some s.partTime, short := (s.record b).received != 2 * g.w * g.h
        ox := c.ox, oy := c.oy, m := c.m, motionPartial := c.partly } := by
    unfold applyCrop
    rw [record_congr (latchIf_frames _ _ _), first]
    exact record_setRecord _ (by simpa using hb) _
  unfold State.readied applyFocusAt
  rw [record_setRecord _ (by simpa [applyCrop] using hb), cropped]
  simp only [State.focusStood, applyCrop, latchIf_lens, latchIf_focus]
  rfl

theorem readied_map : (s.readied g k b c).frames.map = s.frames.map.set k { s.entry k with ox := c.ox, oy := c.oy } := by
  unfold State.readied applyFocusAt applyCrop
  dsimp only [setRecord_frames]
  rw [latchIf_frames]
  rfl

theorem readied_steady : (s.readied g k b c).steady = { s.steady with ox := c.ox, oy := c.oy, m := c.m } := by
  unfold State.readied applyFocusAt applyCrop
  rw [setRecord_steady, latchIf_steady]
  rfl

theorem readied_latched (i : Nat) : (s.readied g k b c).status.latched.getLsbD i =
    (s.status.latched.getLsbD i || c.limited && LatchedBit.cropLimit.mask.getLsbD i) := by
  unfold State.readied applyFocusAt applyCrop
  rw [setRecord_status]
  unfold latchIf
  cases c.limited with
  | false => exact (Bool.or_false _).symm
  | true =>
    rw [if_pos rfl, latch_status, BitVec.getLsbD_or]
    exact congrArg (s.status.latched.getLsbD i || ·) (Bool.true_and _).symm

/-! ### What takes the completed frame -/

/-- The frame goes to its bank, or, without one, to the search (R53, R83). -/
theorem handOnBank_eq (k b : Nat) (s : State) :
    handOnBank k b s = match (s.record b).bank with
      | some id => handOver id { record := s.record b, owner := k } s
      | none => resolveUnmetered s := rfl

theorem SameLimit.handOnBank (k b : Nat) (s : State) : SameLimit s (handOnBank k b s) := by
  rw [handOnBank_eq]
  split
  · exact of_status (handOver_changes s _ _).status_eq
  · exact SameLimit.resolveUnmetered s

/-- A completed frame at its place in the file. -/
structure FrameEnds (s t : State) (g : Geometry) (k b : Nat) (c : CropResult) (u : State) : Prop where
  record : u.record b = t.ended g b c ∨ u.record b = { t.ended g b c with state := .pinned }
  alone  : s.store.inflight = none → u.record b = t.ended g b c
  map    : u.frames.map = s.frames.map.set k { s.entry k with ox := c.ox, oy := c.oy }
  steady : u.steady = { s.steady with ox := c.ox, oy := c.oy, m := c.m }
  limit  : u.status.latched.getLsbD LatchedBit.cropLimit.index =
    (s.status.latched.getLsbD LatchedBit.cropLimit.index || c.limited)
  search : (s.record b).bank = none → u.focus = (resolveUnmetered s).focus ∧ u.lens = (resolveUnmetered s).lens
  banks  : ∀ id, (s.record b).bank = some id →
    u.focus = s.focus ∧ u.lens = s.lens ∧ u.bank id.other = t.bank id.other ∧
    u.bank id =
      { t.bank id with
        state :=
          if (t.bank id.other).state = .evaluating ∨ (t.bank id.other).state = .writing then .waiting else .evaluating
        copy := some { record := t.ended g b c, owner := k } }
  told   : ∃ v, u = reportCompletion (s.record b).number b v ∧ v.store = s.store ∧ v.orders = s.orders ∧
    v.record b = t.ended g b c

theorem frameEnds {f : FrameRecord} (ht : Changes [.frames, .stats] s t) (hm : t.frames.map = s.frames.map)
    (hb : b < t.frames.table.length) (hf : t.record b = f) (hn : f.number = (s.record b).number)
    (hbank : f.bank = (s.record b).bank) (hc : cropResult t g f = c) :
    FrameEnds s t g k b c (completeFrame g k b t) := by
  obtain ⟨e, he⟩ : ∃ e, e = t.readied g k b c := ⟨_, rfl⟩
  obtain ⟨v, hv⟩ : ∃ v, v = handOnBank k b e := ⟨_, rfl⟩
  have run : completeFrame g k b t = reportCompletion (s.record b).number b v := by
    rw [completeFrame_eq hb, hf, hn, hc, ← he, ← hv]
  have readied : Changes [.frames, .steady, .status] t e := he ▸ readied_changes t g k b c
  have handed : Changes (.stats :: lensParts) e v := hv ▸ handOnBank_changes (s := e) k b
  have recorded : e.record b = t.ended g b c := he ▸ readied_record hb
  have kept : v.record b = t.ended g b c := (record_congr handed.frames_eq b).trans recorded
  have bank : (e.record b).bank = (s.record b).bank := by
    rw [recorded, ← hbank, ← hf]
    rfl
  obtain ⟨u, hu⟩ : ∃ u, u = reportCompletion (s.record b).number b v := ⟨_, rfl⟩
  have pins : Pins b v u := hu ▸ Pins.reportCompletion _ _ v
  have told : Changes shotParts v u := hu ▸ reportCompletion_changes _ _ _
  rw [run, ← hu]
  refine ⟨?_, fun alone => ?_, ?_, ?_, ?_, fun none => ?_, fun id hid => ?_, v, hu, ?_, ?_, kept⟩
  · rw [← kept]
    exact pins.1
  · have quiet : v.store.inflight = none := by
      rw [handed.store_eq, readied.store_eq, ht.store_eq, alone]
    rw [← kept, hu]
    exact record_congr (congrArg State.frames ((reportCompletion_shoots (s.record b).number b v).2 quiet) :) b
  · have entry : t.entry k = s.entry k := by
      unfold State.entry
      rw [hm]
    rw [pins.2, handed.frames_eq, he, readied_map, hm, entry]
  · rw [told.steady_eq, handed.steady_eq, he, readied_steady, ht.steady_eq]
  · have limit : SameLimit e u := (hv ▸ SameLimit.handOnBank k b e : SameLimit e v).trans
      (hu ▸ SameLimit.reportCompletion _ _ v)
    have own : LatchedBit.cropLimit.mask.getLsbD LatchedBit.cropLimit.index = true := by decide
    rw [limit, he, readied_latched, own, Bool.and_true, ht.status_eq]
  · have optics : Optics s e := by
      refine ⟨readied.lens_eq.trans ht.lens_eq, readied.focus_eq.trans ht.focus_eq,
        readied.partTime_eq.trans ht.partTime_eq, fun i hi => ?_⟩
      rw [he, readied_latched, ht.status_eq, hi, Bool.true_or]
    have resolved : v = resolveUnmetered e := by
      rw [hv, handOnBank_eq, bank, none]
    rw [told.focus_eq, told.lens_eq, resolved]
    exact ⟨optics.resolveUnmetered.focus, optics.resolveUnmetered.lens⟩
  · have over' : v = handOver id { record := t.ended g b c, owner := k } e := by
      rw [hv, handOnBank_eq, bank, hid, recorded]
    have given : Changes [.stats] e v := over' ▸ handOver_changes e _ _
    obtain ⟨mine, other⟩ := handOver_banks e id { record := t.ended g b c, owner := k }
    have same : ∀ i, e.bank i = t.bank i := bank_congr readied.stats_eq
    rw [told.focus_eq, told.lens_eq, given.focus_eq, given.lens_eq, readied.focus_eq, readied.lens_eq, ht.focus_eq,
      ht.lens_eq, bank_congr told.stats_eq, bank_congr told.stats_eq, over', mine, other, same, same]
    exact ⟨rfl, rfl, rfl, rfl⟩
  · rw [handed.store_eq, readied.store_eq, ht.store_eq]
  · rw [handed.orders_eq, readied.orders_eq, ht.orders_eq]

/-- The last byte completes the frame its record is filled with. -/
theorem lastByteEnds (ho : 32 ≤ o) (hs : (s.record (s.phys k)).state = .filling)
    (hb : s.phys k < s.frames.table.length) (h0 : o ≤ g.h * g.stride + 2 * g.w - 1)
    (h1 : g.h * g.stride + 2 * g.w - 1 < o + w.len) (hm : w.mask.getD (g.h * g.stride + 2 * g.w - 1 - o) false = true)
    (hc : c = cropResult s g (s.record (s.phys k))) :
    ∃ u, offerRawWrite g k o w s = (u, true) ∧
      FrameEnds s (s.filled g (s.phys k) o w) g k (s.phys k) c u := by
  obtain ⟨b, hbk⟩ : ∃ b, b = s.phys k := ⟨_, rfl⟩
  rw [← hbk] at hb hc hs ⊢
  have last : carriesLast g o w = true := by
    unfold carriesLast Geometry.lastByte
    simp only [h0, h1, hm, and_self, decide_true, Bool.and_true]
  obtain ⟨frames, -, -⟩ := filled_bank g b o w s
  have filled : Changes [.frames, .stats] s (s.filled g b o w) := filled_changes g b o w s
  refine ⟨completeFrame g k b (s.filled g b o w), ?_, ?_⟩
  · rw [offerRawWrite_filling ho (hbk ▸ hs), pixelWrite_eq, ← hbk, if_pos last]
  · refine frameEnds (f := { s.record b with received := satAdd max32 (s.record b).received (pixelBytes g o w) })
      filled ?_ ?_ ?_ rfl rfl ?_
    · rw [frames]
      rfl
    · rw [frames]
      simpa using hb
    · rw [record_congr frames, record_setRecord s hb]
    · rw [hc]
      exact cropResult_congr filled.lens_eq filled.steady_eq rfl rfl rfl rfl

namespace FrameEnds

theorem same (h : FrameEnds s t g k b c u) : { u.record b with state := .complete } = t.ended g b c := by
  rcases h.record with e | e <;> rw [e] <;> rfl

theorem state (h : FrameEnds s t g k b c u) :
    ((u.record b).state = .complete ∨ (u.record b).state = .pinned) ∧
      (s.store.inflight = none → (u.record b).state = .complete) := by
  refine ⟨?_, fun alone => by rw [h.alone alone]; rfl⟩
  rcases h.record with e | e <;> rw [e]
  · exact .inl rfl
  · exact .inr rfl

/-- A field other than the state is that of the ended record. -/
theorem field {α : Type} (h : FrameEnds s t g k b c u) (get : FrameRecord → α)
    (hget : get { u.record b with state := .complete } = get (u.record b)) : get (u.record b) = get (t.ended g b c) := by
  rw [← hget, h.same]

theorem entry (h : FrameEnds s t g k b c u) (hk : k < s.frames.map.length) :
    u.entry k = { phys := s.phys k, ox := c.ox, oy := c.oy } := by
  unfold State.entry
  rw [h.map, List.getD_eq_getElem?_getD, List.getElem?_set_self hk]
  rfl

end FrameEnds

/-- Settles O10: the last byte, other pixel writes, and what the Steadying unit hands on. -/
theorem lastByteCompletesTheFrame : Obligations.LastByteCompletesTheFrame := by
  refine ⟨fun s g k o w c ho hs hb h0 h1 hm hc => ?_, otherPixelWrites, cropResult_spec⟩
  obtain ⟨u, run, h⟩ := lastByteEnds ho hs hb h0 h1 hm hc
  obtain ⟨frames, noBank, bank⟩ := filled_bank g (s.phys k) o w s
  have filled : Changes [.frames, .stats] s (s.filled g (s.phys k) o w) := filled_changes g _ o w s
  have given : (s.filled g (s.phys k) o w).record (s.phys k) =
      { s.record (s.phys k) with received := satAdd max32 (s.record (s.phys k)).received (pixelBytes g o w) } := by
    rw [record_congr frames, record_setRecord s hb]
  refine ⟨u, run, h.state.1, h.state.2, (h.field FrameRecord.completion rfl).trans ?_,
    (h.field FrameRecord.number rfl).trans ?_, (h.field FrameRecord.received rfl).trans ?_, ?_,
    (h.field FrameRecord.atCompletion rfl).trans ?_, ?_,
    ⟨h.field FrameRecord.ox rfl, h.field FrameRecord.oy rfl, h.field FrameRecord.m rfl,
      h.field FrameRecord.motionPartial rfl⟩, h.entry, h.steady, h.limit, h.search, fun id hid => ?_, ?_⟩
  · exact congrArg some filled.partTime_eq
  · exact (congrArg FrameRecord.number given :)
  · exact congrArg FrameRecord.received given
  · rw [h.field FrameRecord.short rfl, h.field FrameRecord.received rfl]
    exact bne_iff_ne
  · show some ((s.filled g (s.phys k) o w).focus.state, (s.filled g (s.phys k) o w).focus.d) = _
    rw [filled.focus_eq]
  · rw [h.field FrameRecord.focusStill rfl]
    simp only [State.ended, given, State.focusStood, filled.lens_eq, Bool.and_eq_true, beq_iff_eq, decide_eq_true_eq]
    exact Iff.rfl
  · obtain ⟨focus, lens, other, mine⟩ := h.banks id hid
    obtain ⟨fed, kept⟩ := bank id hid
    rw [fed, kept] at mine
    rw [kept] at other
    rw [h.same]
    exact ⟨focus, lens, other, mine⟩
  · obtain ⟨v, told, store, orders, record⟩ := h.told
    exact ⟨v, told, store, orders, record.trans h.same.symm⟩

end Sys2Proof.Machine
end

section
/-! PROOFS. The windows: where a host transaction goes out at, the pieces of a VIEW read, and the report of a PICTURE read
at its end (O53). -/

namespace Sys2Proof.Machine
set_option Elab.async false

variable {s t u v : State} {c : HostTransaction} {a k o : Nat}

/-! ### The pieces of a VIEW read -/

/-- The addresses of a piece's bytes. -/
def Piece.bytes (q : Piece) : List Nat := (List.range q.len).map (q.addr + ·)

/-- A piece has a byte and stays in its 256-byte block (R11). -/
def Piece.Fits (q : Piece) : Prop := 1 ≤ q.len ∧ q.addr % 256 + q.len ≤ 256

theorem Piece.bytes_single (a : Nat) : Piece.bytes { addr := a, len := 1 } = [a] := rfl

/-- A piece begun one byte earlier. -/
theorem Piece.bytes_succ {q : Piece} (h : a + 1 = q.addr) : Piece.bytes { addr := a, len := q.len + 1 } = a :: q.bytes := by
  simp only [Piece.bytes, List.range_succ_eq_map, List.map_cons, List.map_map, ← h]
  refine congrArg (a :: ·) (List.map_congr_left fun i _ => ?_)
  show a + (i + 1) = a + 1 + i
  omega

theorem Piece.fits_single (a : Nat) : Piece.Fits { addr := a, len := 1 } :=
  ⟨Nat.le_refl 1, by show a % 256 + 1 ≤ 256; omega⟩

theorem Piece.fits_succ {q : Piece} (h : a + 1 = q.addr) (block : a / 256 = q.addr / 256) (fits : q.Fits) :
    Piece.Fits { addr := a, len := q.len + 1 } := by
  obtain ⟨-, inside⟩ := fits
  refine ⟨by show 1 ≤ q.len + 1; omega, ?_⟩
  show a % 256 + (q.len + 1) ≤ 256
  omega

/-- One byte more in front: its address before the others, and each piece still in its block. -/
theorem addByte_spec (p : Option Nat × Nat) (l : List (Option Nat × Piece)) (h : ∀ q ∈ l, q.2.Fits) :
    (addByte p l).flatMap (fun q => q.2.bytes) = p.2 :: l.flatMap (fun q => q.2.bytes) ∧ ∀ q ∈ addByte p l, q.2.Fits := by
  cases l with
  | nil => exact ⟨by simp [addByte, Piece.bytes_single], by simpa [addByte] using Piece.fits_single p.2⟩
  | cons q rest =>
    obtain ⟨line, q⟩ := q
    rw [List.forall_mem_cons] at h
    obtain ⟨first, others⟩ := h
    unfold addByte
    dsimp only
    split
    · next joins =>
      obtain ⟨-, next', block⟩ := joins
      refine ⟨?_, List.forall_mem_cons.mpr ⟨Piece.fits_succ next' block first, others⟩⟩
      rw [List.flatMap_cons, List.flatMap_cons, Piece.bytes_succ next', List.cons_append]
    · refine ⟨?_, List.forall_mem_cons.mpr ⟨Piece.fits_single p.2, List.forall_mem_cons.mpr ⟨first, others⟩⟩⟩
      rw [List.flatMap_cons, Piece.bytes_single, List.singleton_append]

theorem foldr_addByte_spec (l : List (Option Nat × Nat)) :
    (l.foldr addByte []).flatMap (fun q => q.2.bytes) = l.map Prod.snd ∧ ∀ q ∈ l.foldr addByte [], q.2.Fits := by
  induction l with
  | nil => exact ⟨rfl, nofun⟩
  | cons p l ih =>
    obtain ⟨bytes, fits⟩ := addByte_spec p _ ih.2
    exact ⟨by rw [List.foldr_cons, bytes, ih.1, List.map_cons], fits⟩

/-- The first part of O53: the pieces are the read's bytes in order, each within a block. -/
theorem viewPieces_spec (s : State) (v : ViewWindow) (a n : Nat) :
    (s.viewPieces v a n).flatMap (fun q => (List.range q.len).map (q.addr + ·)) =
        (List.range n).map (fun i => (s.viewByte v (a + i)).2) ∧
      ∀ q ∈ s.viewPieces v a n, 1 ≤ q.len ∧ q.addr % 256 + q.len ≤ 256 := by
  obtain ⟨bytes, fits⟩ := foldr_addByte_spec ((List.range n).map fun i => s.viewByte v (a + i))
  unfold State.viewPieces
  refine ⟨?_, fun q hq => ?_⟩
  · rw [List.flatMap_map]
    exact bytes.trans List.map_map
  · obtain ⟨p, hp, rfl⟩ := List.mem_map.mp hq
    exact fits p hp

/-! ### Addresses in the windows -/

theorem poolAddress_eq {p : PoolWindow} (hp : s.windows.pool = some p) (k o : Nat) :
    s.poolAddress k o = p.base + s.phys k * p.bufsz + o := by
  simp only [State.poolAddress, hp]

theorem viewByte_inside {p : PoolWindow} {v : ViewWindow} {q x y : Nat} (hp : s.windows.pool = some p)
    (h0 : v.base ≤ a) (h1 : a < v.base + v.size) (hk : k = (a - v.base) / v.vsz) (hq : q = (a - v.base) % v.vsz)
    (hx : (x : Int) = (q % v.vl / 2 : Nat) + v.mx + (s.entry k).ox)
    (hy : (y : Int) = (q / v.vl : Nat) + v.my + (s.entry k).oy) :
    (s.viewByte v a).2 = p.base + s.phys k * p.bufsz + (y + 1) * v.stride + 2 * x + q % v.vl % 2 := by
  have inside : v.extent.has a = true := decide_eq_true ⟨h0, h1⟩
  unfold State.viewByte
  rw [if_pos inside]
  dsimp only
  rw [← hk, ← hq, ← hx, ← hy, poolAddress_eq hp]
  have offset : (((y : Int) + 1) * v.stride + 2 * x).toNat = (y + 1) * v.stride + 2 * x := by
    rw [← Int.toNat_natCast ((y + 1) * v.stride + 2 * x)]
    push_cast
    rfl
  rw [offset]
  omega

theorem viewByte_outside {v : ViewWindow} (h : a < v.base ∨ v.base + v.size ≤ a) : (s.viewByte v a).2 = a := by
  have outside : ¬v.extent.has a = true := fun inside => by
    have : v.base ≤ a ∧ a < v.base + v.size := of_decide_eq_true inside
    omega
  unfold State.viewByte
  rw [if_neg outside]

/-! ### Arrivals, window by window -/

theorem arrive_raw_read {w : RawWindow} (hd : s.decodeAddress c.addr.toNat = .raw w) (hr : c.dir = .read) :
    arrive c s = (s, .forward
      (s.poolAddress ((c.addr.toNat - w.base) / w.bufsz) ((c.addr.toNat - w.base) % w.bufsz)) none) := by
  simp only [arrive, hd, arriveRaw, hr]

theorem arrive_pool {w : PoolWindow} (hd : s.decodeAddress c.addr.toNat = .pool w) :
    (c.dir = .write → (s.record ((c.addr.toNat - w.base) / w.bufsz)).state = .pinned →
        arrive c s = ((lateWrite s).1, .drop)) ∧
      (c.dir = .read ∨ (s.record ((c.addr.toNat - w.base) / w.bufsz)).state ≠ .pinned →
        arrive c s = (s, .forward c.addr.toNat none)) := by
  simp only [arrive, hd, arrivePool]
  refine ⟨fun hw hp => if_pos ⟨hw, hp⟩, fun h => if_neg fun ⟨hw, hp⟩ => ?_⟩
  rcases h with h | h
  · cases h.symm.trans hw
  · exact h hp

theorem arrive_control (hd : s.decodeAddress c.addr.toNat = .control) :
    (c.dir = .write → c.addr.toNat - s.windows.control < 0x400 →
        arrive c s = (showOrderWrite (c.addr.toNat - s.windows.control) c s, .forward c.addr.toNat none)) ∧
      (c.dir = .read ∨ 0x400 ≤ c.addr.toNat - s.windows.control → arrive c s = (s, .forward c.addr.toNat none)) := by
  simp only [arrive, hd, arriveControl]
  refine ⟨fun hw low => by rw [if_pos ⟨hw, low⟩], fun h => ?_⟩
  refine congrArg (·, _) (if_neg fun ⟨hw, low⟩ => ?_)
  rcases h with h | h
  · cases h.symm.trans hw
  · omega

theorem arrive_picture {w : PictureWindow} {j : Nat} (hd : s.decodeAddress c.addr.toNat = .picture w)
    (hj : j = (c.addr.toNat - w.base) / w.slotSize) (ho : o = (c.addr.toNat - w.base) % w.slotSize) :
    (c.dir = .read → arrive c s = (s, .forward c.addr.toNat (some (j, o)))) ∧
      ∀ u, c.dir = .write →
        (slotWrite j (o + c.len) s = (u, true) → arrive c s = (u, .forward c.addr.toNat none)) ∧
        (slotWrite j (o + c.len) s = (u, false) → arrive c s = (u, .drop)) := by
  subst hj ho
  simp only [arrive, hd, arrivePicture]
  refine ⟨fun hr => by simp only [hr], fun u hw => ⟨fun taken => ?_, fun refused => ?_⟩⟩
  · simp only [hw, taken, verdict, if_true]
  · simp only [hw, refused, verdict, Bool.false_eq_true, if_false]

/-! ### The end of a PICTURE read -/

/-- The Store makes the same of a reported read whatever the port holds and whatever else is latched. -/
theorem reportRead_abandoned (j o n : Nat) (data : Option (List Byte)) (bits : BitVec 28) (s : State) :
    reportRead j o n data (s.abandoned bits) = (reportRead j o n data s).abandoned bits := by
  have slot : (s.abandoned bits).slot? j = s.slot? j := rfl
  unfold reportRead
  rw [slot]
  cases s.slot? j with
  | none => rfl
  | some x =>
    dsimp only
    have drained : setDrained j (x.reported o n data).slot (x.reported o n data).marked (s.abandoned bits) =
        (setDrained j (x.reported o n data).slot (x.reported o n data).marked s).abandoned bits := by
      unfold setDrained
      split <;> rfl
    rw [drained]
    cases (x.reported o n data).bit with
    | none => rfl
    | some b =>
      simp only [latchSome, latch, State.abandoned, BitVec.or_assoc, BitVec.or_comm bits]

theorem reportPicture_abandoned (x : Flight) (picture : Option (Nat × Nat)) (st : Status) (data : List Byte)
    (bits : BitVec 28) (s : State) :
    reportPicture x picture st data (s.abandoned bits) = (reportPicture x picture st data s).abandoned bits := by
  cases picture with
  | none => rfl
  | some w => exact reportRead_abandoned w.1 w.2 x.len _ bits s

/-- What the Store makes of a host transaction's end (R14). -/
def State.seen (s : State) (x : Flight) (picture : Option (Nat × Nat)) (data : Option (List Byte)) : State :=
  match picture with
  | some (j, o) => reportRead j o x.len data s
  | none => s

theorem seen_changes (x : Flight) (picture : Option (Nat × Nat)) (data : Option (List Byte)) :
    Changes [.store, .status] s (s.seen x picture data) := by
  unfold State.seen
  split
  · exact reportRead_changes s _ _ _ _
  · exact .refl s

/-- The report comes first, and then the host's completion, with nothing more in flight. -/
theorem endHost_abandoned {x : Flight} {picture : Option (Nat × Nat)} {rest : List HostTransaction} {st : Status}
    {data : List Byte} {bits : BitVec 28} (hq : s.port.inbound = c :: rest) (hr : ∀ y ∈ rest, isMalformed y = false)
    (hv : v = s.seen x picture (if st = .ok then some data else none)) :
    endHost x picture st data (s.abandoned bits) =
      { v with
        hostOut :=
          s.hostOut ++
            [{ tag := c.tag, status := st, data := if x.dir = Direction.read ∧ st = Status.ok then data else [] }]
        port := { s.port with flight := none, view := none, inbound := rest }
        status := { v.status with latched := v.status.latched ||| bits } } := by
  have changed : Changes [.store, .status] s v := hv ▸ seen_changes x picture _
  have reported : reportPicture x picture st data s = v := hv.symm
  have queue : (v.abandoned bits).port.inbound = c :: rest := by
    show v.port.inbound = _
    rw [changed.port_eq, hq]
  unfold endHost
  rw [reportPicture_abandoned, reported, completeHead_of_wellFormed st _ queue hr]
  simp only [State.abandoned, changed.port_eq, changed.hostOut_eq]

/-- The fourth part of O53: at its end a PICTURE read is reported to its slot. -/
theorem hostEnds {x : Flight} {picture : Option (Nat × Nat)} {rest : List HostTransaction}
    {seen : Option (List Byte) → State} (hr : s.resetN = true) (hf : s.port.flight = some x)
    (hk : x.kind = .host picture) (hq : s.port.inbound = c :: rest) (wf : ∀ y ∈ rest, isMalformed y = false)
    (hs : ∀ data, seen data = s.seen x picture data) :
    (∀ (st : Status) (data : List Byte) (v : State), v = seen (if st = .ok then some data else none) →
      ∃ u, exec (.memoryCompletion x.tag st data) s = exec .arbiterTurn u ∧
        u.settled =
          { v with
            hostOut :=
              s.hostOut ++
                [({ tag := c.tag, status := st
                    data := if x.dir = Direction.read ∧ st = Status.ok then data else [] } : HostCompletion)]
            port := { s.port with flight := none, view := none, inbound := rest } }.settled) ∧
    ∀ v : State, v = seen none → 100 ≤ (s.partTime - x.issued).toNat →
      ∃ u, exec .memoryTimeout s = exec .arbiterTurn u ∧
        u.settled =
          { v with
            hostOut := s.hostOut ++ [({ tag := c.tag, status := .error, data := [] } : HostCompletion)]
            port := { s.port with flight := none, view := none, inbound := rest }
            status := { v.status with latched := v.status.latched ||| LatchedBit.memTimeout.mask } }.settled := by
  refine ⟨fun st data v hv => ?_, fun v hv late => ?_⟩
  · have row := exec_memoryCompletion s st data hr hf
    have ended : endFlight x st data s = endHost x picture st data (s.abandoned 0) := by
      simp only [endFlight, hk, abandoned_zero]
    refine ⟨_, turn_after_end (by rw [endFlight_resetN, hr]) row, ?_⟩
    rw [settled_finish, ended, endHost_abandoned hq wf (hv.trans (hs _))]
    rw [show v.status.latched ||| 0 = v.status.latched from BitVec.or_zero]
  · have row := exec_memoryTimeout s hr hf late
    have ended : endFlight x .error [] (latch .memTimeout s) =
        endHost x picture .error [] (s.abandoned LatchedBit.memTimeout.mask) := by
      simp only [endFlight, hk]
      rfl
    refine ⟨_, turn_after_end (by rw [endFlight_resetN]; exact hr) row, ?_⟩
    rw [settled_finish, ended, endHost_abandoned hq wf (hv.trans (hs _))]
    simp only [reduceCtorEq, and_false, if_false]

/-- Settles O53: the pieces, the arrivals window by window, and the end of a host transaction. -/
theorem viewPiecesCoverTheRead : Obligations.ViewPiecesCoverTheRead := by
  refine ⟨viewPieces_spec, fun s p c a hp ha => ?_, fun s c a ha => ?_, fun s x picture c rest seen hr hf hk hq wf hs =>
    hostEnds hr hf hk hq wf hs, fun s c addr picture => rfl⟩
  · subst ha
    refine ⟨fun w k o hd hk ho => ⟨fun hr => ?_, fun g u hw hg => ?_⟩, fun v hd hr => ?_,
      fun v k q x y h0 h1 hk hq hx hy => viewByte_inside hp h0 h1 hk hq hx hy, fun v h => viewByte_outside h,
      fun w hd => ⟨fun hw pinned => (arrive_pool hd).1 hw pinned, (arrive_pool hd).2⟩⟩
    · rw [arrive_raw_read hd hr, ← hk, ← ho, poolAddress_eq hp]
    · subst hk ho
      refine ⟨fun passed => ?_, fun dropped => arrive_raw_write hd hg hw dropped⟩
      have windows := offerRawWrite_changes s g ((c.addr.toNat - w.base) / w.bufsz) ((c.addr.toNat - w.base) % w.bufsz) c
      rw [passed] at windows
      have pool : u.windows.pool = some p := (congrArg Windows.pool windows.windows_eq).trans hp
      rw [arrive_raw_write hd hg hw passed, verdict, if_pos rfl, poolAddress_eq pool]
    · simp only [arrive, hd, arriveView, hr]
  · subst ha
    exact ⟨arrive_control, fun w j o hd hj ho => arrive_picture hd hj ho⟩

end Sys2Proof.Machine
end
